-- ==== Sys2Proof/Word.lean ====
section
/-! DEFINITION. The word types of the model.  A byte is the smallest unit the spec addresses (R7).  Values of dictionary entries are
kept as natural numbers below 2^(8*size), the raw two's-complement image of the entry (R12). -/

namespace Sys2Proof

/-- One byte of a memory, a frame or a DOMAIN value. -/
abbrev Byte := BitVec 8

/-- A cell number, 0 to 3 (R11). -/
abbrev CellNo := Fin 4

end Sys2Proof
end

