-- ==== Sys2Proof/Syntax.lean ====
section
/-! DEFINITION. The commands of the part: one constructor per row of spec/opcode_table.json, with its operands. -/

namespace Sys2Proof

/-- When a command takes place: ns since power-on, and the cycle of the addressed cell (its cc index, or its bypass cycle). -/
structure When where
  ns : Nat
  cc : Nat
deriving DecidableEq, Repr

/-- The ports of the dictionary arbiter (R413). -/
inductive Port where
  | pcie
  | eth
  | can
  | pangobor
  | wide
deriving DecidableEq, Repr

/-- A measurement of a timeline source the tracker takes (R510), before it is resolved into steps: the source's own count at the first
sample of the next swath in 2^-64 tick, and its rate, as an advance of `num` 2^-64 tick over `den` samples. -/
structure MeasIn where
  src : Nat
  pos64 : Nat
  num : Nat
  den : Nat
deriving DecidableEq, Repr

/-- Reference cycles one after another with one phase error, in 0.25 ps, and the first sample of the first of them (R107, R108). -/
structure RefRun where
  err : Int
  cycles : Nat
  first : Nat
deriving DecidableEq, Repr

/-- The instant a strobe reaches one cell (R40, R42): the cycle, and the first sample of it at or after the instant. -/
structure StrobeAt where
  cc : Nat
  sub : Nat
deriving DecidableEq, Repr

/-- The same for the four cells. -/
structure Strobe4 where
  c0 : StrobeAt
  c1 : StrobeAt
  c2 : StrobeAt
  c3 : StrobeAt
deriving DecidableEq, Repr

/-- Who asks for open accesses (R405): the raster's overlay and cursor fetches, the pattern engine, the mover, partner writes, the host
through BAR2, and scrub. -/
inductive Party where
  | overlay
  | cursor
  | pattern
  | mover
  | partner
  | host
  | scrub
deriving DecidableEq, Repr

/-- A client of the Ethernet port: source address and port (R439). -/
structure Peer where
  addr : Nat
  port : Nat
deriving DecidableEq, Repr

/-- An HDAP request: its client, Sequence, entry and Offset (R439). -/
structure HdapReq where
  peer : Peer
  seq : Nat
  ix : Nat
  sub : Nat
  offset : Nat
deriving DecidableEq, Repr

/-- A datagram that is no request: malformed, or a request with a reserved opcode (R439). -/
inductive BadDatagram where
  | malformed
  | reserved (req : HdapReq) (opcode : Nat)
deriving DecidableEq, Repr

/-- A CAN bus error: in one of the device's transmissions, or in one it received, with the weight ISO 11898-1 gives it (R435). -/
inductive CanError where
  | transmit
  | receive
  | receiveDominant
deriving DecidableEq, Repr

/-- An instant: ns since power-on, the cycle of each cell, and the level of PROFILE_SEL[1:0], which a device reset would read. -/
structure When4 where
  ns : Nat
  at' : Strobe4
  sel : Fin 4
deriving DecidableEq, Repr

/-- What a configuration read asks for: the registers whose contents R425, R427, R428 or R433 gives. -/
inductive ConfigReg where
  | identity | classCode | subsystem | interruptPin | command | deviceControl | deviceControl2 | msixControl | power | link | errors
deriving DecidableEq, Repr

/-- A configuration request: a read, or a write of the Command register, of Device Control (payload and read request codes), of Device
Control 2 (timeout code and disable), of the MSI-X control word, of the power state (D3hot or D0), or of the AER status, to clear it (R425,
R427, R433). -/
inductive ConfigOp where
  | read (r : ConfigReg)
  | power (d3hot : Bool)
  | clearErrors
  | command (busMaster : Bool)
  | device (mps mrrs : Fin 8)
  | device2 (timeout : Fin 16) (disable : Bool)
  | msix (enable mask : Bool)
deriving DecidableEq, Repr

/-- The data set of a received Announce (R457). -/
structure AnnounceIn where
  priority1 : Nat
  cls : Nat
  accuracy : Nat
  variance : Nat
  priority2 : Nat
  identity : Nat
deriving DecidableEq, Repr

/-- A write of an indicator's curve (R474): its mode or its parameter. -/
inductive CurveWrite where
  | mode (v : Nat)
  | param (v : Nat)
deriving DecidableEq, Repr

/-- A sample of the converter array: a corrected sample as the consumers get it, in 1/64 code; a raw code with its over-range bit, and
whether Vd is negative (R83, R84, R123); or Vd in µV at a sub-converter without mismatch (R80). -/
inductive Samp where
  | corrected (v : Int)
  | raw (x : Int) (ovr neg : Bool)
  | ideal (uv : Int)
deriving DecidableEq, Repr

/-- What foreground calibration measured for one range, before the clamp of R129, in coefficient LSB (R124). -/
structure FgSet where
  offset : List Int
  gain : List Int
  timing : List Int
  beta : List Int
deriving DecidableEq, Repr

/-- The tone level check failed in this step of this range, at this index (R128, R129). -/
structure ToneFail where
  step : Nat
  range : Nat
  index : Nat
deriving DecidableEq, Repr

/-- Fifteen raw codes one after another, each with its over-range bit, and how often a background block held them about a sample of one
sub-converter, which is the eighth (R131). -/
structure BgWindow where
  raw : List (Int × Bool)
  n : Nat
deriving DecidableEq, Repr

/-- What a background block saw (R131, R132): for each sub-converter the windows about its samples, and the block's energy above Fs/16 as a
part of 2^32. -/
structure BgBlock where
  windows : List (List BgWindow)
  highPart : Nat
deriving DecidableEq, Repr

/-- An edge of the auxiliary comparator as a unit sees it: its digital placement sample (R183). -/
structure AuxEdge where
  rising : Bool
  sample : Nat
deriving DecidableEq, Repr

/-- Logic samples `n` times over: the voltages at Cn_LIN[15:0] in µV, input 0 first, with the corrected sample at the analog index and
whether it is settled (R98, R182, R386). -/
structure LogicRun where
  pins : List Int
  sample : Int
  settled : Bool
  n : Nat
deriving DecidableEq, Repr

/-- What a condition unit is given to judge, from its next sample on: corrected samples as (value, how many), comparator edges with
the first sample not yet seen, or logic words (R169). -/
inductive Feed where
  | analog (runs : List (Int × Nat))
  | aux (edges : List AuxEdge) (upTo : Nat)
  | logic (runs : List LogicRun)
deriving DecidableEq, Repr

/-- A symbol of the recovery (R185, R187): the first and the last stage-1 output of its interpolation span. -/
structure SymbolIn where
  lo : Nat
  hi : Nat
deriving DecidableEq, Repr

/-- Corrected samples of one value in a histogram block, in 1/64 code (R201): whether they are unsettled or over range, and how many. -/
structure TrackRun where
  value : Int
  unsettled : Bool
  overRange : Bool
  n : Nat
deriving DecidableEq, Repr

/-- The comparator whose edge the TDC stamps (R237, R238): the auxiliary one, or the analog-edge one with the front-end output it
switches at, in µV. -/
inductive TdcSource where
  | aux
  | edge (rising : Bool) (uv : Int)
deriving DecidableEq, Repr

/-- Skew trims a placement calibration found: auxiliary and analog-edge in 10 fs, and the logic sampler phases in 0.5 ps (R234). -/
structure SkewTrims where
  aux : Int
  edge : Int
  logic0 : Int
  logic1 : Int
deriving DecidableEq, Repr

/-- What a placement calibration found (R234, R235, R239): the skew trims, and the histogram of the fine codes of each TDC unit. -/
structure PlacementReport where
  trims : SkewTrims
  hist0 : List Nat
  hist1 : List Nat
deriving DecidableEq, Repr

/-- What a TDC unit reads at an edge (R237): steps of 50 ps, and a fine code. -/
structure TdcReading where
  coarse : Int
  fine : Nat
deriving DecidableEq, Repr

/-- When the spare unit's histogram is full, and its counts from fine code 0 on (R239). -/
structure TdcTable extends When where
  hist : List Nat
deriving DecidableEq, Repr

/-- Where the leg-overload detector changes (R84): the sample from which it holds, and the two legs in µV. -/
structure LegEdge where
  sample : Nat
  p : Int
  q : Int
deriving DecidableEq, Repr

/-- A command slot of the present cc: its channel, and which of the cc's memory cycles it is in (R49, R54). -/
structure SlotAt where
  ch : Fin 4
  sub : Nat
deriving DecidableEq, Repr

/-- What memory bring-up found on one channel: MR0, MR1, MR2, whether rank 1 answered, whether the strobes were there in steps 6 and 8, the
narrowest eye of step 10 in 1/64 UI, the temperature and the read and write trims (R272 to R274). -/
structure ChannelReport where
  mr0 : Nat
  mr1 : Nat
  rowCount : Nat
  rank1 : Bool
  strobes : Bool
  eye : Nat
  temp : Int
  readTrims : List Byte
  writeTrims : List Byte
deriving DecidableEq, Repr

/-- What a retrain found on one channel: its trims, and the eye of every DQ in 1/64 UI (R295). -/
structure RetrainReport where
  readTrims : List Byte
  writeTrims : List Byte
  eyes : List Nat
deriving DecidableEq, Repr

/-- What the wake-up checks found on one channel (R287): for every DQ how far its eye centre lies from its trim, and its eye, in 1/64 UI;
then what the full training of step 4 gives, where it runs: the narrowest eye and the trims. -/
structure WakeReport where
  offsets : List Int
  eyes : List Nat
  eye : Nat
  readTrims : List Byte
  writeTrims : List Byte
deriving DecidableEq, Repr

/-- What the wake-up checks found, channel by channel (R287). -/
structure WakeReports where
  ch0 : WakeReport
  ch1 : WakeReport
  ch2 : WakeReport
  ch3 : WakeReport
deriving DecidableEq, Repr

/-- What a BAR0 request is: a write, a write with the poisoned indication, or a read of the bytes enabled (R426, R428, R429). -/
inductive Tlp where
  | write | poisoned | read
deriving DecidableEq, Repr

/-- A frame on the CAN FD bus that is no request of its own: one of a kind that is ignored, or an FD frame with its identifier, byte 0 and
the index and sub of bytes 1 to 3, whose identifier is another or whose byte 0 is no service (R435, R436). -/
inductive CanOther where
  | ignored (ns : Nat)
  | frame (ns id head ix sub : Nat)
deriving DecidableEq, Repr

/-- A received delay message: the last one of an exchange of the clock's own, end-to-end or between peers, or another clock's request
(R457). -/
inductive DelayIn where
  | response (peer : Bool)
  | request (peer : Bool)
deriving DecidableEq, Repr

inductive Instr where
  | dictWrite (w : When4) (p : Port) (ix sub : Nat) (data : List Byte) (enables : List Bool) (kind : Tlp)
  | swathBoundary (n : CellNo) (w : When)
  | trackerUpdate (n : CellNo) (w : When) (ms : List MeasIn)
  | sourceLost (n : CellNo) (w : When) (src : Nat)
  | sourceReturn (n : CellNo) (w : When) (src : Nat)
  | epochStrobe (ns : Nat) (p : Port) (t : Strobe4)
  | ppsInputEdge (ns ptpNs : Nat) (t : Strobe4)
  | imageStagedWrite (n : CellNo) (w : When) (p : Port) (data : List Byte)
  | imageVerifyDone (n : CellNo) (w : When)
  | swapRequest (n : CellNo) (w : When) (p : Port)
  | commit (n : CellNo) (w : When) (p : Port)
  | pulse (n : CellNo) (w : When) (idx : Nat)
  | arm (n : CellNo) (w : When) (idx : Nat)
  | stop (n : CellNo) (w : When) (idx : Nat)
  | windowOpen (n : CellNo) (w : When) (idx : Nat)
  | windowClose (n : CellNo) (w : When) (idx : Nat)
  | segmentStart (n : CellNo) (w : When) (idx : Nat)
  | patternRelease (n : CellNo) (w : When) (idx : Nat)
  | eyeOrigin (n : CellNo) (w : When) (idx : Nat)
  | forceTrigger (n : CellNo) (w : When) (idx : Nat)
  | accGateOn (n : CellNo) (w : When) (idx : Nat)
  | accGateOff (n : CellNo) (w : When) (idx : Nat)
  | swEvent (n : CellNo) (w : When) (p : Port) (j : Fin 8)
  | eventCountClear (n : CellNo) (w : When) (p : Port) (mask : Nat)
  | eviEdge (n : CellNo) (w : When) (pin : Fin 2) (rising late : Bool)
  | dreqEdge (n : CellNo) (w : When) (pin : Fin 2) (late : Bool)
  | evoPulseStart (n : CellNo) (w : When) (pin : Fin 2)
  | evoPulseEnd (n : CellNo) (w : When) (pin : Fin 2)
  | overRangeSample (n : CellNo) (w : When) (k : Nat)
  | legOverloadEnter (n : CellNo) (w : When) (x : LegEdge)
  | legOverloadExit (n : CellNo) (w : When) (x : LegEdge)
  | overRangeClear (n : CellNo) (w : When) (p : Port)
  | auxEdge (n : CellNo) (w : When) (rising : Bool) (vin : Int)
  | synthLock (n : CellNo) (w : When) (rs : List RefRun)
  | synthUnlock (n : CellNo) (w : When) (rs : List RefRun)
  | refActivityLoss (n : CellNo) (w : When) (noEdges : Bool) (hz first : Nat)
  | refActivityDeclared (n : CellNo) (w : When) (hz : Nat)
  | bypassSwitch (n : CellNo) (w : When)
  | holdoffExpiry (n : CellNo) (w : When) (lag : Fin 5)
  | memPllLock (n : CellNo) (w : When) (lag : Fin 5)
  | freshSwathStart (n : CellNo) (w : When)
  | fgCalDone (n : CellNo) (w : When) (coarse : List Int) (sets : List FgSet) (tone : Option ToneFail) (durUs : Nat)
  | placementCalDone (n : CellNo) (w : When) (r : PlacementReport)
  | bgBlockEnd (n : CellNo) (w : When) (b : BgBlock)
  | recalRequest (n : CellNo) (w : When) (p : Port)
  | recalDone (n : CellNo) (w : When)
  | coefSetWrite (n : CellNo) (w : When) (p : Port) (r : Fin 8) (data : List Byte)
  | stage2BankWrite (n : CellNo) (w : When) (p : Port) (k : Fin 4) (b : Fin 2) (data : List Byte)
  | bankSwapRequest (n : CellNo) (w : When) (p : Port) (k : Fin 4)
  | fadeEnd (n : CellNo) (w : When) (k : Fin 4)
  | deferredSwapStart (n : CellNo) (w : When) (k : Fin 4)
  | filterCountClear (n : CellNo) (w : When) (p : Port)
  | unitEvent (n : CellNo) (w : When) (u : Fin 4) (fd : Feed)
  | timeoutEvent (n : CellNo) (w : When) (u : Fin 4) (fd : Feed)
  | seqExpiry (n : CellNo) (w : When)
  | unsettledSampleClear (n : CellNo) (w : When) (lo hi : Nat)
  | symbolMatch (n : CellNo) (w : When) (symbols : List SymbolIn) (first : Nat) (outs : List Int)
  | cdrBlockEnd (n : CellNo) (w : When) (symbols : List SymbolIn) (first : Nat) (outs : List Int) (last : SymbolIn)
  | trackBlockEnd (n : CellNo) (w : When) (samps : List TrackRun)
  | triggerCandidate (n : CellNo) (w : When)
  | triggerCountClear (n : CellNo) (w : When) (p : Port)
  | armRequest (n : CellNo) (w : When) (p : Port)
  | armStartLinePulse (n : CellNo) (w : When)
  | armedEntry (n : CellNo) (w : When)
  | autoTimeout (n : CellNo) (w : When)
  | forceTriggerWrite (n : CellNo) (w : When) (p : Port)
  | segmentClose (n : CellNo) (w : When)
  | rearmEnd (n : CellNo) (w : When)
  | stopWrite (n : CellNo) (w : When) (p : Port)
  | stopLinePulse (n : CellNo) (w : When)
  | armCountClear (n : CellNo) (w : When) (p : Port)
  | tdcEdge (n : CellNo) (w : When) (src : TdcSource) (t : Nat) (r : TdcReading) (digital : Nat)
  | skewRecalDone (n : CellNo) (w : When) (t : SkewTrims)
  | tdcTableComplete (n : CellNo) (w : TdcTable)
  | tdcCalIntervalExpiry (n : CellNo) (w : When)
  | stookPack (n : CellNo) (w : When) (k : Fin 4) (first : Nat) (samps : List Samp)
  | stookQueue (n : CellNo) (w : When) (p : Fin 4)
  | stookDrain (n : CellNo) (w : When) (j : Fin 4) (a : SlotAt) (flip : Nat)
  | segmentEntryWrite (n : CellNo) (w : When) (p : Fin 4) (a : SlotAt)
  | gapEntryWrite (n : CellNo) (w : When) (p : Fin 4) (a : SlotAt)
  | captureCountClear (n : CellNo) (w : When) (p : Port)
  | bar4Read (n : CellNo) (w : When) (off len : Nat) (flips : List (Nat × Nat))
  | bar4Write (n : CellNo) (w : When) (off : Nat) (data : List Byte) (enables : List Bool) (ep : Bool)
  | bar2Read (n : CellNo) (w : When) (off len : Nat)
  | bar2Write (n : CellNo) (w : When) (off : Nat) (data : List Byte) (enables : List Bool) (ep : Bool)
  | memBringUpDone (n : CellNo) (w : When) (r0 r1 r2 r3 : ChannelReport)
  | fixedRead (n : CellNo) (w : When) (a : SlotAt)
  | fixedReadData (n : CellNo) (w : When) (flip : Nat)
  | openAdmit (n : CellNo) (w : When) (a : SlotAt)
  | openReadData (n : CellNo) (w : When) (p : Party) (flip : Nat)
  | refresh (n : CellNo) (w : When)
  | mr4Poll (n : CellNo) (w : When) (t0 t1 t2 t3 : Int)
  | selfRefreshEntry (n : CellNo) (w : When)
  | memWake (n : CellNo) (w : When)
  | memWakeWrite (n : CellNo) (w : When) (p : Port)
  | wakeDone (n : CellNo) (w : When) (r : WakeReports)
  | scrubRead (n : CellNo) (w : When) (ch : Fin 4) (sub : Nat)
  | scrubYield (n : CellNo) (w : When)
  | retrainDone (n : CellNo) (w : When) (r0 r1 r2 r3 : RetrainReport)
  | retrainRequest (n : CellNo) (w : When) (p : Port)
  | retrainIntervalExpiry (n : CellNo) (w : When)
  | channelFail (n : CellNo) (w : When) (ch : Fin 4) (atRetrain : Bool)
  | memErrorClear (n : CellNo) (w : When) (p : Port)
  | haywardGrant (n : CellNo) (w : When)
  | grantWindowEnd (n : CellNo) (w : When)
  | haywardCountClear (n : CellNo) (w : When) (p : Port)
  | accIntake (n : CellNo) (w : When) (q first : Nat) (samps : List Samp)
  | accApply (n : CellNo) (w : When) (flips : List (Nat × Nat))
  | accStart (n : CellNo) (w : When) (p : Port)
  | accFreeze (n : CellNo) (w : When) (p : Port)
  | accResume (n : CellNo) (w : When) (p : Port)
  | accClear (n : CellNo) (w : When) (p : Port)
  | accFrozen (n : CellNo) (w : When)
  | accClearDone (n : CellNo) (w : When)
  | accCountClear (n : CellNo) (w : When) (p : Port)
  | rasterEnable (n : CellNo) (w : When) (p : Port)
  | rasterDisable (n : CellNo) (w : When) (p : Port)
  | rasterFirstFrame (n : CellNo) (w : When)
  | dsiStartupWrite (n : CellNo) (w : When) (p : Port) (data : List Byte)
  | frameStart (n : CellNo) (w : When)
  | lineStart (n : CellNo) (w : When) (flips : List (Nat × Nat))
  | vblankStart (n : CellNo) (w : When)
  | modeSwitchEnd (n : CellNo) (w : When)
  | rasterCommit (n : CellNo) (w : When) (p : Port)
  | commitSample (n : CellNo) (w : When)
  | teEdge (n : CellNo) (w : When) (rising : Bool)
  | teTimeout (n : CellNo) (w : When)
  | cursorFetchDone (n : CellNo) (w : When)
  | rasterCountClear (n : CellNo) (w : When) (p : Port)
  | dmaRequest (n : CellNo) (w : When) (k : Fin 8)
  | moverTake (n : CellNo) (w : When)
  | descriptorFetch (n : CellNo) (w : When) (k : Fin 8) (flip0 flip1 : Nat)
  | burstStart (n : CellNo) (w : When) (k : Fin 8) (flips : List (Nat × Nat))
  | burstEnd (n : CellNo) (w : When) (k : Fin 8)
  | descriptorEnd (n : CellNo) (w : When) (k : Fin 8)
  | hostCompletion (n : CellNo) (w : When) (k : Fin 8) (status : Fin 3) (data : List Byte) (poisoned : Bool)
  | dmaCompletionTimeout (n : CellNo) (w : When) (k : Fin 8)
  | channelEnable (n : CellNo) (w : When) (p : Port) (k : Fin 8)
  | channelDisable (n : CellNo) (w : When) (p : Port) (k : Fin 8)
  | channelAbort (n : CellNo) (w : When) (p : Port) (k : Fin 8)
  | dmaCountClear (n : CellNo) (w : When) (p : Port)
  | portEnable (n : CellNo) (w : When) (p : Port)
  | portDisable (n : CellNo) (w : When) (p : Port)
  | portLocked (n : CellNo) (w : When)
  | portAligned (n : CellNo) (w : When)
  | portUp (n : CellNo) (w : When)
  | portDown (n : CellNo) (w : When)
  | portTrainTimeout (n : CellNo) (w : When)
  | portRetrainDelayExpiry (n : CellNo) (w : When)
  | rxIdle (n : CellNo) (w : When) (flit : Nat)
  | rxDmaData (n : CellNo) (w : When) (flit : Nat)
  | rxRequest (n : CellNo) (w : When) (flit : Nat)
  | rxPwrite (n : CellNo) (w : When) (flit : Nat)
  | rxLink (n : CellNo) (w : When) (flit : Nat)
  | rxBadFlit (n : CellNo) (w : When) (flit : Nat)
  | txFlit (n : CellNo) (w : When) (flips : List (Nat × Nat))
  | liveFlitTimeout (n : CellNo) (w : When) (p : Fin 4) (flips : List (Nat × Nat))
  | playbackStart (n : CellNo) (w : When) (p : Fin 4)
  | playbackStop (n : CellNo) (w : When) (p : Port) (k : Fin 4)
  | playbackEnd (n : CellNo) (w : When) (p : Fin 4)
  | portCountClear (n : CellNo) (w : When) (p : Port)
  | patternStart (n : CellNo) (w : When) (p : Port)
  | patternStartPulse (n : CellNo) (w : When)
  | patternStop (n : CellNo) (w : When) (p : Port)
  | halt (n : CellNo) (w : When)
  | play (n : CellNo) (w : When)
  | hold (n : CellNo) (w : When)
  | setc (n : CellNo) (w : When)
  | loop (n : CellNo) (w : When)
  | branch (n : CellNo) (w : When) (word : Nat)
  | waitTrig (n : CellNo) (w : When)
  | waitTrigDone (n : CellNo) (w : When)
  | waitTl (n : CellNo) (w : When)
  | event (n : CellNo) (w : When)
  | prefetchArrival (n : CellNo) (w : When) (flip : Nat)
  | patternCountClear (n : CellNo) (w : When) (p : Port)
  | msixTrigger (w : When) (line : Option (CellNo × Fin 64))
  | intClear (ns : Nat) (p : Port) (value : Nat)
  | configRequest (ns : Nat) (ready : Bool) (op : ConfigOp)
  | wideRead (w : When4) (p : Port)
  | wideWrite (w : When4) (p : Port)
  | wideDone (w : When4)
  | initiateDownloadExpedited (w : When4) (ix sub size : Nat) (data : List Byte)
  | initiateDownloadSegmented (ns ix sub size : Nat)
  | downloadSegment (w : When4) (toggle last : Bool) (data : List Byte)
  | initiateUpload (w : When4) (ix sub : Nat)
  | uploadSegment (ns : Nat) (toggle : Bool)
  | sdoAbort (ns : Nat)
  | sdoTimeout (ns : Nat)
  | canFrameIgnored (f : CanOther)
  | hdapRead (w : When4) (q : HdapReq) (len : Nat)
  | hdapReadContinue (w : When4) (q : HdapReq) (len : Nat)
  | hdapWrite (w : When4) (q : HdapReq) (data : List Byte)
  | hdapWriteSegment (w : When4) (q : HdapReq) (last : Bool) (data : List Byte)
  | hdapAssemblyTimeout (ns : Nat)
  | hdapBadDatagram (ns : Nat) (b : BadDatagram)
  | ethLinkChange (ns : Nat) (speed : Fin 3)
  | dhcpLease (ns : Nat) (addr : Option (BitVec 32))
  | ptpSyncRx (ns domain every : Nat) (origin arrival correction followUp : Int)
  | ptpAnnounceRx (ns domain every : Nat) (a : AnnounceIn)
  | ptpDelayRx (ns domain : Nat) (kind : DelayIn) (t1 t2 t3 t4 correction : Int)
  | ptpMessageTimeout (ns : Nat)
  | ppsOutputEdge (ns : Nat) (t : Strobe4)
  | watchdogRestart (ns : Nat)
  | managementResume (ns : Nat)
  | sensorSample (w : When4) (temps : List Int) (volts : List Nat)
  | logMirrorDone (ns : Nat) (ok : Bool)
  | mirrorIntervalExpiry (ns : Nat)
  | logRead (ns : Nat) (p : Port)
  | ntcSample (ns uv : Nat)
  | indTarget (ns : Nat) (p : Port) (n : CellNo) (col : Fin 3) (v : Nat)
  | indCurveWrite (ns : Nat) (p : Port) (n : CellNo) (col : Fin 3) (op : CurveWrite)
  | begin (ns : Nat) (p : Port)
  | eraseDone (ns : Nat) (ok : Bool)
  | programData (ns : Nat) (p : Port) (data : List Byte) (ok : Bool)
  | verify (ns : Nat) (p : Port)
  | verifyDone (ns : Nat)
  | activate (ns : Nat) (p : Port)
  | cancel (ns : Nat) (p : Port)
  | slotConfirm (ns : Nat)
  | profileStore (ns : Nat) (p : Port) (value : Nat)
  | profileStoreDone (ns : Nat)
  | profileErase (ns : Nat) (p : Port) (value : Nat)
  | profileEraseDone (ns : Nat)
  | profileActivate (ns : Nat) (p : Port) (value : Nat)
  | profileActivationDone (w : When4)
  | lcToProvisioned (ns : Nat) (p : Port)
  | lcToField (ns : Nat) (p : Port)
  | lcToService (ns : Nat) (p : Port)
  | lcToRetired (ns : Nat) (p : Port)
  | serviceExpiry (ns : Nat)
  | cellResetRequest (ns : Nat) (p : Port) (mask : Nat)
  | wipeSramDone (n : CellNo) (w : When)
  | wipeDone (ns mask : Nat)
  | deviceResetRequest (ns : Nat) (p : Port) (sel : Fin 4)
  | systemReset (ns low : Nat) (sel : Fin 4)
  | perstAssert (ns : Nat) (sel : Fin 4)
  | perstRelease (ns : Nat)
  | powerDrop (ns : Nat)
  | powerOnRelease (ns : Nat) (sel : Fin 4)
  | bypass (ns : Nat)
  | idcode (ns : Nat)
  | samplePreload (ns pins preload : Nat)
  | extest (ns pins : Nat)
  | extestPulse (ns pins : Nat)
  | extestTrain (ns pins : Nat)
  | clamp (ns : Nat)
  | highz (ns : Nat)
  | tapReset (ns : Nat)
  | rasterStopped (n : CellNo) (w : When)
  | indPwmPeriod (ns : Nat) (col : Fin 3)
  | ppsPulseEnd (ns : Nat)
  | ptpSyncInterval (ns : Nat)
  | canBusError (ns : Nat) (e : CanError)
  | busOffRecovery (ns : Nat)
  | arpRequest (ns : Nat) (target : BitVec 32)
  | icmpEchoRequest (ns : Nat) (target source : BitVec 32) (ident seq : Nat) (data : List Byte)
  | pcieLinkChange (ns : Nat) (speed : Fin 7) (width : Fin 5) (flit : Bool) (mps : Fin 3) (mrrs : Fin 6)
  | hostAreaWrite (ns off : Nat) (data : List Byte) (enables : List Bool) (ep : Bool)
deriving DecidableEq, Repr

end Sys2Proof
end

