-- ==== Sys2Proof/Machine/Bits.lean ====
section
/-! DEFINITION. Bit fields, signed views, little-endian packing (R7) and the counter arithmetic of the part.
Everything here is structural or plain `Nat`/`Int` arithmetic, so the kernel can evaluate it. -/

namespace Sys2Proof.Machine

/-- Bits `[lo + w - 1 : lo]` of a raw value (R5). -/
def bits (v lo w : Nat) : Nat := v / 2 ^ lo % 2 ^ w

/-- Bit `i` of a raw value. -/
def bit (v i : Nat) : Bool := v / 2 ^ i % 2 == 1

/-- A flag as a BOOL entry's raw value (R12). -/
def b2n (b : Bool) : Nat := if b then 1 else 0

/-- The two's-complement reading of a raw value of `w` bits (R12). -/
def sgn (w v : Nat) : Int := if v % 2 ^ w < 2 ^ (w - 1) then (v % 2 ^ w : Nat) else (v % 2 ^ w : Nat) - (2 ^ w : Nat)

/-- The raw image of a signed value in `w` bits (R12). -/
def raw (w : Nat) (x : Int) : Nat := (x % (2 ^ w : Nat)).toNat

/-- Bits of `v` with bit `i` set. -/
def setBit (v i : Nat) : Nat := v ||| 2 ^ i

/-- Bits of `v` with bit `i` cleared. -/
def clrBit (v i : Nat) : Nat := if bit v i then v - 2 ^ i else v

/-- A counter of `w` bits that wraps to 0. -/
def wrapAdd (w v d : Nat) : Nat := (v + d) % 2 ^ w

/-- A counter of `w` bits that stays at its highest value. -/
def satAdd (w v d : Nat) : Nat := min (v + d) (2 ^ w - 1)

/-- Saturation of an exact result to `w`-bit two's complement. -/
def satS (w : Nat) (x : Int) : Int := max (-(2 ^ (w - 1) : Nat)) (min x ((2 ^ (w - 1) : Nat) - 1))

/-- Round to nearest with ties to even of `x / 2^s`. -/
def rneShift (x : Int) (s : Nat) : Int :=
  if s = 0 then x else
  let q := x / (2 ^ s : Nat)
  let r := x % (2 ^ s : Nat)
  if 2 * r < (2 ^ s : Nat) then q else if (2 ^ s : Nat) < 2 * r then q + 1 else if q % 2 = 0 then q else q + 1

/-- Ceiling of a quotient. -/
def ceilDiv (a b : Nat) : Nat := (a + b - 1) / b

/-- `n` little-endian bytes of a value (R7). -/
def leBytes : Nat → Nat → List Byte
  | 0, _ => []
  | n + 1, v => BitVec.ofNat 8 v :: leBytes n (v / 256)

/-- The value of little-endian bytes (R7). -/
def leNat : List Byte → Nat
  | [] => 0
  | b :: bs => b.toNat + 256 * leNat bs

/-- The `n` bytes of a block from offset `i`. -/
def slice (bs : List Byte) (i n : Nat) : List Byte := (bs.drop i).take n

/-- A little-endian field of a block: `n` bytes from offset `i`. -/
def fld (bs : List Byte) (i n : Nat) : Nat := leNat (slice bs i n)

/-- A block of `n` zero bytes. -/
def zeros (n : Nat) : List Byte := List.replicate n 0

/-- The bytes of a big-endian field, the published-standard order R7 keeps. -/
def beBytes (n v : Nat) : List Byte := (leBytes n v).reverse

/-- The value of big-endian bytes. -/
def beNat (bs : List Byte) : Nat := leNat bs.reverse

/-- Cut a list into pieces of `n`, at most `fuel` of them. -/
def chunks {α : Type} (n : Nat) : Nat → List α → List (List α)
  | 0, _ => []
  | _, [] => []
  | f + 1, xs => xs.take n :: chunks n f (xs.drop n)

/-- Replace the bytes of a block from offset `i`. -/
def patch (bs : List Byte) (i : Nat) (new : List Byte) : List Byte :=
  bs.take i ++ new ++ bs.drop (i + new.length)

/-- A sum over a list. -/
def sumMap {α : Type} (f : α → Int) : List α → Int
  | [] => 0
  | a :: as => f a + sumMap f as

end Sys2Proof.Machine
end

