-- ==== Sys2Proof/Machine/Sha.lean ====
section
/-! DEFINITION. SHA-256 (the image hash of R53, the profile hash) and SHA-384 (the firmware and token digests), written over
natural numbers reduced to the word width.  The constants are those of the published standard the spec names. -/

namespace Sys2Proof.Machine

/-- Word rotation to the right in `w` bits. -/
def rotr (w x n : Nat) : Nat := (x >>> n ||| x <<< (w - n)) % 2 ^ w

/-- What the two members of the family differ in. -/
structure ShaSpec where
  w : Nat                       -- word bits
  rounds : Nat
  k : List Nat
  big0 : Nat × Nat × Nat
  big1 : Nat × Nat × Nat
  small0 : Nat × Nat × Nat      -- two rotations and a shift
  small1 : Nat × Nat × Nat

def bigSigma (w : Nat) (r : Nat × Nat × Nat) (x : Nat) : Nat := rotr w x r.1 ^^^ rotr w x r.2.1 ^^^ rotr w x r.2.2
def smallSigma (w : Nat) (r : Nat × Nat × Nat) (x : Nat) : Nat := rotr w x r.1 ^^^ rotr w x r.2.1 ^^^ (x >>> r.2.2)

/-- The message schedule, newest word first. -/
def shaSchedule (sp : ShaSpec) : Nat → List Nat → List Nat
  | 0, ws => ws
  | n + 1, ws =>
    let v := (smallSigma sp.w sp.small1 (ws.getD 1 0) + ws.getD 6 0 + smallSigma sp.w sp.small0 (ws.getD 14 0) + ws.getD 15 0) % 2 ^ sp.w
    shaSchedule sp n (v :: ws)

/-- The eight working words of the compression function. -/
structure ShaVars where
  a : Nat
  b : Nat
  c : Nat
  d : Nat
  e : Nat
  f : Nat
  g : Nat
  h : Nat

def shaRound (sp : ShaSpec) (v : ShaVars) (kw : Nat × Nat) : ShaVars :=
  let m := 2 ^ sp.w
  let ch := (v.e &&& v.f) ^^^ ((m - 1 - v.e) &&& v.g)
  let t1 := (v.h + bigSigma sp.w sp.big1 v.e + ch + kw.1 + kw.2) % m
  let maj := (v.a &&& v.b) ^^^ (v.a &&& v.c) ^^^ (v.b &&& v.c)
  let t2 := (bigSigma sp.w sp.big0 v.a + maj) % m
  ⟨(t1 + t2) % m, v.a, v.b, v.c, (v.d + t1) % m, v.e, v.f, v.g⟩

def ShaVars.toList (v : ShaVars) : List Nat := [v.a, v.b, v.c, v.d, v.e, v.f, v.g, v.h]

def shaVarsOf (h : List Nat) : ShaVars :=
  ⟨h.getD 0 0, h.getD 1 0, h.getD 2 0, h.getD 3 0, h.getD 4 0, h.getD 5 0, h.getD 6 0, h.getD 7 0⟩

def shaBlock (sp : ShaSpec) (h : List Nat) (block : List Byte) : List Nat :=
  let ws0 := (chunks (sp.w / 8) 16 block).map beNat
  let ws := (shaSchedule sp (sp.rounds - 16) ws0.reverse).reverse
  let v := (sp.k.zip ws).foldl (shaRound sp) (shaVarsOf h)
  h.zipWith (fun x y => (x + y) % 2 ^ sp.w) v.toList

/-- Padding: 80h, zeros, and the bit length in a double word. -/
def shaPad (sp : ShaSpec) (msg : List Byte) : List Byte :=
  let blk := 2 * sp.w
  let z := (blk - (msg.length + 1 + sp.w / 4) % blk) % blk
  msg ++ (0x80 : Byte) :: zeros z ++ beBytes (sp.w / 4) (8 * msg.length)

def shaDigest (sp : ShaSpec) (h0 : List Nat) (msg : List Byte) : List Byte :=
  let p := shaPad sp msg
  ((chunks (2 * sp.w) (p.length / (2 * sp.w)) p).foldl (shaBlock sp) h0).flatMap (beBytes (sp.w / 8))

/-! The constants: the first bits behind the binary point of the roots of the first primes, as the standard defines them. -/

/-- A prime below 441: no divisor from 2 to its square root. -/
def smallPrime (p : Nat) : Bool := 2 ≤ p && (List.range 21).all (fun d => d < 2 || p < d * d || p % d != 0)

/-- The first 80 primes. -/
def shaPrimes : List Nat := (List.range 410).filter smallPrime

/-- The largest number from `r` to `r + 2^bits - 1` whose `k`-th power is at most `x`, for an `r` of which that holds. -/
def rootFrom (k x : Nat) : Nat → Nat → Nat
  | 0, r => r
  | b + 1, r => rootFrom k x b (if (r + 2 ^ b) ^ k ≤ x then r + 2 ^ b else r)

/-- The first `w` bits of the fraction of the `k`-th root of `p`. -/
def rootBits (w k p : Nat) : Nat := rootFrom k (p * 2 ^ (k * w)) (w + 5) 0 % 2 ^ w

/-- The round constants come of cube roots. -/
def roundConstants (w rounds : Nat) : List Nat := (shaPrimes.take rounds).map (rootBits w 3)

/-- The first hash value comes of the square roots of eight primes. -/
def firstHash (w skip : Nat) : List Nat := ((shaPrimes.drop skip).take 8).map (rootBits w 2)

def sha256Spec : ShaSpec := ⟨32, 64, roundConstants 32 64, (2, 13, 22), (6, 11, 25), (7, 18, 3), (17, 19, 10)⟩
def sha512Spec : ShaSpec := ⟨64, 80, roundConstants 64 80, (28, 34, 39), (14, 18, 41), (1, 8, 7), (19, 61, 6)⟩

/-- SHA-256 of a byte block (R53). -/
def sha256 (msg : List Byte) : List Byte := shaDigest sha256Spec (firstHash 32 0) msg

/-- SHA-384 of a byte block: the 64-bit member from the ninth to the sixteenth prime, cut to 48 bytes (R461). -/
def sha384 (msg : List Byte) : List Byte := (shaDigest sha512Spec (firstHash 64 8) msg).take 48

end Sys2Proof.Machine
end

