-- ==== Sys2Proof/Config.lean ====
section
/-! DEFINITION. What an implementation fixes and the free values: opaque constants with no body, so no proof can see a value of
them.  Each is named in the assumption log. -/

namespace Sys2Proof.Config

/-- By how much the AUX residual lies beyond every lock limit after an edge that was not counted, in 2^-32 tick (R39): first sample of the
next swath. -/
opaque auxResidual : Nat → Int

/-- The gains of the PTP servo (R458): proportional and integral, in 2^-32 of rate for each ns of offset. -/
opaque servoP : Int
opaque servoI : Int

/-- Hjelpol's PCI-SIG identifier, which Vendor ID and Subsystem Vendor ID hold (R425). -/
opaque vendorId : Nat

/-- The derivative filter of the correction path at an applied rate (R123): tap 1 to 4 of its antisymmetric nine, in 2^-32. -/
opaque derivativeTap : Nat → Nat → Int

/-- The emphasis filter of the correction path at an applied rate (R123): its taps at distance 0 to 3 from the centre of its seven, in
2^-32.  At 160 GS/s the one at the centre follows from the gain R123 gives. -/
opaque emphasisTap : Nat → Nat → Int

/-- The step response of the bandwidth-limit filter at an applied rate (R88): setting, and tap 0 to 22 of its 47 that it has reached, in
2^-32. -/
opaque bandwidthStep : Nat → Nat → Nat → Int

/-- The timing coefficient a background block gives a sub-converter, in LSB, from its mean squared differences with the neighbouring samples
(R131): their sums and the number of samples. -/
opaque blockTiming : Nat → Nat → Nat → Int

/-- The bandwidth coefficient a background block gives a track-and-hold, in LSB, from the energy of the emphasis filter's output there
(R131):
that energy and the energy over all eight. -/
opaque blockBandwidth : Nat → Nat → Int

/-- The value the recovery interpolates (R185), in 1/64 code: an instant in 2^-16 sample from the first output of the window, and the
stage-1 outputs of the window. -/
opaque interpolate : Nat → List Int → Int

/-- Where the recovery places its first boundary after a start (R185), in 2^-16 sample: the first output of the symbol's window. -/
opaque firstBoundary : Nat → Nat

/-- What the baud-rate phase detector gives (R185): the values at two successive decision instants, and the symbols decided there. -/
opaque baudDetector : Int → Int → Nat → Nat → Int

/-- What the edge detector gives (R185): the value at the boundary between two symbols, and these symbols. -/
opaque edgeDetector : Int → Nat → Nat → Int

/-- The integral and the proportional path of the recovery's loop (R185), for applied loop bandwidth, damping, and what the two detectors
gave together: the move of the frequency integrator, in 0.01 ppm, and of the next boundary, in 2^-16 sample. -/
opaque loopMove : Nat → Nat → Int → Int
opaque loopPhase : Nat → Nat → Int → Int

/-- The level of a logic input that is terminated and held outside VTT ± 1.0 V (R99): logic sample, input. -/
opaque logicOutside : Nat → Nat → Bool

/-- The first cc of a swath reflects the threshold in force before (R99): logic sample, input. -/
opaque logicOldThreshold : Nat → Nat → Bool

/-- The rate of the AUX source before any edge has been measured, in 2^-56 tick per sample (R511: "Edge rate/Fs"). -/
opaque auxNominalRate : Nat → Nat

/-- The gain E of the emphasis filter at 20 GHz, in 2^-32, at an applied rate other than 160 GS/s (R123, R134). -/
opaque emphasisGain : Nat → Nat

/-- The payload of a poisoned stook that no device delivered: from a failed channel or an unmapped address (R277, R296). -/
opaque lostPayload : Nat → Nat

/-- The count at which the density hardware reaches palette index `i`, between the exact thresholds of its neighbours (R333): curve,
parameter, reference count, index. -/
opaque densityThreshold : Nat → Nat → Nat → Nat → Nat

/-- The completion timeout, in ns, of an encoding that R427 does not list. -/
opaque completionTimeout : Nat → Nat

/-- Code, severity and data of the log entry of a PTP clock step (R458: "the step is logged", which R454 gives no code). -/
opaque ptpStepCode : Nat → Nat
opaque ptpStepSeverity : Nat → Nat
opaque ptpStepData : Nat → Nat

/-- Hjelpol's firmware key, an affine point of P-384 (R461). -/
opaque firmwareKeyX : Nat
opaque firmwareKeyY : Nat

/-- A byte of the life-cycle nonce that is the n-th drawn (R467): which one, and the byte's place. -/
opaque nonce : Nat → Nat → Nat

/-- What a stepping or a unit carries: what fixes the stepping and the assembly revision, which counts from 1 (R2), the serial number
(R422) and the provisioned MAC address (R445). -/
opaque revisionNumber : Nat
opaque serialNumber : Nat
opaque provisionedMac : Nat

/-- ProfileSize (R482: "Bytes"): a function of the stored bytes, which the manual gives no layout. -/
opaque profileSize : List Byte → Nat

/-- A byte of ProfileHash (R464: a SHA-256 of the whole profile, whose layout the manual does not give): the stored bytes, and the
byte's place. -/
opaque profileHash : List Byte → Nat → Nat

/-- A low pulse of SYS_RST_N of this many ns resets the device, for the widths R489 leaves open: 1 µs to 10 µs. -/
opaque systemResetAt : Nat → Bool

/-- The voltage at a logic input, in µV, when no command told its levels (R102): cell, ns, input. -/
opaque logicPinUv : Nat → Nat → Nat → Int

/-- The levels the comparators of the logic inputs hold within their hysteresis then (R98, R102): cell, ns. -/
opaque logicHeld : Nat → Nat → Nat

/-- The flash accepts program data that arrives through a control port or the wide access (R462, error 7): the offset. -/
opaque flashAccepts : Nat → Bool

/-- Where ISO 11898-1 lets a receive error counter above 127 go after a good reception, 119 to 127: the counter. -/
opaque canReceiveBack : Nat → Nat

end Sys2Proof.Config
end

