-- ==== Sys2Proof/Machine/State.lean ====
section
/-! DEFINITION. The state of the part as plain data. -/

namespace Sys2Proof.Machine

/-! ### Time and keyed stores -/

/-- Values of dictionary entries by key, ascending, no entry equal to its default.  R10, R15. -/
abbrev Regs := List (Nat × Nat)

/-- DOMAIN values by key, ascending; an absent key holds its default block.  R12. -/
abbrev Doms := List (Nat × List Byte)

/-! ### Event fabric (01_architecture) -/

/-- The event fabric of a cell: the pulses of the last cycles (R31) and the two EVO outputs (R33). -/
structure Fabric where
  /-- (cycle, line) of every pulse of the last 3 cycles and of every pulse already due in a later cycle -/
  pulses : List (Nat × Nat)
  /-- pulses of the last 2 cycles of the clock before: how many cycles before the first cycle of the present clock, and the line; and that
  first cycle (R29) -/
  carried : List (Nat × Nat)
  carriedAt : Nat
  /-- cycle in which Cn_EVO[0] returns inactive, while it is active -/
  evo0End : Option Nat
  /-- the same for Cn_EVO[1] -/
  evo1End : Option Nat
deriving DecidableEq, Repr

/-! ### Schedule image, executor and timeline (02_timeline_and_schedule) -/

/-- One lane plan entry (R57). -/
structure LanePlan where
  lane : Nat
  flags : Nat
  capStream : Nat
  portStream : Nat
  packing : Nat
  mode : Nat
  decim : Nat
  taps : Nat
  boxcar : Nat
  mac : Nat
  fade : Nat
deriving DecidableEq, Repr

/-- One event table entry (R59). -/
structure EventEntry where
  pos : Nat
  period : Nat
  count : Nat
  action : Nat
  line : Nat
  param : Nat
  base : Nat
  flags : Nat
deriving DecidableEq, Repr

/-- One open-slot declaration (R63). -/
structure OpenDecl where
  cls : Nat
  windowCc : Nat
  minStooks : Nat
  maxStooks : Nat
deriving DecidableEq, Repr

/-- One maintenance window (R65). -/
structure MaintWindow where
  start : Nat
  len : Nat
  period : Nat
  phase : Nat
  mask : Nat
deriving DecidableEq, Repr

/-- One contract clause (R66). -/
structure Clause where
  kind : Nat
  result : Nat
  subject : Nat
  value : Nat
deriving DecidableEq, Repr

/-- A parsed schedule image (R52, R53) beside its bytes. -/
structure Image where
  bytes : List Byte
  source : Nat
  fsMin : Nat
  fsMax : Nat
  swathQ : Nat
  patQ : Nat
  id : Nat
  slots : List Byte
  lanes : List LanePlan
  events : List EventEntry
  decls : List OpenDecl
  windows : List MaintWindow
  clauses : List Clause
deriving DecidableEq, Repr

/-- The state of the staged bank (R50). -/
inductive BankState where
  | empty
  | verifying
  | verified
  | refused
deriving DecidableEq, Repr

/-- What the executor keeps of one event entry: its active instances start at `origin`, and `next` is its next instance.
`origin` is absent for a Base-2 entry outside an acquisition (R59). -/
structure EventRun where
  origin : Option Nat
  next : Nat
deriving DecidableEq, Repr

/-- One opening of a timeline window (R47): its start position and, once closed, its end position. -/
structure WindowSpan where
  window : Nat
  start : Nat
  stop : Option Nat
deriving DecidableEq, Repr

/-- An instance that was resolved ahead of its cc `cc` (R61): its entry, its position and mark, and the further instances of the entry that
its cc drops. -/
structure Ahead where
  cc : Nat
  idx : Nat
  pos : Nat
  sample : Nat
  frac : Nat
  missed : Nat
deriving DecidableEq, Repr

/-- The schedule executor: image banks, event runs and the breach bookkeeping (R50, R59 to R72). -/
structure Executor where
  active : Option Image
  staged : Option Image
  stagedBytes : List Byte
  bank : BankState
  /-- one run per entry of the active image's event table -/
  runs : List EventRun
  /-- the timeline windows now open and those closed in the last 64 cc -/
  windows : List WindowSpan
  /-- the activation position of the active image (R59, R62) -/
  activation : Nat
  /-- causes already reported in this swath (R72), bit cause -/
  breachSeen : Nat
  /-- hand-over cycle in which a commit was last applied (R74) -/
  commitCc : Option Nat
  /-- activities of no window already logged under this image (R65) -/
  noWindowLogged : Nat
  /-- the swath runs (R71): false on the bypass clock -/
  running : Bool
  /-- releases resolved ahead of their cc, which the LastEvent entries and EventsMissed take in that cc (R61, R76, R394) -/
  ahead : List Ahead
deriving DecidableEq, Repr

/-- A measurement of a timeline source by the tracker (R510): its position at a sample, and its rate in ticks per sample. -/
structure Meas where
  src : Nat
  /-- sample the position belongs to -/
  sample : Nat
  /-- position in 2^-32 tick, from sample 0 of the cell, rounded (R510) -/
  pos : Nat
  /-- measured rate, num / den -/
  num : Nat
  den : Nat
deriving DecidableEq, Repr

/-- The line of one swath (R43). -/
structure Line where
  s0 : Nat
  /-- T0 in 2^-32 tick -/
  t0 : Nat
  /-- D in 2^-56 tick per sample -/
  d : Nat
deriving DecidableEq, Repr

/-- An epoch strobe that waits for the boundary at which it takes effect (R40, R46). -/
structure EpochWait where
  value : Nat
  /-- whole tick of the source then active that receives the value -/
  tick : Nat
  /-- the tick of each present source except PTP that receives it, by source code -/
  others : List (Nat × Nat)
deriving DecidableEq, Repr

/-- The timeline tracker (R43 to R48, R510, R511). -/
structure Tracker where
  line : Line
  /-- the line of the swath before (R232) -/
  prevLine : Line
  /-- first cycle of the current swath -/
  startCc : Nat
  /-- line and residual fixed in cc -4 for the next swath -/
  nextLine : Option (Line × Int)
  /-- the last measurement of each source -/
  meas : List Meas
  /-- whole ticks added to the raw count of each source since the last epoch, by source code (R511) -/
  offsets : List (Nat × Int)
  /-- consecutive boundaries within and beyond the lock limit (R45) -/
  inLimit : Nat
  beyond : Nat
  /-- SOURCE_LOST of AUX came, and no SOURCE_RETURN since (R38) -/
  auxLost : Bool
  /-- cycle of the last counted edge on Cn_AUXP/N, whether one came in the current swath, how many swaths in a row before it had none (up
  to
  2), and whether an edge was too close to be counted since the last update (R38, R39) -/
  auxEdge : Option Nat
  auxSeen : Bool
  auxQuiet : Nat
  auxFast : Bool
  /-- edges counted on Cn_AUXP/N since the cell reset (R39) -/
  auxTicks : Nat
  /-- an epoch taken while idle that waits for its boundary (R40) -/
  epoch : Option EpochWait
deriving DecidableEq, Repr
/-! ### Sample clock (04_sample_clock) -/

/-- The synthesiser, its lock detector and the way between the clocks (R103 to R119). -/
structure Clock where
  /-- running counts of the lock detector: consecutive in-window and out-of-window reference cycles (R107, R108) -/
  inRun : Nat
  outRun : Nat
  /-- first sample of the first cycle of the out-of-window run (R110) -/
  outFirst : Nat
  /-- cc 0 of the switch in progress (R112) -/
  faultCc : Nat
  /-- the switch in progress is a planned retune (R119) -/
  planned : Bool
  /-- committed SampleRate and RefFrequency that wait for their retune (R119) -/
  retune : Option (Nat × Nat)
  /-- unlock or loss declared and the acquisition not closed since: stooks carry CLK (R110) -/
  clkMark : Bool
  /-- cc of LastSynthSample; absent after a cell reset (R116) -/
  tLast : Option Nat
  /-- bypass cycle in which the running holdoff ends -/
  holdoffEnd : Nat
  /-- the memory PLL is locked (R105) -/
  pllLocked : Bool
  /-- the cell domain runs on fcc -/
  onFcc : Bool
  /-- RUN has been entered since the cell reset (R116, R118) -/
  everRun : Bool
  /-- G of the return in progress (R116) -/
  gap : Nat
  /-- first cc on fcc of the return in progress (n0 / 128 of R163) -/
  fccStart : Nat
  /-- first sample of the last fresh swath; what the sources take before it belongs to the fault (R116) -/
  fresh : Nat
  /-- first suspect sample of the fault in progress: the first of faults that follow one another with no fresh swath between, or the
  first sample of the stretch ahead of one (R110, R116, R308) -/
  suspectFrom : Nat
deriving DecidableEq, Repr
/-! ### Inputs (03_inputs_and_converter_array) -/

/-- A range of sample indices, both ends included. -/
structure Span where
  lo : Nat
  hi : Nat
deriving DecidableEq, Repr

/-! ### The hayward (15_shared_resources_and_maintenance) -/

/-- What one maintenance activity waits for (R414 to R417). -/
structure MaintWait where
  /-- cycle in which its request arose, while it requests, in cycles of the present clock -/
  since : Option Int
  /-- window occurrences passed since then -/
  passed : Nat
  /-- activities granted since then, bit per activity -/
  before : Nat
  /-- cycle in which its pending entry was last set, in cycles of the present clock (R136, R301) -/
  pendSince : Int
deriving DecidableEq, Repr

/-- The token that admits one maintenance activity at a time (R413 to R418). -/
structure Hayward where
  waits : Vector MaintWait 5
  /-- the activities granted in this swath, with the index of the window -/
  granted : List (Nat × Nat)
  /-- first and last cycle of the running grant -/
  grantStart : Nat
  grantEnd : Nat
  /-- window index of the running grant -/
  grantWindow : Nat
  /-- first cycle in which the free token can be granted again, and the activity that held it last -/
  freeFrom : Nat
  lastHolder : Nat
  /-- scrub has yielded and was not granted since (R415, R416) -/
  scrubYielded : Bool
  /-- windows of the present swath that end at or before this offset are counted as passed or not (R417, R419) -/
  passedTo : Nat
deriving DecidableEq, Repr

/-! ### Interleave correction (05_interleave_correction) -/

/-- One coefficient set (R124, R126). -/
structure CoefSet where
  calTemp : Int
  calFs : Nat
  offset : List Int
  gain : List Int
  timing : List Int
  beta : List Int
deriving DecidableEq, Repr

/-- The front end and correction in force up to a change (R90, R138): the first sample under the settings that followed, and range,
offset DAC code, bandwidth setting and coefficient set before it. -/
structure FrontSet where
  until' : Nat
  range : Nat
  dac : Int
  bandwidth : Nat
  set : CoefSet
deriving DecidableEq, Repr

/-- Values in force up to a change (R97, R99, R185, R203): the first sample under those that followed, and the values before it. -/
structure LevelSet where
  until' : Nat
  regs : Regs
deriving DecidableEq, Repr

/-- The front end (R80 to R102): marks of the corrected stream, kept for the samples a lane output can still reach, past settings, and the
comparator inputs. -/
structure FrontEnd where
  /-- over-range corrected samples, with the 4 or 32 recovery samples: apart, in rising order -/
  ovr : List Span
  /-- samples of past leg overloads, which carry a rail (R84) -/
  rails : List Span
  /-- unsettled corrected samples (R91, R164) -/
  unsettled : List Span
  /-- samples below this index are counted in OverRangeCount (R85) -/
  countedTo : Nat
  /-- first sample of the running leg overload (R84) -/
  overloadFrom : Option Nat
  /-- the leg-overload detector at the balls, which foreground calibration does not stop (R84, R127) -/
  legsOut : Bool
  /-- the sample of the detector's last change, and its state up to that sample as LegOverloadActive shows it (R84) -/
  legFirst : Option (Nat × Bool)
  /-- cc of the last entry into leg overload, and the entries in that cc -/
  legEntry : Nat × Nat
  /-- settings of the past, newest first -/
  past : List FrontSet
  /-- values of the auxiliary and logic entries of the past, newest first (R97, R99) -/
  pins : List LevelSet
  /-- the last logic sample given to a unit: its index, and levels (R102) -/
  logic : Option (Nat × Nat)
deriving DecidableEq, Repr

/-- Estimates of one coefficient family, exact: each value is `num / 16^pow` in coefficient LSB (R133). -/
structure Estimate where
  nums : List Int
  pow : Nat
deriving DecidableEq, Repr

/-- The estimates of one range (R131, R133). -/
structure RangeEst where
  offset : Estimate
  gain : Estimate
  timing : Estimate
  beta : Estimate
deriving DecidableEq, Repr

/-- A finished recalibration that waits for its boundary (R136 to R138). -/
structure Shadow where
  range : Nat
  set : CoefSet
  /-- change of each coarse phase (R137) -/
  coarse : List Int
  /-- cause of the recalibration (R135) -/
  cause : Nat
deriving DecidableEq, Repr

structure Correction where
  /-- the stored set of each range (R125) -/
  sets : List CoefSet
  /-- the estimates of each range (R133) -/
  est : List RangeEst
  /-- ranges whose CoefSet has been written since the last commit (R140) -/
  written : List Nat
  /-- the set a recalibration left, until its boundary (R138) -/
  shadow : Option Shadow
  /-- consecutive accepted blocks, up to 64 (R133) -/
  accepted : Nat
  /-- 64 consecutive blocks were accepted since the last restart of the count -/
  converged : Bool
  /-- the last block was rejected (R133) -/
  lastRejected : Bool
  /-- first cc of the grid of blocks, counted from the end of foreground calibration (R131) -/
  bgStart : Nat
  /-- within the running block: a front-end change, a clock fault, BgEnable 0 (R132) -/
  blockFrontEnd : Bool
  blockCut : Bool
  blockDisabled : Bool
  /-- the cause under which RecalPending was set (R135) -/
  cause : Nat
deriving DecidableEq, Repr

/-! ### Filter engine (06_filter_engine) -/

/-- Filter settings in force from one sample on (R165). -/
structure FilterSet where
  start : Nat
  bypass : Bool
  coefs : List Int
  shift1 : Nat
  /-- stage-2 and stage-3 shifts of the lanes -/
  shift2 : List Nat
  shift3 : List Nat
deriving DecidableEq, Repr

/-- A stretch of stage-2 outputs under one coefficient bank, from output `startQ` on: the bank's coefficients, the cross-fade that
leads into it, and whether its first outputs carry UNS (R159 to R161, R164). -/
structure BankRun where
  startQ : Nat
  fade : Nat
  coefs : List Int
  mark : Bool
deriving DecidableEq, Repr

/-- An output sequence of a lane between two restarts (R152, R163). -/
structure LaneSeq where
  plan : LanePlan
  n0 : Nat
  /-- next lane output (block) to be handed on -/
  next : Nat
  /-- bank runs, newest first -/
  runs : List BankRun
  /-- the sequence ends before this sample -/
  stop : Option Nat
  /-- stage-2 outputs from here on are not yet held against saturation (R148) -/
  counted : Nat
deriving DecidableEq, Repr

structure Lane where
  /-- sequences some consumer still has outputs of to take, oldest first, and the newest one; that one without a stop runs -/
  seqs : List LaneSeq
  /-- the lane is stopped on the bypass clock (R112, R168) -/
  stopped : Bool
  /-- the plan the active image gives the lane -/
  plan : Option LanePlan
  /-- one past the last stage-2 output of the running fade -/
  fadeEnd : Option Nat
  /-- fade length of a latched swap (R159) -/
  latch : Option Nat
deriving DecidableEq, Repr

structure Filter where
  lanes : Vector Lane 4
  /-- settings by start sample, newest first -/
  settings : List FilterSet
  /-- unsettled stage-1 outputs (R164) -/
  marks : List Span
  /-- stage-1 outputs below this index have been counted for saturation -/
  satFrom : Nat
deriving DecidableEq, Repr

/-! ### Trigger conditions, arming and placement (07, 08) -/

/-- The hysteresis flags of one level (R174). -/
structure LevelFlags where
  rise : Bool
  fall : Bool
deriving DecidableEq, Repr

/-- What a condition unit remembers between samples (R172 to R182).  Instants are positions 256 j + f. -/
structure UnitSt where
  /-- the next sample, or logic sample, the unit judges -/
  pos : Nat
  /-- the sample before it, unless the state was cleared -/
  last : Option Int
  /-- the comparator levels after that sample -/
  level : LevelFlags
  low : LevelFlags
  high : LevelFlags
  /-- open positive and negative measurements (pulse, runt), rising and falling ones (slew) -/
  posStart : Option Nat
  negStart : Option Nat
  /-- the last window enter not yet consumed -/
  enter : Option Nat
  /-- timeout reference position, its level, and whether the unit has fired since -/
  p0 : Option Nat
  isHigh : Bool
  fired : Bool
  /-- the logic sample before, as the samplers saw it (R98) -/
  lin : Option Nat
  /-- the logic sample the unit judged before, whether it was true, and the logic sample at which the true run began -/
  word : Option Nat
  wasTrue : Bool
  trueFrom : Nat
  /-- placement sample of the last event -/
  lastEvent : Option Nat
deriving DecidableEq, Repr

/-- A unit event on its way to the combiner (R170, R173). -/
structure UnitEvent where
  /-- digital placement sample, which fixes the decision cycle -/
  digital : Nat
  /-- LastUnitSample and LastUnitFraction of the unit before it, as a position -/
  was : Nat
  /-- placement (R230, R237) -/
  sample : Nat
  /-- its fraction in 1/256 sample -/
  frac : Nat
  /-- the unit that detected it -/
  unit : Nat
  /-- its timeline position (R232) -/
  stamp : Nat
  /-- placed by the TDC, or by fallback after a miss (R237) -/
  placed : Bool
  miss : Bool
deriving DecidableEq, Repr

/-- The Arm-class values and the symbol pattern of an arm, up to the start sample of the next one (R205). -/
structure ArmSet where
  until' : Nat
  regs : Regs
  pattern : List Byte
deriving DecidableEq, Repr

/-- A unit as the arm before left it, while samples before the next arm's A are still to be judged by it (R205). -/
structure OldUnit where
  unit : Nat
  until' : Nat
  st : UnitSt
deriving DecidableEq, Repr

/-- A comparator edge stamped by the live TDC unit (R237). -/
structure TdcStamp where
  aux : Bool
  digital : Nat
  sample : Nat
  frac : Nat
  miss : Bool
deriving DecidableEq, Repr

/-- The sequencer in WAIT_B (R195). -/
structure SeqRun where
  sample : Nat
  frac : Nat
  stamp : Nat
  bCount : Nat
  dCount : Nat
deriving DecidableEq, Repr

/-- The holdoff that runs since a recorded trigger (R200). -/
structure HoldRun where
  stamp : Nat
  seen : Nat
deriving DecidableEq, Repr

/-- The states of R214, with the wait for sample A before them (R213). -/
inductive ArmPhase where
  | waiting
  | prefill
  | armed
  | postfill
  | rearm
deriving DecidableEq, Repr

/-- A recorded trigger (R217, R232). -/
structure Trigger where
  sample : Nat
  frac : Nat
  stamp : Nat
  mask : Nat
  forced : Bool
  placed : Bool
  miss : Bool
deriving DecidableEq, Repr

/-- One acquisition (R211 to R222): the one being decided, and behind it one that started in the cycle its predecessor was
stopped (R229). -/
structure Acq where
  a : Nat
  /-- TriggerLatencyApplied (R173) -/
  latency : Nat
  /-- the Arm-class values of its arm (R205) -/
  cfg : Regs
  /-- end sample and end cause (R228) -/
  stop : Option (Nat × Nat)
  /-- the state of R214 that the decision has reached -/
  phase : ArmPhase
  /-- P of the segment being filled, or of the next one -/
  p : Nat
  /-- the trigger of the segment in progress -/
  trig : Option Trigger
  /-- the segment of the present phase is closed -/
  closed : Bool
  /-- the sample of the running auto timeout (R220) -/
  auto : Option Nat
  /-- segments closed -/
  segments : Nat
  /-- the sequence in progress (R194) -/
  seq : Option SeqRun
  /-- the holdoff in progress (R199) -/
  hold : Option HoldRun
deriving DecidableEq, Repr

/-- The symbol-clock recovery and the pattern matcher (R185 to R193). -/
structure Recovery where
  /-- symbols of the matcher's history, newest first, at most 256 -/
  history : List Nat
  /-- consecutive blocks that pass, and that fail, the tests of R188 -/
  good : Nat
  bad : Nat
  /-- CdrLocked was set since the recovery was enabled -/
  wasLocked : Bool
  /-- symbols of the running block, and the symbol boundaries in it that carry a transition (R188) -/
  uis : Nat
  edges : Nat
  /-- the loop's frequency integrator, in 0.01 ppm of SymbolRate, and as the running block began with it (R185, R188) -/
  integrator : Int
  blockFrom : Int
  /-- the recovered boundary at which the next symbol begins, in 2^-16 sample, once there is one (R185, R187) -/
  edge : Option Nat
  /-- the stage-1 output at the last decision instant (R185) -/
  value : Int
deriving DecidableEq, Repr

/-- Levels the tracker measured or fixed (R201 to R203), in 1/64 code. -/
structure TrackLevels where
  base : Int
  top : Int
  pam : List Int
deriving DecidableEq, Repr

structure Tracking where
  est : Option TrackLevels
  /-- the last block was rejected -/
  held : Bool
  /-- the cc in which the last block ended, and estimates and rejection before it (R203) -/
  endCc : Nat
  before : Option TrackLevels × Bool
  /-- fixed in cc -4 for the next swath, and last applied -/
  next : Option TrackLevels
  applied : Option TrackLevels
  /-- first cc of the running histogram block (R201) -/
  blockFrom : Nat
deriving DecidableEq, Repr

structure Trig where
  units : Vector UnitSt 4
  /-- the units that were of another kind before an arm, oldest first (R205) -/
  old : List OldUnit
  /-- levels of past swaths, newest first (R203) -/
  levels : List LevelSet
  /-- unit events not yet combined, by position -/
  queue : List UnitEvent
  /-- samples of forced triggers not yet judged, and whether a write forced them (R221) -/
  forces : List (Nat × Bool)
  /-- the mark of the last SEGMENT_START: sample and fraction; and the first samples of the segments such instances start, not yet decided
  (R60) -/
  segStart : Option (Nat × Nat)
  segMarks : List Nat
  /-- the acquisitions not yet back in idle, oldest first -/
  acqs : List Acq
  /-- the arms before the last, newest first, which hold for samples before the A that followed (R205) -/
  arms : List ArmSet
  /-- cc of the last delivered candidate (R173) -/
  lastCand : Option Nat
  /-- the last unsettled sample that cleared the units (R172) -/
  lastUnsettled : Option Nat
  /-- TDC stamps not yet matched with their events (R237) -/
  tdc : List TdcStamp
  /-- digital sample of the last comparator edge the live unit stamped (R237) -/
  lastEdge : Option Nat
  /-- the symbol-clock recovery (R185 to R193) -/
  cdr : Recovery
  /-- the level tracker (R201 to R204) -/
  track : Tracking
  /-- an arm request of the event table or a line was taken in this cc (R223) -/
  armTaken : Option Nat
deriving DecidableEq, Repr

/-! ### Placement calibration (R234 to R240) -/

/-- The trims in force up to a change (R236, R239): the first sample under those that followed, and the auxiliary trim, the analog-edge
trim and AuxDeskew before it, in 10 fs, with the live TDC unit. -/
structure TrimSet where
  until' : Nat
  aux : Int
  edge : Int
  deskew : Int
  live : Nat
deriving DecidableEq, Repr

structure Placement where
  /-- the start-up placement calibration runs (R235) -/
  startup : Bool
  /-- trims of a finished recalibration that wait for the boundary (R236) -/
  trims : Option SkewTrims
  /-- the spare unit's table is complete and waits for the boundary (R239) -/
  toggle : Bool
  /-- ns of the last toggle (R240) -/
  toggledNs : Nat
  /-- trims of the past, newest first (R236) -/
  past : List TrimSet
  /-- the code-density histograms of the two TDC units, fine code 0 first (R239) -/
  tables : Vector (List Nat) 2
deriving DecidableEq, Repr

/-! ### Memory tiers -/

/-- A memory tier as bytes: addresses rising, no entry equal to the byte an unlisted address reads as, which is 0.  Stook `s` of a
tier occupies the 18 addresses from 18 s: 16 payload bytes, then its check symbols (R244, R304). -/
abbrev Memory := List Host.Cell

/-! ### Capture buffer and segments (09_capture_and_segments) -/

/-- A segment arming opened: open while `closed` is false (R212, R229, R261). -/
structure Segment where
  number : Nat
  s : Nat
  e : Nat
  trig : Option Trigger
  /-- pos(S), for a segment without a trigger (R261) -/
  stamp : Nat
  /-- its end has been decided -/
  closed : Bool
  /-- the end cause of the acquisition, for its last segment -/
  endCause : Nat
deriving DecidableEq, Repr

/-- The states of an occupied place that belongs to a stream (R252). -/
inductive PlaceState where
  | held
  | queued
  | kept
deriving DecidableEq, Repr

/-- A packed stook in a place: the lane values it holds, numbered in the lane's sequence, and its pack bits (R247, R252). -/
structure Packed where
  place : Nat
  firstVal : Nat
  count : Nat
  /-- pack bits UNS, OVR, CLK of its tag -/
  tags : Nat
  /-- HELD, QUEUED or KEPT (R252) -/
  state : PlaceState
  /-- the segment it is part of; in stream mode it goes on by itself -/
  segment : Option Nat
  /-- its number among the stooks placed since the arm -/
  index : Nat
deriving DecidableEq, Repr

/-- What a stream stores of one segment, until its entry is written (R259 to R261). -/
structure SegStore where
  number : Nat
  /-- FirstStook, once known: a stored index, or the region-relative place in burst mode -/
  first : Option Nat
  firstSlot : Nat
  /-- stooks stored: kept in burst mode, else drained -/
  count : Nat
  lastSlot : Nat
  /-- stooks of the segment in the buffer that wait for the drain -/
  waiting : Nat
  /-- pack bits of its stooks together -/
  tags : Nat
  /-- storage of the segment has stopped (R257), and a stook of it is not stored (R257, R258) -/
  cut : Bool
  truncated : Bool
  preShort : Bool
deriving DecidableEq, Repr

/-- A run of dropped stooks (R257, R259): reference sample of the first lost output with its position, stooks lost, and the count of
stooks placed before the next stored one. -/
structure Gap where
  sample : Nat
  stamp : Nat
  lost : Nat
  next : Option Nat
deriving DecidableEq, Repr

/-- Stooks drained one after another in stream mode: from value `firstVal`, drain count `index`, `n` of them, with equal pack bits. -/
structure StoredRun where
  firstVal : Nat
  index : Nat
  n : Nat
  tags : Nat
deriving DecidableEq, Repr

/-- One capture stream during one acquisition (R249 to R260). -/
structure Stream where
  active : Bool
  lane : Nat
  plan : LanePlan
  /-- the lane sequence it takes: its n0 and the reference sample of its value 0 (R150) -/
  n0 : Nat
  ref0 : Int
  /-- first place and size of its region (R250) -/
  base : Nat
  places : Nat
  /-- stooks of its pretrigger ring (R255) -/
  ring : Nat
  /-- places taken since the arm, for the cyclic search of a FREE place -/
  nextPlace : Nat
  /-- values of the open stook, in order, with the number of the first -/
  openFirst : Nat
  openVals : List Int
  /-- pack bits of the open stook (R247) -/
  openTags : Nat
  /-- occupied places in packing order -/
  stooks : List Packed
  /-- what it stores of each segment whose entry is not written -/
  stores : List SegStore
  /-- the run of dropped stooks in progress -/
  gap : Option Gap
  /-- the runs whose entry is not written (R257) -/
  gaps : List Gap
  /-- the stored stooks of a stream-mode acquisition, in runs of neighbours (R261) -/
  runs : List StoredRun
  /-- stooks placed since the arm, and data stooks drained or dropped at the drain (R252, R258) -/
  stored : Nat
  taken : Nat
  /-- the entry whose first stook is written, its second not yet (R260) -/
  half : Option (List Byte)
  /-- the packer has passed Z -/
  done : Bool
deriving DecidableEq, Repr

structure Capture where
  memory : Memory
  /-- the mode and the Arm-class values of the layout -/
  mode : Nat
  /-- the Arm-class values of the layout -/
  cfg : Regs
  /-- the four capture streams -/
  streams : Vector Stream 4
  /-- A and, once known, Z and the end of the newest acquisition -/
  start : Nat
  /-- its end sample, once known -/
  stop : Option Nat
  /-- the acquisition has ended -/
  ended : Bool
  /-- the segments of the acquisition, in order -/
  segments : List Segment
  /-- entries of each segment written so far over the streams: (segment, how many) -/
  drained : List (Nat × Nat)
deriving DecidableEq, Repr

/-! ### Waveform accumulation (11_accumulation) -/

/-- A value, or a pair, that the intake has taken and the delay store holds (R305 to R307). -/
structure AccVal where
  /-- cycle in which it was received -/
  cc : Nat
  /-- reference sample, values and marks of the output -/
  ref : Int
  vals : List Int
  /-- it is unsettled, or over range (R305) -/
  uns : Bool
  ovr : Bool
  /-- its span reaches the first suspect sample of a clock fault (R308) -/
  clk : Bool
  /-- last corrected sample of its span -/
  spanHi : Nat
  /-- timeline position of its reference sample, and whether that lies in a swath that began unlocked (R315) -/
  pos : Nat
  unlocked : Bool
  /-- samples from its output to the next (R310) -/
  spacing : Nat
deriving DecidableEq, Repr

/-- A record: its trigger and the sample range of its segment (R310). -/
structure AccRec where
  sample : Nat
  frac : Nat
  s : Nat
  e : Nat
  /-- the segment is still open at arming -/
  isOpen : Bool
deriving DecidableEq, Repr

/-- A stretch of sample positions in which the event gate is open (R309). -/
structure GateSpan where
  start : Nat
  stop : Option Nat
deriving DecidableEq, Repr

/-- What the layout of the last AccStart placed (R316): the envelope's base and points, and X, Y and the base of each map. -/
structure AccLaid where
  env : Nat
  points : Nat
  map0 : Option (Nat × Nat × Nat)
  map1 : Option (Nat × Nat × Nat)
deriving DecidableEq, Repr

structure Acc where
  memory : Memory
  lfsr : Nat
  /-- the group last drawn for, with the restart it counts from, and its draw r0 and direction (R306) -/
  group : Option (Nat × Nat)
  r0 : Nat
  up : Bool
  /-- the delay store, oldest first (R307) -/
  delay : List AccVal
  /-- the records in progress (R310) -/
  records : List AccRec
  /-- records started since AccStart, and the segment end of the last one -/
  started : Nat
  /-- the segment end of the record started last -/
  lastEnd : Option Nat
  /-- values with a reference sample before this one lie outside the run (R317) -/
  runFrom : Nat
  /-- intake begins with the first group that begins at or after this sample (R317) -/
  intakeFrom : Option Nat
  /-- the cut and its cause (R318, R320) -/
  cut : Option (Nat × Nat)
  /-- the spans of the gate (R309) -/
  gate : List GateSpan
  /-- folding origins, newest first: (first sample of the new origin, position) (R315) -/
  origins : List (Nat × Nat)
  /-- the statistics histogram, by code (R323) -/
  hist : List (Int × Nat)
  /-- cycle in which the running clear completes (R321) -/
  clearEnd : Nat
  /-- the running clear is that of AccStart -/
  starting : Bool
  /-- the lines of the last swaths, newest first, and whether each swath began locked (R315) -/
  recent : List (Line × Bool)
  /-- the layout of the last start (R316) -/
  laid : AccLaid
  /-- statistics supplied last -/
  stats : Option TrackLevels
  /-- the active plan gives the source lane no accumulator flag from this sample on (R305, R320) -/
  offFrom : Option Nat
deriving DecidableEq, Repr
/-! ### Deep memory (10_deep_memory, 15_shared_resources_and_maintenance) -/

/-- What an open write stores in one stook: the payload, the bytes enabled, and whether it is written in poison form. -/
structure OpenWrite where
  payload : Nat
  mask : Nat
  poison : Bool
deriving DecidableEq, Repr

/-- A request of one party that waits for admission: `count` reads from `stook` on, or one write.  `tag` tells the party's own requests
apart: a line, a channel, a buffer. -/
structure OpenReq where
  stook : Nat
  count : Nat
  write : Option OpenWrite
  tag : Nat
deriving DecidableEq, Repr

/-- Where the data of a read comes from: the device; a write still held, in whose favour the device's is discarded (R282); or nowhere, for
an unmapped address or a failed channel (R277, R296). -/
inductive ReadFrom where
  | device
  | held
  | nowhere
deriving DecidableEq, Repr

/-- An admitted open read, in its party's order; its stook is known once it has issued. -/
structure Flight where
  stook : Nat
  tag : Nat
  data : Option (Nat × ReadFrom)
  /-- it is the read half of a partial write (R283) -/
  merge : Bool
  /-- its stook was written since: whole, or in part.  For a read half since its write was accepted, else since its issue (R283, R294) -/
  rewritten : Bool
  touched : Bool
deriving DecidableEq, Repr

/-- An access in a fixed lane or an open queue (R280); fixed accesses have no party. -/
structure QEntry where
  party : Option Party
  stook : Nat
  isWrite : Bool
  /-- the read half of a partial write (R283) -/
  merge : Bool
deriving DecidableEq, Repr

/-- The issue stages of one channel (R279 to R282). -/
structure Banks where
  /-- memory cycle up to which the rotating pick has run -/
  upTo : Nat
  /-- the fixed lane of each bank -/
  fixed : List (List QEntry)
  /-- the open queue of each bank -/
  queues : List (List QEntry)
deriving DecidableEq, Repr

/-- An accepted fixed read (R278): memory cycle of delivery, kind and target of its slot, its stook and content. -/
structure FixedRead where
  due : Nat
  kind : Nat
  target : Nat
  stook : Nat
  data : Nat
  source : ReadFrom
  /-- its bank has issued it (R279) -/
  issued : Bool
deriving DecidableEq, Repr

/-- Accesses a class has had on a channel in a service window (R63). -/
structure Served where
  cls : Nat
  channel : Nat
  /-- first cycle of the window -/
  window : Nat
  /-- accesses of the class on the channel in that window -/
  n : Nat
deriving DecidableEq, Repr

/-- What a read of a memory window last completed with (R276, R426, R431). -/
inductive CplStatus where
  | none
  | success
  | unsupported
  | aborted
deriving DecidableEq, Repr

structure Completion where
  status : CplStatus
  data : List Byte
  /-- with the poisoned-data indication -/
  poisoned : Bool
deriving DecidableEq, Repr

structure Deep where
  memory : Memory
  /-- bring-up has completed since the cell reset (R272) -/
  up : Bool
  /-- lanes and queues of the channels (R279) -/
  banks : Vector Banks 4
  /-- requests and admitted reads of each party, in the order of `Party` -/
  requests : Vector (List OpenReq) 7
  flights : Vector (List Flight) 7
  /-- fixed reads not yet delivered (R278) -/
  fixedReads : List FixedRead
  /-- accesses of the declared classes in their windows (R63) -/
  served : List Served
  /-- round-robin pointers (R404, R405): among the classes of one level, and between overlay and cursor -/
  rrClass : Nat
  rrRaster : Nat
  /-- ns at which the running wake-up began, and of the last access (R285, R299) -/
  wakeFrom : Nat
  busyNs : Nat
  /-- the results of a finished retrain wait for the boundary: read and write trims of the channels (R295) -/
  retrain : Option (List (List Byte × List Byte))
  /-- ns of the last retrain -/
  retrainNs : Nat
  /-- the accesses whose read data no rule fixes, counted (the model's own field) -/
  fresh : Nat
  /-- the frame most recently started, and the one after it, are marked torn (R344) -/
  tornNow : Bool
  tornNext : Bool
  /-- host reads of BAR2 not yet completed, oldest first: byte offset and length; and the stooks returned for the oldest -/
  hostReads : List (Nat × Nat)
  gathered : List Nat
  /-- what the last completed host read gave -/
  completion : Completion
deriving DecidableEq, Repr
/-! ### Cell port (13_dma_and_cell_port) -/

/-- A staged stook of a live stream: its place, its values by number, its pack bits, and the cycle of its pack (R377). -/
structure LiveStook where
  place : Nat
  firstVal : Nat
  count : Nat
  tags : Nat
  cc : Nat
  /-- its number in the stream, lost stooks included -/
  index : Nat
deriving DecidableEq, Repr

/-- A live port stream during an acquisition (R250, R377). -/
structure Live where
  active : Bool
  lane : Nat
  plan : LanePlan
  n0 : Nat
  ref0 : Int
  /-- first of its 4,096 staging places -/
  base : Nat
  /-- the next staging place -/
  nextPlace : Nat
  /-- the open stook: number of its first value, values and pack bits -/
  openFirst : Nat
  openVals : List Int
  openTags : Nat
  /-- staged stooks, oldest first -/
  staged : List LiveStook
  /-- stooks packed, lost ones included, and stooks sent, since the arm -/
  packed : Nat
  sent : Nat
  /-- the running drop: number of its first stook, and how many -/
  drop : Option (Nat × Nat)
  /-- the packer has passed Z -/
  done : Bool
deriving DecidableEq, Repr

/-- A playback stream (R378): stooks read since its start, stooks not yet returned, the return buffer. -/
structure Playback where
  asked : Nat
  outstanding : Nat
  /-- outstanding reads of a stopped stream, whose stooks are discarded -/
  discard : Nat
  /-- stooks read and not yet sent -/
  buffer : List Nat
deriving DecidableEq, Repr

structure CellPort where
  live : Vector Live 4
  play : Vector Playback 4
  /-- GAP flits that wait: stream, first stook lost, number lost -/
  gaps : List (Nat × Nat × Nat)
  /-- per receive pool 0 to 15: flits received or lost, and flits freed, since UP (R372, R373) -/
  received : List Nat
  freed : List Nat
  /-- flits that stand in the receive pools since before the link came up (R375) -/
  old : List Nat
  /-- per transmit pool 0 to 8: flits sent, and the partner's freed count -/
  sent : List Nat
  credit : List Nat
  /-- the pool whose freed count the next flit carries (R372): position in the rotation -/
  rotation : Nat
  /-- data stooks received for each DMA channel, by flit -/
  pools : Vector (List (List Nat)) 8
  /-- writes not yet accepted of each PWRITE flit in the pool -/
  writes : List Nat
  /-- PWRITE flits that came outside clock state RUN: first stook and data stooks (R380) -/
  heldWrites : List (Nat × List Nat)
  /-- stooks the mover has for the partner: tag of the channel and stook -/
  outbound : List (Nat × Nat)
  /-- consecutive flits with a failed CRC, and consecutive good LINK flits (with Ready in EXCHANGE) -/
  badRun : Nat
  linkRun : Nat
  /-- the partner's last LINK flit -/
  partner : Nat
  /-- ns at which training, or the present state, began -/
  since : Nat
  /-- the last flit sent (R369) -/
  lastFlit : Nat
deriving DecidableEq, Repr
/-! ### Raster scan-out (12_raster_scanout) -/

/-- A stook the raster fetched: its payload, and whether it came clean (R346). -/
structure Fetched where
  payload : Nat
  good : Bool
deriving DecidableEq, Repr

/-- The stooks of one overlay line fetched so far, in order (R345). -/
structure LineStore where
  tag : Nat
  stooks : List Fetched
deriving DecidableEq, Repr

/-- The density map a frame shows: its map, X, Y and base word (R332). -/
structure DensityGeometry where
  map : Nat
  x : Nat
  y : Nat
  base : Nat
deriving DecidableEq, Repr

/-- What a DSI lane sends, in the order of its bytes: a packet by data type and payload, without its ECC and checksum; or a wait of the
start-up list, in ms (R336 to R338). -/
inductive DsiItem where
  | packet (type : Nat) (payload : List Byte)
  | wait (ms : Nat)
deriving DecidableEq, Repr

/-- What the data lanes do: LP-11, the start-up list in low power, a frame with its blanking, the sync and blanking packets of an old
timing without pixels, or LP-11 while the PHY retunes (R337, R338, R342). -/
inductive DsiLanes where
  | stop
  | startup
  | frame
  | blank (timing : Regs)
  | retune
deriving DecidableEq, Repr

structure DsiLink where
  lanes : DsiLanes
  /-- the clock lane runs -/
  clock : Bool
  /-- inverted data lanes [3:0] and clock lane [4] -/
  inverted : Nat
  /-- skew calibration runs: at this start, in this blanking, or in this retuning -/
  deskew : Bool
  /-- what the start-up or the last line sent -/
  sent : List DsiItem
deriving DecidableEq, Repr

structure Raster where
  /-- the shadows a sample instant has taken, and a commit that came after it (R339) -/
  taken : Option (Regs × Doms)
  /-- a commit came after the shadows were taken (R339) -/
  second : Bool
  /-- between a frame start and its blanking start; the next line to start -/
  active : Bool
  line : Nat
  /-- the last frame before a stop has reached its blanking start (R338) -/
  ending : Bool
  /-- the line stores (R345) -/
  stores : List LineStore
  /-- the present frame has underrun (R345) -/
  underran : Bool
  /-- the cursor image in use, the complete one that replaces it at the next frame start, and the one that arrives, with its fetch and
  whether its lateness was counted (R331) -/
  cursor : List Fetched
  cursorReady : Option (List Fetched)
  cursorNext : Option LineStore
  cursorLate : Bool
  /-- cursor fetches so far: the tag of the last -/
  cursorTag : Nat
  /-- a cursor fetch has completed and its base is to retire (R343) -/
  cursorDue : Bool
  /-- the map shown in the present frame (R332) -/
  density : Option DensityGeometry
  /-- the map the density layer showed in the frame before, and the largest count read in the present frame (R333) -/
  densityMap : Option Nat
  peak : Nat
  /-- TE edges still to be accepted before a frame starts (R336, R338, R342) -/
  teNeed : Nat
  /-- ns of the last frame start, from the one before it, of the end of the last transfer, and of the end of the blank frame of a mode
  switch (R336, R342) -/
  frameNs : Option Nat
  period : Option Nat
  blankEnd : Nat
  endNs : Option Nat
  /-- the pixels of the last line sent, as sent (R329) -/
  pixels : List Nat
  /-- the DSI link (R337) -/
  link : DsiLink
deriving DecidableEq, Repr
/-! ### DMA mover (13_dma_and_cell_port) -/

/-- A fetched descriptor (R357), with CompatMode as sampled at its fetch (R361). -/
structure Descriptor where
  src : Nat
  dst : Nat
  /-- the Length field as it stands -/
  length : Nat
  /-- the further fields, by their names in R357 -/
  stride : Int
  next : Nat
  srcSpace : Nat
  dstSpace : Nat
  mode : Nat
  dstSide : Bool
  reshuffle : Nat
  burst : Nat
  cyclic : Bool
  nextInHost : Bool
  fixed : Bool
  done : Nat
  wrap : Nat
  compat : Bool
deriving DecidableEq, Repr

/-- One source access of a burst: a stook (or, in host memory, a byte address and a length), and the bytes of it that are wanted. -/
structure Want where
  at' : Nat
  len : Nat
  first : Nat
  n : Nat
deriving DecidableEq, Repr

/-- A burst that has started and not ended (R355). -/
structure Burst where
  /-- source offset and source bytes -/
  off : Nat
  len : Nat
  /-- what the burst still has to be given -/
  want : List Want
  /-- bytes that came, each with the poison of its stook -/
  got : List (Byte × Bool)
  /-- its destination accesses have been issued; those not yet accepted -/
  written : Bool
  left : Nat
  outBytes : Nat
deriving DecidableEq, Repr

/-- An abort that waits for the accesses already issued (R365): its cause, its FaultAddress where that is known, the source bytes whose
data never came (first and count), and the bytes behind the last written ones that the destination did not take. -/
structure Dying where
  cause : Nat
  fault : Option Nat
  lost : List (Nat × Nat)
  short : Nat
deriving DecidableEq, Repr

/-- One DMA channel (R352 to R365). -/
structure Chan where
  /-- the number of the request cycle in which each pending request was seen, oldest first -/
  seen : List Nat
  /-- cycle of the last request -/
  reqCc : Option Nat
  /-- the descriptor in progress -/
  desc : Option Descriptor
  /-- a descriptor read from host memory is outstanding -/
  fetching : Bool
  /-- source bytes of the bursts started -/
  started : Nat
  bursts : List Burst
  /-- fixed reads offered and not returned, and those of an aborted burst -/
  fixedOut : Nat
  fixedStale : Nat
  /-- host reads of an aborted burst not yet completed -/
  hostStale : Nat
  /-- host reads of its bursts that are issued and not completed (R425) -/
  asked : Nat
  /-- counts aborts and disables: the tag of its open accesses -/
  epoch : Nat
  /-- disabled, once the running burst has ended (R354) -/
  stopping : Bool
  /-- HopCount would exceed ChainHopLimit (R356) -/
  loop : Bool
  /-- the abort in progress -/
  dying : Option Dying
deriving DecidableEq, Repr

/-- A posted write to host memory: contiguous bytes, and the poisoned-data indication. -/
structure HostWrite where
  addr : Nat
  bytes : List Byte
  poisoned : Bool
deriving DecidableEq, Repr

structure Mover where
  /-- the descriptor SRAM -/
  sram : Memory
  /-- the eight channels -/
  chans : Vector Chan 8
  /-- writes not yet handed to the host port, by the tag of their channel -/
  unsent : List (Nat × HostWrite)
  /-- the writes last handed to the host port -/
  sent : List HostWrite
  /-- cycles in which some channel saw a request, and the last of them (R354) -/
  stamp : Nat
  stampCc : Option Nat
deriving DecidableEq, Repr
/-! ### Host port and control ports (16_control_ports_and_dictionary) -/

/-- A wide access in service (R430): the value read, the write it will make, or the failure found at its start. -/
inductive WideRun where
  | value (bytes : List Byte)
  | write (ix sub : Nat) (bytes : List Byte)
  | failed (code : Nat)
deriving DecidableEq, Repr

structure HostPort where
  /-- bus mastering is enabled in the Command register -/
  busMaster : Bool
  /-- MSI-X Enable and Function Mask (R433) -/
  msixEnable : Bool
  functionMask : Bool
  /-- completion timeout encoding and Completion Timeout Disable of Device Control 2 (R427) -/
  timeoutCode : Nat
  timeoutOff : Bool
  /-- the wide buffer (R430) -/
  wide : Memory
  /-- the wide access in service -/
  wideRun : Option WideRun
  /-- the MSI-X table, by byte; an unlisted byte holds its reset value (R430) -/
  table : List (Nat × Nat)
  /-- the Pending Bit Array (R433) -/
  pba : Nat
  /-- vectors of the messages the last command sent, oldest first -/
  sent : List Nat
  /-- ns by which configuration requests complete normally (R493), and whether the last was answered with RRS -/
  readyBy : Nat
  rrs : Bool
  /-- PERST_N is low -/
  perst : Bool
  /-- in power state D3hot (R425) -/
  d3hot : Bool
  /-- Poisoned TLP Received of the AER status (R428) -/
  poisonedTlp : Bool
  /-- what the last configuration read returned -/
  configData : Nat
  /-- the completion of the last BAR0 read (R426, R429, R430) -/
  completion : Completion
deriving DecidableEq, Repr

/-- A segmented CAN FD transfer (R436, R437): the value assembled, or what is left of the upload copy. -/
structure CanXfer where
  down : Bool
  ix : Nat
  sub : Nat
  size : Nat
  data : List Byte
  toggle : Bool
  /-- ns of the last frame of the transfer -/
  lastNs : Nat
deriving DecidableEq, Repr

structure CanPort where
  xfer : Option CanXfer
  /-- the frame last sent, its padding included; empty when the last request got none -/
  answer : List Byte
  /-- its identifier -/
  answerId : Nat
deriving DecidableEq, Repr

/-- A kept snapshot of a value (R440). -/
structure Snap where
  peer : Peer
  ix : Nat
  sub : Nat
  value : List Byte
deriving DecidableEq, Repr

/-- The assembly buffer in use (R440). -/
structure Assembly where
  peer : Peer
  ix : Nat
  sub : Nat
  data : List Byte
  lastNs : Nat
deriving DecidableEq, Repr

/-- A kept response (R441). -/
structure Kept where
  peer : Peer
  seq : Nat
  opcode : Nat
  answer : List Byte
deriving DecidableEq, Repr

/-- What the Ethernet port last sent beside HDAP (R438). -/
inductive EthSent where
  | none
  | arp (mac ip : Nat)
  | echo (addr ident seq : Nat) (data : List Byte)
  | ptp (kinds : List Nat)
deriving DecidableEq, Repr

structure EthPort where
  /-- snapshots and kept responses, newest first -/
  snaps : List Snap
  /-- the assembly of a segmented write (R440) -/
  assembly : Option Assembly
  kept : List Kept
  /-- the datagram last sent by HDAP -/
  answer : List Byte
  /-- what the Ethernet port last sent by itself -/
  sent : EthSent
deriving DecidableEq, Repr

/-! ### Management (17_management_and_life_cycle, 18_power_reset_and_package) -/

/-- A foreign master's Announce (R457). -/
structure Announce where
  priority1 : Nat
  cls : Nat
  accuracy : Nat
  variance : Nat
  priority2 : Nat
  identity : Nat
deriving DecidableEq, Repr

structure Ptp where
  /-- consecutive Sync intervals within and beyond the threshold (R458) -/
  good : Nat
  bad : Nat
  /-- the master followed, as its last Announce gave it -/
  parent : Option Announce
  /-- ns and interval, in ns, of the last Sync and of the last Announce -/
  syncNs : Nat
  syncEvery : Nat
  announceNs : Nat
  announceEvery : Nat
  /-- PTP_PPS is driven high, up to this ns (R459) -/
  ppsEnd : Option Nat
  /-- the servo: the clock's rate less that of time, in 2^-32, the ns since which it holds, and the integral part (R458) -/
  freq : Int
  freqNs : Nat
  integral : Int
deriving DecidableEq, Repr

/-- Runs of consecutive samples (R449 to R451). -/
structure Sensors where
  /-- samples at or above ThermGuardSet and ThermCritical, and below ThermGuardRelease -/
  hot : Nat
  critical : Nat
  cool : Nat
  /-- ns at which the guard set -/
  guardNs : Nat
  /-- per monitor: samples outside the warning limits (up to 10) and the fault limits (up to 2) -/
  warn : List Nat
  fault : List Nat
  /-- samples with every monitor within the fault limits, up to 100 -/
  calm : Nat
deriving DecidableEq, Repr

/-- A fade of an indicator colour (R475): level at its start, target, periods in all and done. -/
structure Fade where
  from' : Nat
  dest : Nat
  periods : Nat
  done : Nat
deriving DecidableEq, Repr

/-- One constant-current sink (R473 to R475): the host's level and fade, a target and its periods that apply in the next period, the
duty of the present period, and which period of a pair it is. -/
structure Sink where
  level : Nat
  fade : Option Fade
  next : Option (Nat × Nat)
  duty : Nat
  odd : Bool
deriving DecidableEq, Repr

/-- A firmware slot (R460, R461): it verifies, its version text and its RollbackIndex. -/
structure Slot where
  valid : Bool
  version : List Byte
  rollback : Nat
deriving DecidableEq, Repr

structure Update where
  /-- the port that owns the update (R462) -/
  owner : Option Port
  /-- the two firmware slots (R460) -/
  slots : Vector Slot 2
  /-- the slot being written, and what it has received -/
  target : Fin 2
  received : List Byte
  /-- the preferred slot, on trial, with the failures of the trial (R463) -/
  preferred : Fin 2
  trial : Bool
  attempts : Nat
  /-- ns at which the boot ROM started the running slot -/
  startNs : Nat
  /-- the fused anti-rollback counter -/
  counter : Nat
  /-- the size of the boot flash, in Mib (R460) -/
  flashMib : Nat
deriving DecidableEq, Repr

/-- A profile in flash (R464): entries in ascending order, and per cell the active image and the staged one. -/
structure Profile where
  valid : Bool
  corrupt : Bool
  entries : List (Nat × Nat × List Byte)
  active : List (List Byte)
  staged : List (List Byte)
deriving DecidableEq, Repr

/-- Where one cell stands in step 5 of an activation (R465). -/
inductive LoadPhase where
  | active
  | swap
  | staged
  | done
deriving DecidableEq, Repr

/-- A store or an erase that is accepted and not done: a store holds the state of its write (R464). -/
inductive ProfileJob where
  | store (p : Fin 4) (x : Profile)
  | erase (p : Fin 4)
deriving DecidableEq, Repr

structure Profiles where
  slots : Vector Profile 4
  /-- the profile that is being activated -/
  current : Fin 4
  /-- stores and erases, the running one first -/
  jobs : List ProfileJob
  /-- how far each cell's part of the activation has come (R465) -/
  phases : Vector LoadPhase 4
deriving DecidableEq, Repr

structure Life where
  /-- the fused state, the session on top of it, and the ns at which it ends (R466, R468) -/
  fused : Nat
  sessionEnd : Option Nat
  /-- LifeCycleNonce, 32 bytes (R467) -/
  nonce : List Byte
  /-- nonces drawn before it (the model's own field) -/
  nonces : Nat
deriving DecidableEq, Repr

/-- The instructions of the test access port (R507). -/
inductive TapInstr where
  | bypass
  | idcode
  | samplePreload
  | extest
  | extestPulse
  | extestTrain
  | clamp
  | highz
deriving DecidableEq, Repr

structure Tap where
  instr : TapInstr
  /-- what the last instruction captured: the identification code or the pin states -/
  captured : Nat
  /-- pin states loaded for the tests -/
  preload : Nat
deriving DecidableEq, Repr

/-- Power and boot (R488, R494): the power-on reset is asserted; it has released and the boot has not run; the device runs. -/
inductive Boot where
  | off
  | released
  | running
deriving DecidableEq, Repr

/-- The management complex and the shared hardware beside the host port. -/
structure Mgmt where
  boot : Boot
  ptp : Ptp
  sensors : Sensors
  sinks : Vector Sink 12
  update : Update
  profiles : Profiles
  life : Life
  tap : Tap
  /-- ns at which the running wipe of each cell began (R471) -/
  wipeNs : Vector Nat 4
deriving DecidableEq, Repr
/-! ### Pattern engine (14_pattern_engine) -/

/-- A walk of the program ahead of the output (R396): where it stands, its counters, and what it still fetches of a PLAY. -/
structure Look where
  pc : Nat
  ctr : List Nat
  next : Nat
  left : Nat
deriving DecidableEq, Repr

/-- A buffer of pattern stooks, filled in order. -/
structure PatBuf where
  /-- tag of its open reads -/
  tag : Nat
  /-- stooks present, each with its poison -/
  have' : List (Nat × Bool)
  /-- stooks asked for and not arrived -/
  due : Nat
  /-- of those to come, the first so many are too late -/
  late : Nat
deriving DecidableEq, Repr

/-- The output a running engine gives (R392). -/
inductive PatOut where
  /-- before the first output: the cc from which on it may begin, absent on the bypass clock, and the cc since which the next stook is
  there -/
  | waiting (first : Option Nat) (ready : Option Nat)
  /-- word driven from a boundary on; for a HOLD, up to a boundary -/
  | word (w from' : Nat) (upTo : Option Nat)
  /-- PLAY from a boundary up to another: bit-times emitted, and the stook they are taken from when it is there -/
  | play (from' upTo emitted : Nat) (stook : Option Nat)
deriving DecidableEq, Repr

structure Pattern where
  out : PatOut
  /-- the next instruction of the program; during a PLAY or a HOLD the one behind it (R392) -/
  pc : Nat
  /-- words emitted, newest first: the boundary each is driven from; absent for IdleValue (R387, R388) -/
  shown : List (Nat × Option Nat)
  ctr : List Nat
  /-- instructions since the last PLAY, HOLD or wait (R392) -/
  run : Nat
  /-- latches: line, and cc in which a pulse was seen (R393) -/
  latches : List (Nat × Nat)
  /-- tag and boundary of the releases of the boundaries now emitted (R394) -/
  releases : List (Nat × Nat)
  /-- the lookahead of the prefetch (R396) -/
  look : Look
  /-- the targets of the branches the lookahead has passed, the nearest first -/
  forks : List Look
  /-- the stooks ahead of the output, and those landed for the targets of branches (R396) -/
  fifo : PatBuf
  land : PatBuf
  /-- landed stooks of the branch taken last, ahead of the FIFO -/
  feed : PatBuf
  /-- next tag of a buffer -/
  tags : Nat
deriving DecidableEq, Repr
/-! ### Messages a cell leaves for the shared region -/

/-- A request a cell makes of the shared region while it executes a command: a log entry (R453), a bit of EpochLoaded or
EpochSkipped (R40, R41), or a trigger of its DMA-abort interrupt source (R365, R432). -/
inductive Msg where
  | log (code severity : Nat) (data : List Byte)
  | epochLoaded
  | epochSkipped
  | dmaAbort
deriving DecidableEq, Repr

/-! ### One acquisition cell (R21) -/

structure Cell where
  /-- the cell's cycle: the cc index t whose first sample is 128 t, or the bypass cycle on the bypass clock (R9, R29) -/
  now : Nat
  /-- ns since power-on at the last command of the cell -/
  nowNs : Nat
  /-- held in reset (R490) -/
  held : Bool
  /-- entries: current values, the staged copy for RWS entries (R13) -/
  regs : Regs
  doms : Doms
  /-- Swath-class values in force, taken at the last applied commit (R14, R73) -/
  act : Regs
  actDoms : Doms
  /-- Arm-class values in force, taken when the cell last left idle (R14) -/
  arm : Regs
  armDoms : Doms
  /-- Frame-class values in force (R14, R339) -/
  frm : Regs
  frmDoms : Doms
  /-- Reset-class values in force (R14) -/
  rst : Regs
  /-- the event fabric (R31 to R34) -/
  fab : Fabric
  /-- the schedule executor (R50 to R76) -/
  exe : Executor
  /-- the tracker (R37 to R48) -/
  trk : Tracker
  /-- the sample clock (R103 to R119) -/
  clk : Clock
  /-- the front end (R80 to R102) -/
  fe : FrontEnd
  /-- the hayward token (R414 to R418) -/
  hay : Hayward
  /-- interleave correction (R123 to R146) -/
  cor : Correction
  /-- the filter engine (R147 to R168) -/
  flt : Filter
  /-- trigger units and arming (R170 to R233) -/
  trg : Trig
  /-- placement and TDC (R234 to R240) -/
  plc : Placement
  /-- capture (R244 to R266) -/
  cap : Capture
  /-- waveform accumulation (R304 to R328) -/
  acc : Acc
  /-- deep memory (R267 to R303) -/
  mem : Deep
  /-- the cell port (R366 to R384) -/
  prt : CellPort
  /-- raster scan-out (R329 to R351) -/
  ras : Raster
  /-- the DMA mover (R352 to R365) -/
  dma : Mover
  /-- the pattern engine (R388 to R403) -/
  pat : Pattern
  /-- requests to the shared region of the command in execution; empty between commands -/
  out : List Msg
deriving DecidableEq, Repr

/-! ### The shared region -/

/-- An entry of the event log (R453). -/
structure LogEntry where
  time : Nat
  seq : Nat
  source : Nat
  flags : Nat
  code : Nat
  data : List Byte
deriving DecidableEq, Repr

/-- What a port last heard of an access: 0, or the abort code (R424). -/
structure Answers where
  pcie : Nat
  eth : Nat
  can : Nat
  pangobor : Nat
  wide : Nat
deriving DecidableEq, Repr

/-- The interrupt sources that are no event lines (R432). -/
inductive IntSrc where
  | dmaAbort (n : CellNo)
  | dictError
  | wideDone
  | notice
deriving DecidableEq, Repr

/-- What the log mirror does (R455). -/
inductive MirrorPhase where
  | idle
  | copying
  | interval
deriving DecidableEq, Repr

/-- The event log: the RAM ring, newest first and at most 8,192 entries, and its flash mirror (R453, R455). -/
structure EventLog where
  ring : List LogEntry
  nextSeq : Nat
  mirror : List LogEntry
  phase : MirrorPhase
  /-- entries of the ring not yet mirrored, and entries the running copy holds -/
  unmirrored : Nat
  copying : Nat
deriving DecidableEq, Repr

structure Glob where
  /-- ns since power-on at the last command -/
  nowNs : Nat
  regs : Regs
  doms : Doms
  /-- Reset-class values in force (R14) -/
  rst : Regs
  /-- the last answer at each port (R424) -/
  answers : Answers
  /-- the PCI Express port (R425 to R434) -/
  hst : HostPort
  /-- the CAN FD port (R435 to R437) -/
  can : CanPort
  /-- the Ethernet port (R438 to R441) -/
  eth : EthPort
  /-- the management complex (R446 to R494) -/
  mgmt : Mgmt
  /-- what the last LOG_READ returned (R456) -/
  readData : List Byte
  /-- the event log (R453 to R456) -/
  log : EventLog
  /-- interrupt triggers that MSIX_TRIGGER has yet to hand on (R432, R433) -/
  trigs : List IntSrc
  /-- the management processor restarts (R447) -/
  mgmtDown : Bool
  /-- PTP time less time since power-on, in ns, at the last change of the clock's rate or value (R458) -/
  ptpOff : Int
  /-- free values drawn so far (the model's own field) -/
  fresh : Nat
deriving DecidableEq, Repr

structure State where
  cells : Vector Cell 4
  glob : Glob
  /-- commands that wait, first in, first out -/
  pending : List Instr
deriving DecidableEq, Repr

/-! ### Outcomes -/

/-- Why a command stops the model. -/
inductive Fault where
  /-- Raised by the BAR2 and BAR4 commands for a transfer no TLP can carry: no byte, more than 4,096, or across its window (R426).
  Safe: the sender's command is ill-formed, the part never sees it. -/
  | malformedTlp
deriving DecidableEq, Repr

/-- Why a command has no meaning. -/
inductive Refusal where
  /-- Raised by the dispatcher for a command whose meaning is not written.  Safe. -/
  | notModelled (mnemonic : String)
deriving DecidableEq, Repr

/-! ### Reset (R489, R490, R494) -/

def zeroSet : CoefSet :=
  ⟨0, 0, List.replicate 128 0, List.replicate 128 0, List.replicate 128 0, List.replicate 8 0⟩

def zeroEst : RangeEst :=
  ⟨⟨List.replicate 128 0, 0⟩, ⟨List.replicate 128 0, 0⟩, ⟨List.replicate 128 0, 0⟩, ⟨List.replicate 8 0, 0⟩⟩

def zeroUnit : UnitSt :=
  ⟨0, none, ⟨false, false⟩, ⟨false, false⟩, ⟨false, false⟩, none, none, none, none, false, false, none, none,
  false, 0, none⟩

def noPlan : LanePlan := ⟨0, 0, 0, 0, 0, 0, 1, 1, 1, 0, 0⟩

def noStream : Stream := ⟨false, 0, noPlan, 0, 0, 0, 0, 0, 0, 0, [], 0, [], [], none, [], [], 0, 0, none, false⟩

def noLive : Live := ⟨false, 0, noPlan, 0, 0, 0, 0, 0, [], 0, [], 0, 0, none, false⟩

def noBanks : Banks := ⟨0, List.replicate 16 [], List.replicate 16 []⟩

def noChan : Chan := ⟨[], none, none, false, 0, [], 0, 0, 0, 0, 0, false, false, none⟩

def noLook : Look := ⟨0, [0, 0, 0, 0], 0, 0⟩

/-- A cell at a cell reset: every entry at its default, the bypass clock, nothing in flight (R490, R111). -/
def Cell.init : Cell :=
  { now := 0, nowNs := 0, held := false
    regs := [], doms := [], act := [], actDoms := [], arm := [], armDoms := [], frm := [], frmDoms := [], rst := []
    fab := { pulses := [], carried := [], carriedAt := 0, evo0End := none, evo1End := none }
    exe := { active := none, staged := none, stagedBytes := [], bank := .empty, runs := [], windows := [], activation := 0,
             breachSeen := 0, commitCc := none, noWindowLogged := 0, running := false, ahead := [] }
    trk := { line := ⟨0, 0, 2 ^ 56⟩, prevLine := ⟨0, 0, 2 ^ 56⟩, startCc := 0, nextLine := none, meas := [], offsets := [],
             inLimit := 0, beyond := 0, auxLost := false, auxEdge := none, auxSeen := false, auxQuiet := 0, auxFast := false,
             auxTicks := 0, epoch := none }
    clk := { inRun := 0, outRun := 0, outFirst := 0, faultCc := 0, planned := false, retune := none, clkMark := false, tLast := none,
             holdoffEnd := 0, pllLocked := false, onFcc := false, everRun := false, gap := 0, fccStart := 0, fresh := 0,
             suspectFrom := 0 }
    fe := { ovr := [], rails := [], unsettled := [], countedTo := 0, overloadFrom := none, legsOut := false, legEntry := (0, 0),
            legFirst := none, past := [], pins := [], logic := none }
    hay := { waits := Vector.replicate 5 ⟨none, 0, 0, 0⟩, granted := [], grantStart := 0, grantEnd := 0, grantWindow := 0,
             freeFrom := 0, lastHolder := 255, scrubYielded := false, passedTo := 0 }
    cor := { sets := List.replicate 8 zeroSet, est := List.replicate 8 zeroEst, written := [], shadow := none, accepted := 0,
             converged := false, lastRejected := false, bgStart := 0, blockFrontEnd := false, blockCut := false,
             blockDisabled := false, cause := 0 }
    flt := { lanes := Vector.replicate 4 ⟨[], false, none, none, none⟩, settings := [], marks := [], satFrom := 0 }
    trg := { units := Vector.replicate 4 zeroUnit, old := [], levels := [], queue := [], forces := [],
             segStart := none, segMarks := [], acqs := [], arms := [], lastCand := none, lastUnsettled := none,
             tdc := [], lastEdge := none, cdr := ⟨[], 0, 0, false, 0, 0, 0, 0, none, 0⟩,
             track := ⟨none, false, 0, (none, false), none, none, 0⟩, armTaken := none }
    plc := { startup := false, trims := none, toggle := false, toggledNs := 0, past := [], tables := Vector.replicate 2 [] }
    cap := { memory := [], mode := 0, cfg := [], streams := Vector.replicate 4 noStream, start := 0, stop := none, ended := true,
             segments := [], drained := [] }
    acc := { memory := [], lfsr := 0xACE1, group := none, r0 := 0, up := false, delay := [], records := [], started := 0,
             lastEnd := none, runFrom := 0, intakeFrom := none, cut := none, gate := [], origins := [], hist := [], clearEnd := 0,
             starting := false, recent := [], laid := ⟨0, 0, none, none⟩, stats := none, offFrom := none }
    mem := { memory := [], up := false, banks := Vector.replicate 4 noBanks, requests := Vector.replicate 7 [],
             flights := Vector.replicate 7 [], fixedReads := [], served := [], rrClass := 0, rrRaster := 0, wakeFrom := 0,
             busyNs := 0, retrain := none, retrainNs := 0, fresh := 0, tornNow := false, tornNext := false, hostReads := [],
             gathered := [], completion := ⟨.none, [], false⟩ }
    prt := { live := Vector.replicate 4 noLive, play := Vector.replicate 4 ⟨0, 0, 0, []⟩, gaps := [],
             received := List.replicate 16 0, freed := List.replicate 16 0, old := List.replicate 16 0, sent := List.replicate 16 0,
             credit := List.replicate 16 0, rotation := 0, pools := Vector.replicate 8 [], writes := [], heldWrites := [],
             outbound := [], badRun := 0, linkRun := 0, partner := 0, since := 0, lastFlit := 0 }
    ras := { taken := none, second := false, active := false, line := 0, ending := false, stores := [], underran := false,
             cursor := [], cursorReady := none, cursorNext := none, cursorLate := false, cursorTag := 0, cursorDue := false,
             density := none, densityMap := none, peak := 0, teNeed := 0, frameNs := none, period := none, blankEnd := 0, endNs := none,
             pixels := [], link := ⟨.stop, false, 0, false, []⟩ }
    dma := { sram := [], chans := Vector.replicate 8 noChan, unsent := [], sent := [], stamp := 0, stampCc := none }
    pat := { out := .waiting none none, pc := 0, shown := [], ctr := [0, 0, 0, 0], run := 0, latches := [], releases := [],
             look := noLook, forks := [], fifo := ⟨0, [], 0, 0⟩, land := ⟨1, [], 0, 0⟩, feed := ⟨2, [], 0, 0⟩, tags := 3 }
    out := [] }

/-- The host port after its reset (R492). -/
def HostPort.init : HostPort :=
  { busMaster := false, msixEnable := false, functionMask := false, timeoutCode := 0, timeoutOff := false, wide := [], wideRun := none,
    table := [], pba := 0, sent := [], readyBy := 50000000, rrs := false, perst := false, d3hot := false,
    poisonedTlp := false, configData := 0, completion := ⟨.none, [], false⟩ }

def EthPort.init : EthPort := { snaps := [], assembly := none, kept := [], answer := [], sent := .none }

def Ptp.init : Ptp :=
  { good := 0, bad := 0, parent := none, syncNs := 0, syncEvery := 0, announceNs := 0, announceEvery := 0, ppsEnd := none, freq := 0,
    freqNs := 0, integral := 0 }

def Sensors.init : Sensors :=
  { hot := 0, critical := 0, cool := 0, guardNs := 0, warn := List.replicate 24 0, fault := List.replicate 24 0, calm := 0 }

def Sink.init : Sink := { level := 0, fade := none, next := none, duty := 0, odd := false }

def emptyProfile : Profile := { valid := false, corrupt := false, entries := [], active := [], staged := [] }

/-- A nonce that is drawn: 32 bytes of a free value (R467). -/
def drawNonce (k : Nat) : List Byte := (List.range 32).map (fun i => BitVec.ofNat 8 (Config.nonce k i))

/-- The shared hardware at the release of the power-on reset, before the boot (R488, R494): slot A holds the running firmware, no profile
is stored, the life cycle is BLANK (log entry 101). -/
def Mgmt.init : Mgmt :=
  { boot := .released, ptp := Ptp.init, sensors := Sensors.init, sinks := Vector.replicate 12 Sink.init
    update := { owner := none, slots := #v[⟨true, [], 0⟩, ⟨false, [], 0⟩], target := 1, received := [], preferred := 0, trial := false,
                attempts := 0, startNs := 0, counter := 0, flashMib := 256 }
    profiles := { slots := Vector.replicate 4 emptyProfile, current := 0, jobs := [], phases := Vector.replicate 4 .done }
    life := { fused := 0, sessionEnd := none, nonce := drawNonce 0, nonces := 0 }
    tap := { instr := .idcode, captured := 0, preload := 0 }
    wipeNs := Vector.replicate 4 0 }

def Glob.init : Glob :=
  { nowNs := 0, regs := [], doms := [], rst := [], answers := ⟨0, 0, 0, 0, 0⟩, hst := HostPort.init, can := ⟨none, [], 0⟩,
    eth := EthPort.init, mgmt := Mgmt.init, readData := [], log := ⟨[], 0, [], .idle, 0, 0⟩, trigs := [], mgmtDown := false, ptpOff := 0,
    fresh := 0 }

/-- The machine at the release of the power-on reset (R494, time 0): all cells are held in reset, every entry reads its default. -/
def State.reset : State :=
  { cells := Vector.replicate 4 { Cell.init with held := true }, glob := Glob.init, pending := [] }

end Sys2Proof.Machine
end

