-- ==== Sys2Proof/Machine/Image.lean ====
section
/-! DEFINITION. The schedule image: its parser and its verifier (R52 to R68), and the quantities of an accepted image that the
executor uses.  The checks run in the order of R68's table; the first failure gives the code and the byte offset of the first
offending field (log entry 20). -/

namespace Sys2Proof.Machine

/-- Length of a swath in cc (R49). -/
def Image.swathCc (m : Image) : Nat := 25 * m.swathQ

/-- Offset and length of section `i` of the directory (R53). -/
def sectOff (b : List Byte) (i : Nat) : Nat := fld b (48 + 8 * i) 4
def sectLen (b : List Byte) (i : Nat) : Nat := fld b (52 + 8 * i) 4
def sectBytes (b : List Byte) (i : Nat) : List Byte := slice b (sectOff b i) (sectLen b i)

/-- The whole entries of a section, each with its byte offset in the image. -/
def sectEntries (b : List Byte) (i size : Nat) : List (Nat × List Byte) :=
  (List.range (sectLen b i / size)).map (fun k => (sectOff b i + k * size, slice b (sectOff b i + k * size) size))

def parseLane (e : List Byte) : LanePlan :=
  ⟨fld e 0 1, fld e 1 1, fld e 2 1, fld e 3 1, fld e 4 1, fld e 5 1, fld e 6 2, fld e 8 2, fld e 10 2, fld e 12 2, fld e 14 2⟩

def parseEvent (e : List Byte) : EventEntry :=
  ⟨fld e 0 12, fld e 12 8, fld e 20 4, fld e 24 1, fld e 25 1, fld e 26 2, fld e 28 1, fld e 29 1⟩

def parseDecl (e : List Byte) : OpenDecl := ⟨fld e 0 1, fld e 4 4, fld e 8 4, fld e 12 4⟩

def parseWindow (e : List Byte) : MaintWindow := ⟨fld e 0 2, fld e 2 2, fld e 4 2, fld e 6 2, fld e 8 1⟩

def parseClause (e : List Byte) : Clause := ⟨fld e 0 1, fld e 1 1, fld e 2 2, fld e 4 4⟩

/-- The image its bytes hold (R53 to R66). -/
def parseImage (b : List Byte) : Image :=
  { bytes := b, source := fld b 17 1, fsMin := fld b 20 4, fsMax := fld b 24 4, swathQ := fld b 28 2, patQ := fld b 30 2,
    id := fld b 32 4, slots := sectBytes b 0,
    lanes := (sectEntries b 1 32).map (fun e => parseLane e.2),
    events := (sectEntries b 2 32).map (fun e => parseEvent e.2),
    decls := (sectEntries b 3 16).map (fun e => parseDecl e.2),
    windows := (sectEntries b 4 16).map (fun e => parseWindow e.2),
    clauses := (sectEntries b 5 8).map (fun e => parseClause e.2) }

/-! Fixed slots (R54, R55) -/

/-- Kind and target of a slot byte (R54). -/
def slotKind (s : Byte) : Nat := bits s.toNat 0 4
def slotTarget (s : Byte) : Nat := bits s.toNat 4 3

/-- The slots of channel `ch`, in order over the pattern (R54). -/
def Image.channelSlots (m : Image) (ch : Nat) : List Byte :=
  (List.range m.patQ).flatMap (fun q => slice m.slots (q * 144 + ch * 36) 36)

/-- Slots of a kind and target on one channel, per pattern. -/
def Image.slotCount (m : Image) (ch kind target : Nat) : Nat :=
  ((m.channelSlots ch).filter (fun s => slotKind s == kind && slotTarget s == target)).length

/-- Slots of a kind and target on all channels, per pattern (R55, R66). -/
def Image.slotTotal (m : Image) (kind target : Nat) : Nat :=
  m.slotCount 0 kind target + m.slotCount 1 kind target + m.slotCount 2 kind target + m.slotCount 3 kind target

/-- Where the first run of 16 fixed slots of a list starts; `i` is the index reached, `cur` the run so far. -/
def fixedRunAt : List Byte → Nat → Nat → Option Nat
  | [], _, _ => none
  | s :: ss, i, cur =>
    if slotKind s == 0 then fixedRunAt ss (i + 1) 0
    else if cur == 15 then some (i - 15) else fixedRunAt ss (i + 1) (cur + 1)

/-- The first slot of 16 consecutive slots of the channel, taken cyclically, that hold no OPEN slot (R55). -/
def Image.closedRun (m : Image) (ch : Nat) : Option Nat :=
  let ss := m.channelSlots ch
  (fixedRunAt (ss ++ ss) 0 0).map (fun i => i % max 1 ss.length)

/-! Lane rates as exact fractions (R58) -/

def LanePlan.enabled (l : LanePlan) : Bool := bit l.flags 0
def LanePlan.toCapture (l : LanePlan) : Bool := bit l.flags 1
def LanePlan.toPort (l : LanePlan) : Bool := bit l.flags 2
def LanePlan.toAcc (l : LanePlan) : Bool := bit l.flags 3

/-- Values per stook by packing: 12, 15 or 7. -/
def packValues (packing : Nat) : Nat := if packing = 0 then 12 else if packing = 1 then 15 else 7

/-- Values an output step produces: two for peak-detect and envelope (R58). -/
def LanePlan.perOutput (l : LanePlan) : Nat := if l.mode = 1 ∨ l.mode = 3 then 2 else 1

/-- Stooks per cc of a lane, as numerator and denominator (R58). -/
def LanePlan.stookRate (l : LanePlan) : Nat × Nat :=
  (128 * l.perOutput, l.decim * l.boxcar * packValues l.packing)

/-- Sum of two fractions. -/
def addFrac (a b : Nat × Nat) : Nat × Nat := (a.1 * b.2 + b.1 * a.2, a.2 * b.2)

def sumFrac (xs : List (Nat × Nat)) : Nat × Nat := xs.foldl addFrac (0, 1)

/-- `a ≤ b` of fractions. -/
def leFrac (a b : Nat × Nat) : Bool := a.1 * b.2 ≤ b.1 * a.2

/-- The lane's fields lie in the ranges of R57 and R58. -/
def LanePlan.inRange (l : LanePlan) : Bool :=
  l.lane ≤ 3 && l.capStream ≤ 3 && l.portStream ≤ 3 && l.packing ≤ 2 && l.mode ≤ 3 &&
  1 ≤ l.decim && l.decim ≤ 4096 && (if l.decim = 1 then l.taps == 0 else 1 ≤ l.taps && l.taps ≤ 512) &&
  1 ≤ l.boxcar && l.boxcar ≤ 256 && (l.packing != 2 || 2 ≤ l.boxcar)

/-- The first byte of a lane entry whose field is out of range. -/
def LanePlan.badField (l : LanePlan) : Nat :=
  if 3 < l.lane then 0 else if 3 < l.capStream then 2 else if 3 < l.portStream then 3 else if 2 < l.packing then 4
  else if l.packing = 2 ∧ l.boxcar < 2 then 4
  else if 3 < l.mode then 5 else if l.decim < 1 ∨ 4096 < l.decim then 6
  else if (if l.decim = 1 then l.taps ≠ 0 else l.taps < 1 ∨ 512 < l.taps) then 8 else 10

/-- MacBudget the rule asks of an enabled lane (R58). -/
def LanePlan.macWanted (l : LanePlan) : Nat := if l.decim ≤ 1 then 0 else ceilDiv (l.taps * 128) l.decim

/-- Fixed reads of the capture buffer per cc: drain slots and live port streams (R55). -/
def Image.fixedReads (m : Image) : Nat × Nat :=
  let drain := (m.slotTotal 1 0 + m.slotTotal 1 1 + m.slotTotal 1 2 + m.slotTotal 1 3, 25 * m.patQ)
  sumFrac (drain :: ((m.lanes.filter (fun l => l.enabled && l.toPort && l.inRange)).map LanePlan.stookRate))

/-- Capture stooks per cc of all enabled capturing lanes (R58). -/
def Image.captureRate (m : Image) : Nat × Nat :=
  sumFrac ((m.lanes.filter (fun l => l.enabled && l.toCapture)).map LanePlan.stookRate)

/-- The capture lane of a stream. -/
def Image.captureLane (m : Image) (stream : Nat) : Option LanePlan :=
  m.lanes.find? (fun l => l.enabled && l.toCapture && l.capStream == stream)

/-- The enabled lane with a number. -/
def Image.enabledLane (m : Image) (lane : Nat) : Option LanePlan :=
  m.lanes.find? (fun l => l.enabled && l.lane == lane)

/-! Open slots outside maintenance (R64) -/

/-- The quantum lies in some maintenance window, counting every window as present in every swath (R64). -/
def Image.maintQuantum (m : Image) (q : Nat) : Bool :=
  m.windows.any (fun w => w.start / 25 ≤ q && q < (w.start + w.len) / 25)

/-- OPEN slots of channel `ch` in quantum `q` of the swath. -/
def Image.openIn (m : Image) (ch q : Nat) : Nat :=
  ((slice m.slots (q % m.patQ * 144 + ch * 36) 36).filter (fun s => slotKind s == 0)).length

/-- OPEN slots of channel `ch` outside every maintenance window in the quanta from `q0`, `n` of them. -/
def Image.openSpan (m : Image) (ch q0 : Nat) : Nat → Nat
  | 0 => 0
  | n + 1 => (if m.maintQuantum (q0 + n) then 0 else m.openIn ch (q0 + n)) + m.openSpan ch q0 n

/-- Windows of length `wj` that overlap `[a, a + wi)` when windows run back to back from 0. -/
def overlapCount (a wi wj : Nat) : Nat := (a + wi - 1) / wj - a / wj + 1

/-- R64 for one window `k` of class `d` on one channel. -/
def Image.serviceOk (m : Image) (d : OpenDecl) (k ch : Nat) : Bool :=
  let have' := m.openSpan ch (k * d.windowCc / 25) (d.windowCc / 25)
  let taken := ((m.decls.filter (fun j => j.cls < d.cls)).map
    (fun j => j.maxStooks * overlapCount (k * d.windowCc) d.windowCc j.windowCc)).foldl (· + ·) 0
  taken + d.minStooks ≤ have'

/-- R64 for a declared class, over all its windows and channels. -/
def Image.declFeasible (m : Image) (d : OpenDecl) : Bool :=
  (List.range (m.swathCc / d.windowCc)).all (fun k =>
    m.serviceOk d k 0 && m.serviceOk d k 1 && m.serviceOk d k 2 && m.serviceOk d k 3)

/-- A declaration whose fields keep R63. -/
def Image.declValid (m : Image) (d : OpenDecl) : Bool :=
  d.cls ≤ 3 && 0 < d.windowCc && d.windowCc % 25 == 0 && m.swathCc % d.windowCc == 0 && d.minStooks ≤ d.maxStooks

/-- A maintenance window whose fields keep R65. -/
def Image.windowValid (m : Image) (w : MaintWindow) : Bool :=
  w.start % 25 == 0 && 25 ≤ w.len && w.len % 25 == 0 && w.start + w.len ≤ m.swathCc && 1 ≤ w.period && w.phase < w.period

/-- The first field of a declaration, or of a window, that breaks its rule. -/
def Image.declBad (m : Image) (d : OpenDecl) : Nat :=
  if 3 < d.cls then 0 else if d.windowCc = 0 ∨ d.windowCc % 25 ≠ 0 ∨ m.swathCc % d.windowCc ≠ 0 then 4 else 12

def Image.windowBad (m : Image) (w : MaintWindow) : Nat :=
  if w.start % 25 ≠ 0 then 0 else if w.len < 25 ∨ w.len % 25 ≠ 0 ∨ m.swathCc < w.start + w.len then 2 else if w.period < 1 then 4 else 6

/-- Two windows meet in some swath and share a cc (R65). -/
def windowsClash (a b : MaintWindow) : Bool :=
  a.phase % Nat.gcd a.period b.period == b.phase % Nat.gcd a.period b.period &&
  a.start < b.start + b.len && b.start < a.start + a.len

/-- A clause of a defined kind is proven (R66). -/
def Image.clauseProven (m : Image) (c : Clause) : Bool :=
  match c.kind with
  | 1 =>
    let need := match m.captureLane c.subject with
      | some l => ceilDiv (l.stookRate.1 * (25 * m.patQ)) l.stookRate.2
      | none => 0
    c.subject ≤ 3 && need + c.value ≤ m.slotTotal 1 c.subject
  | 2 => m.decls.any (fun d => d.cls == c.subject)
  | 3 => c.subject ≤ 4 && m.windows.any (fun w => bit w.mask c.subject)
  | _ => false

/-! The verifier -/

/-- A check: nothing, or a code with a byte offset. -/
abbrev ImgCheck := Option (Nat × Nat)

def failIf (c : Bool) (code off : Nat) : ImgCheck := if c then some (code, off) else none

/-- The first failure of a list of checks (R68). -/
def firstFail : List ImgCheck → ImgCheck
  | [] => none
  | some e :: _ => some e
  | none :: cs => firstFail cs

/-- The first byte of a block at or after offset `i` that is not 0, among `n`. -/
def firstNonZero (b : List Byte) (i : Nat) : Nat → Option Nat
  | 0 => none
  | n + 1 => if (b.getD i 0) != 0 then some i else firstNonZero b (i + 1) n

def nzAt (b : List Byte) (i n : Nat) : ImgCheck := (firstNonZero b i n).map (fun o => (0x0110, o))

/-- The header checks up to the hash and target (R68, codes 0101h to 0109h). -/
def checkHeaderA (b : List Byte) (stepping cell fs : Nat) : List ImgCheck :=
  [ failIf (fld b 0 4 != 0x4953524E) 0x0101 0,
    failIf (fld b 4 2 != 1) 0x0102 4,
    failIf (b.length < 128 || 32768 < b.length) 0x0103 0,
    failIf (fld b 6 2 != 128) 0x0103 6,
    failIf (fld b 8 4 != b.length) 0x0103 8,
    failIf (sha256 (patch b 96 (zeros 32)) != slice b 96 32) 0x0104 96,
    failIf (fld b 12 2 != 0x1040) 0x0105 12,
    failIf (stepping < fld b 14 2) 0x0106 14,
    failIf (fld b 16 1 != 255 && fld b 16 1 != cell) 0x0107 16,
    failIf (fld b 20 4 < 96000 || 160000 < fld b 20 4) 0x0108 20,
    failIf (fld b 24 4 < fld b 20 4 || 160000 < fld b 24 4) 0x0108 24,
    failIf (fs < fld b 20 4 * 1000000) 0x0109 20,
    failIf (fld b 24 4 * 1000000 < fs) 0x0109 24 ]

/-- Section `i` lies inside the image after the header and meets no earlier section (R53). -/
def sectBad (b : List Byte) (i : Nat) : Bool :=
  sectLen b i != 0 &&
  (sectOff b i < 128 || b.length < sectOff b i + sectLen b i ||
   (List.range i).any (fun j => sectLen b j != 0 && sectOff b j < sectOff b i + sectLen b i && sectOff b i < sectOff b j + sectLen b j))

/-- The checks of codes 010Ah to 010Dh. -/
def checkHeaderB (b : List Byte) : List ImgCheck :=
  [ failIf (fld b 28 2 < 4 || 2621 < fld b 28 2) 0x010A 28,
    failIf (fld b 30 2 < 1 || 64 < fld b 30 2 || fld b 28 2 % fld b 30 2 != 0) 0x010B 30 ] ++
  ((List.range 6).map (fun i => failIf (sectBad b i) 0x010C (48 + 8 * i))) ++
  [ failIf (4 < fld b 17 1) 0x010D 17, failIf (fld b 32 4 == 0) 0x010D 32 ]

/-- Reserved fields and clause Result bytes are 0 (R52, R66, code 0110h). -/
def reservedNonZero (b : List Byte) : List ImgCheck :=
  [ nzAt b 18 2, nzAt b 36 12 ] ++
  ((List.range (sectLen b 0)).map (fun i => failIf (bit (b.getD (sectOff b 0 + i) 0).toNat 7) 0x0110 (sectOff b 0 + i))) ++
  ((sectEntries b 1 32).flatMap (fun e => [ failIf (bits (fld e.2 1 1) 4 4 != 0) 0x0110 (e.1 + 1), nzAt b (e.1 + 16) 16 ])) ++
  ((sectEntries b 2 32).flatMap (fun e => [ failIf (bits (fld e.2 29 1) 1 7 != 0) 0x0110 (e.1 + 29), nzAt b (e.1 + 30) 2 ])) ++
  ((sectEntries b 3 16).map (fun e => nzAt b (e.1 + 1) 3)) ++
  ((sectEntries b 4 16).flatMap (fun e => [ failIf (bits (fld e.2 8 1) 5 3 != 0) 0x0110 (e.1 + 8), nzAt b (e.1 + 9) 7 ])) ++
  ((sectEntries b 5 8).map (fun e => failIf (fld e.2 1 1 != 0) 0x0110 (e.1 + 1)))

/-- The lower of two failing offsets. -/
def lowest (a b : ImgCheck) : ImgCheck :=
  match a, b with
  | some x, some y => if y.2 < x.2 then some y else some x
  | some x, none => some x
  | none, y => y

/-- The failure of one row of R68 at the lowest byte offset: the first offending field. -/
def lowestOf (cs : List ImgCheck) : ImgCheck := cs.foldl lowest none

/-- Code 0110h at the first offending byte of the image. -/
def checkReserved (b : List Byte) : List ImgCheck := [lowestOf (reservedNonZero b)]

/-- A slot byte of a reserved kind, or with a target its kind does not have (R54). -/
def slotBad (s : Byte) : Bool :=
  3 < slotKind s || (slotKind s == 0 && slotTarget s != 0) || (slotKind s == 1 && 3 < slotTarget s) ||
  (slotKind s == 3 && 3 < slotTarget s)

/-- The slot table's checks (codes 0201h to 0205h).  DESIGN CHOICE (log entry 20): where a check is over several fields the offset is that
of the first slot of the run for 0202h, of the channel's first slot for 0203h, and of the section's start for 0205h, 0302h and the capture
sum of 0304h; for 0502h it is that of the MinStooks field. -/
def checkSlots (b : List Byte) (m : Image) : List ImgCheck :=
  [ failIf (sectLen b 0 != m.patQ * 144) 0x0201 52 ] ++
  ((List.range (sectLen b 0)).map (fun i => failIf (slotBad (b.getD (sectOff b 0 + i) 0)) 0x0201 (sectOff b 0 + i))) ++
  [ lowestOf ((List.range 4).map (fun ch =>
      (m.closedRun ch).map (fun i => (0x0202, sectOff b 0 + i / 36 * 144 + ch * 36 + i % 36)))) ] ++
  ([1, 2, 3].flatMap (fun ch => [1, 2, 3].flatMap (fun k => (List.range 8).map (fun t =>
    failIf (m.slotCount ch k t != m.slotCount 0 k t) 0x0203 (sectOff b 0 + ch * 36))))) ++
  ((List.range (sectLen b 0)).map (fun i =>
    let s := b.getD (sectOff b 0 + i) 0
    failIf (slotKind s == 1 && (m.captureLane (slotTarget s)).isNone) 0x0204 (sectOff b 0 + i))) ++
  [ failIf (!leFrac m.fixedReads (8, 1)) 0x0205 (sectOff b 0) ]

/-- The lane plan's checks (codes 0301h to 0304h). -/
def checkLanes (b : List Byte) (m : Image) : List ImgCheck :=
  let es := (sectEntries b 1 32).zip m.lanes
  [ failIf (sectLen b 1 % 32 != 0 || 128 < sectLen b 1) 0x0301 60 ] ++
  [ lowestOf ((List.range es.length).flatMap (fun i =>
      match es[i]? with
      | some e => [ failIf (!e.2.inRange) 0x0301 (e.1.1 + e.2.badField),
                    failIf ((m.lanes.take i).any (fun l => l.lane == e.2.lane)) 0x0301 e.1.1,
                    failIf (e.2.enabled && e.2.toCapture &&
                      (m.lanes.take i).any (fun l => l.enabled && l.toCapture && l.capStream == e.2.capStream)) 0x0301 (e.1.1 + 2) ]
      | none => [])) ] ++
  [ failIf (2048 < ((m.lanes.filter LanePlan.enabled).map (fun l => l.mac + l.fade)).foldl (· + ·) 0) 0x0302 (sectOff b 1) ] ++
  (es.flatMap (fun e =>
    [ failIf (e.2.enabled && e.2.mac != e.2.macWanted) 0x0303 (e.1.1 + 12),
      failIf (e.2.enabled && e.2.fade != 0 && e.2.fade != e.2.mac) 0x0303 (e.1.1 + 14) ])) ++
  [ failIf (!leFrac m.captureRate (12, 1)) 0x0304 (sectOff b 1) ] ++
  (es.map (fun e => failIf (e.2.enabled && e.2.toPort && !leFrac e.2.stookRate (17, 8)) 0x0304 e.1.1))

/-- An event's parameter keeps R60. -/
def eventParamOk (e : EventEntry) : Bool :=
  match e.action with
  | 3 | 4 => e.param ≤ 3
  | 6 => e.param ≤ 255
  | _ => e.param == 0

/-- The event table's checks (codes 0401h to 0404h). -/
def checkEvents (b : List Byte) (m : Image) : List ImgCheck :=
  let es := (sectEntries b 2 32).zip m.events
  [ failIf (sectLen b 2 % 32 != 0 || 8192 < sectLen b 2) 0x0401 68 ] ++
  (es.flatMap (fun e =>
    [ failIf (10 < e.2.action) 0x0402 (e.1.1 + 24), failIf (!eventParamOk e.2) 0x0402 (e.1.1 + 26),
      failIf (2 < e.2.base) 0x0402 (e.1.1 + 28) ])) ++
  (es.map (fun e => failIf ((15 < e.2.line && e.2.line != 255) || (e.2.action == 0 && e.2.line == 255)) 0x0403 (e.1.1 + 25))) ++
  (es.map (fun e => failIf (e.2.period == 0 && 1 < e.2.count) 0x0404 (e.1.1 + 20)))

/-- Declarations, windows and clauses (codes 0501h to 0701h). -/
def checkRest (b : List Byte) (m : Image) : List ImgCheck :=
  let ds := (sectEntries b 3 16).zip m.decls
  let ws := (sectEntries b 4 16).zip m.windows
  let cs := (sectEntries b 5 8).zip m.clauses
  [ failIf (sectLen b 3 % 16 != 0 || 64 < sectLen b 3) 0x0501 76 ] ++
  [ lowestOf ((List.range ds.length).flatMap (fun i =>
      match ds[i]? with
      | some e => [ failIf (!m.declValid e.2) 0x0501 (e.1.1 + m.declBad e.2),
                    failIf ((m.decls.take i).any (fun d => d.cls == e.2.cls)) 0x0501 e.1.1 ]
      | none => [])) ] ++
  (ds.map (fun e => failIf (!m.declFeasible e.2) 0x0502 (e.1.1 + 8))) ++
  [ failIf (sectLen b 4 % 16 != 0 || 256 < sectLen b 4) 0x0601 84 ] ++
  [ lowestOf ((List.range ws.length).flatMap (fun i =>
      match ws[i]? with
      | some e => [ failIf (!m.windowValid e.2) 0x0601 (e.1.1 + m.windowBad e.2),
                    failIf ((m.windows.take i).any (fun w => windowsClash w e.2)) 0x0601 e.1.1 ]
      | none => [])) ] ++
  [ failIf (sectLen b 5 % 8 != 0 || 512 < sectLen b 5) 0x0702 92 ] ++
  (cs.map (fun e => failIf (e.2.kind < 1 || 3 < e.2.kind) 0x0702 e.1.1)) ++
  (cs.map (fun e => failIf (!m.clauseProven e.2) 0x0701 e.1.1))

/-- The verification of R68: none when the image is accepted, otherwise the first failing code and its byte offset.
Later groups are looked at only when the earlier ones pass, so a section is read only when the header is sound. -/
def verifyImage (b : List Byte) (stepping cell fs : Nat) : ImgCheck :=
  match firstFail (checkHeaderA b stepping cell fs ++ checkHeaderB b) with
  | some e => some e
  | none =>
    match firstFail (checkReserved b) with
    | some e => some e
    | none =>
      let m := parseImage b
      match firstFail (checkSlots b m) with
      | some e => some e
      | none =>
        match firstFail (checkLanes b m) with
        | some e => some e
        | none =>
          match firstFail (checkEvents b m) with
          | some e => some e
          | none => firstFail (checkRest b m)

/-- ImageStatus of a verification result (R68). -/
def statusOf : ImgCheck → Nat
  | none => 0
  | some (code, off) => code + off * 65536

end Sys2Proof.Machine
end

