-- ==== Sys2Proof/Machine/Dict.lean ====
section
/-! DEFINITION. The object dictionary's entry table (R10 to R16, R420, R421): for every entry its type, access, class, the values a
write may carry and its default.  The rows are the spec's dictionary tables; ranges that depend on other entries are checked by
`Plain.lean`. -/

namespace Sys2Proof.Machine

/-- The entry types of R12. -/
inductive Ty where
  | bool | u8 | u16 | u32 | u64 | i8 | i16 | i32 | i64 | real32 | time96 | domain | vstring
deriving DecidableEq, Repr

/-- The access kinds of R13. -/
inductive Access where
  | ro | rw | wo | rws | const
deriving DecidableEq, Repr

/-- The takes-effect classes of R14. -/
inductive Class where
  | none | now | swath | frame | arm | reset
deriving DecidableEq, Repr

/-- The values a write to an entry may carry, as its meaning states them. -/
inductive Rng where
  | any                              -- every value of the type
  | le (hi : Nat)                    -- 0 to hi
  | leOrFF (hi : Nat)                -- 0 to hi, or FFh
  | btw (lo hi : Nat)                -- lo to hi
  | sbtw (lo hi : Int)               -- lo to hi, signed
  | nz                               -- any value but 0
  | zeroOrBtw (lo hi : Nat)          -- 0, or lo to hi
  | mult (m : Nat)                   -- a multiple of m
  | posMult (m : Nat)                -- a positive multiple of m
  | zeroOrMult (m lo hi : Nat)       -- 0, or a multiple of m from lo to hi
  | oneOf (xs : List Nat)            -- one of the listed values
  | mask (m : Nat)                   -- every value; bits outside m are reserved and ignored (R8)
  | clearOnly                        -- a sticky BOOL: 0 clears it, 1 fails
  | txFfe                            -- two I8 taps of -16 to 0 each
deriving DecidableEq, Repr

/-- One row of the dictionary, with its repeats over indices and subs. -/
structure Entry where
  ix : Nat
  sub : Nat
  nIx : Nat
  nSub : Nat
  ty : Ty
  acc : Access
  cls : Class
  rng : Rng
  dflt : Nat
  /-- its meaning says that it wraps to 0 or saturates: a counter in the sense of R509 -/
  counter : Bool
  /-- bytes of a DOMAIN or VSTRING value, at most -/
  size : Nat
deriving DecidableEq, Repr

def ro (ix sub : Nat) (t : Ty) (d : Nat) : Entry := ⟨ix, sub, 1, 1, t, .ro, .none, .any, d, false, 0⟩
def ct (ix sub : Nat) (t : Ty) : Entry := ⟨ix, sub, 1, 1, t, .ro, .none, .any, 0, true, 0⟩
def cn (ix sub : Nat) (t : Ty) (d : Nat) : Entry := ⟨ix, sub, 1, 1, t, .const, .none, .any, d, false, 0⟩
def wo (ix sub : Nat) (t : Ty) (c : Class) (r : Rng) : Entry := ⟨ix, sub, 1, 1, t, .wo, c, r, 0, false, 0⟩
def wr (ix sub : Nat) (t : Ty) (a : Access) (c : Class) (r : Rng) (d : Nat) : Entry := ⟨ix, sub, 1, 1, t, a, c, r, d, false, 0⟩
def dm (ix sub : Nat) (t : Ty) (a : Access) (c : Class) (n : Nat) : Entry := ⟨ix, sub, 1, 1, t, a, c, .any, 0, false, n⟩
def rep (n : Nat × Nat) (e : Entry) : Entry := { e with nIx := n.1, nSub := n.2 }

/-- Bytes of a fixed-size type (R12); 0 for DOMAIN and VSTRING. -/
def Ty.bytes : Ty → Nat
  | .bool | .u8 | .i8 => 1
  | .u16 | .i16 => 2
  | .u32 | .i32 | .real32 => 4
  | .u64 | .i64 => 8
  | .time96 => 12
  | .domain | .vstring => 0

/-- A type whose value is a byte block. -/
def Ty.isBlock : Ty → Bool
  | .domain | .vstring => true
  | _ => false

/-- The type codes of R423. -/
def Ty.code : Ty → Nat
  | .bool => 1 | .u8 => 2 | .u16 => 3 | .u32 => 4 | .u64 => 5 | .i8 => 6 | .i16 => 7 | .i32 => 8 | .i64 => 9
  | .real32 => 10 | .time96 => 11 | .domain => 12 | .vstring => 13

/-- The access codes of R423. -/
def Access.code : Access → Nat
  | .ro => 0 | .rw => 1 | .wo => 2 | .rws => 3 | .const => 4

/-- The class codes of R423. -/
def Class.code : Class → Nat
  | .none => 0 | .now => 1 | .swath => 2 | .frame => 3 | .arm => 4 | .reset => 5

/-- A binary32 image that is neither NaN nor an infinity (R12). -/
def real32Finite (v : Nat) : Bool := bits v 23 8 != 255

/-- The raw value lies in the range its entry's meaning states. -/
def Rng.ok (bits' : Nat) (v : Nat) : Rng → Bool
  | .any | .mask _ => true
  | .le hi => v ≤ hi
  | .leOrFF hi => v ≤ hi || v == 255
  | .btw lo hi => lo ≤ v && v ≤ hi
  | .sbtw lo hi => lo ≤ sgn bits' v && sgn bits' v ≤ hi
  | .nz => v != 0
  | .zeroOrBtw lo hi => v == 0 || (lo ≤ v && v ≤ hi)
  | .mult m => v % m == 0
  | .posMult m => v % m == 0 && m ≤ v
  | .zeroOrMult m lo hi => v == 0 || (v % m == 0 && lo ≤ v && v ≤ hi)
  | .oneOf xs => xs.contains v
  | .clearOnly => v == 0
  | .txFfe => -16 ≤ sgn 8 (bits v 0 8) && sgn 8 (bits v 0 8) ≤ 0 && -16 ≤ sgn 8 (bits v 8 8) && sgn 8 (bits v 8 8) ≤ 0

/-- What a write stores: reserved bits are ignored and read 0 (R8). -/
def Rng.keep (v : Nat) : Rng → Nat
  | .mask m => v &&& m
  | _ => v

def cellBlock00p0 : List Entry :=
  [ wr 0x000 0x01 .u8 .rws .swath (.le 7) 3,
    wr 0x000 0x02 .i32 .rws .swath (.sbtw (-600000) 600000) 0,
    wr 0x000 0x03 .u8 .rws .swath (.le 5) 0,
    ro 0x000 0x04 .u8 3,
    ro 0x000 0x05 .i32 0,
    ro 0x000 0x06 .i16 0,
    ro 0x000 0x07 .u8 0,
    wr 0x000 0x08 .bool .rw .now .clearOnly 0,
    ct 0x000 0x09 .u64,
    ro 0x000 0x0A .u64 0,
    ro 0x000 0x0B .bool 0,
    ct 0x000 0x0C .u32,
    wo 0x000 0x0D .bool .now .any,
    cn 0x000 0x0E .u16 19,
    cn 0x000 0x0F .u8 6,
    cn 0x000 0x10 .u8 23,
    wr 0x001 0x01 .i16 .rws .swath (.sbtw (-2000) 2000) 0,
    wr 0x001 0x02 .u8 .rws .swath (.le 30) 10,
    ro 0x001 0x03 .bool 0,
    ct 0x001 0x04 .u64,
    ct 0x001 0x05 .u64,
    wr 0x002 0x01 .i16 .rws .swath (.sbtw (-800) 2500) 600,
    wr 0x002 0x02 .u8 .rws .swath (.le 1) 0,
    wr 0x002 0x03 .i16 .rws .swath (.sbtw (-500) 1500) 0,
    wr 0x002 0x04 .i16 .rws .swath (.sbtw (-800) 2500) 600,
    wr 0x002 0x05 .u8 .rws .swath (.le 1) 0,
    wr 0x002 0x06 .i16 .rws .swath (.sbtw (-500) 1500) 0,
    ro 0x002 0x07 .u16 0 ]

/-- Cell block c000h: its entry tables, by index and sub (R15). -/
def cellBlock00 : List Entry := cellBlock00p0

def cellBlock01p0 : List Entry :=
  [ wr 0x100 0x01 .u64 .rws .swath (.btw 96000000000 160000000000) 160000000000,
    ro 0x100 0x02 .u64 0x2540be4000,
    wr 0x100 0x03 .u32 .rws .swath (.btw 10000000 250000000) 100000000,
    ro 0x100 0x04 .u64 0xc800000000,
    ro 0x100 0x05 .u8 1,
    wr 0x101 0x01 .u8 .rw .now (.btw 1 64) 8,
    wr 0x101 0x02 .u16 .rw .now (.btw 16 65535) 4096,
    wr 0x101 0x03 .u8 .rw .now .nz 8,
    wr 0x101 0x04 .u32 .rw .now (.btw 100 10000000) 10000,
    wr 0x101 0x05 .u16 .rw .now (.btw 10 2000) 1000,
    ro 0x102 0x01 .u8 2,
    ro 0x102 0x02 .bool 0,
    ro 0x102 0x03 .bool 0,
    ro 0x102 0x04 .u32 0,
    ro 0x102 0x05 .i16 0,
    ct 0x102 0x06 .u32,
    ct 0x102 0x07 .u32,
    ct 0x102 0x08 .u32,
    ro 0x102 0x09 .u8 0,
    ro 0x102 0x0A .u64 0,
    ro 0x102 0x0B .u64 0,
    ro 0x102 0x0C .u64 0,
    ct 0x102 0x0D .u32,
    ct 0x102 0x0E .u32,
    ro 0x102 0x0F .bool 0,
    ct 0x102 0x10 .u32,
    cn 0x102 0x11 .u32 500000000 ]

/-- Cell block c100h: its entry tables, by index and sub (R15). -/
def cellBlock01 : List Entry := cellBlock01p0

def cellBlock02p0 : List Entry :=
  [ rep (1, 8) (dm 0x200 0x01 .domain .rws .swath 800),
    rep (1, 8) (dm 0x200 0x09 .domain .ro .none 800),
    rep (1, 8) (ro 0x201 0x01 .i8 0),
    ro 0x202 0x01 .u8 0,
    ro 0x202 0x02 .u32 0,
    ro 0x202 0x03 .u32 0,
    ct 0x202 0x04 .u32,
    wr 0x203 0x01 .bool .rw .now .any 1,
    ro 0x203 0x02 .u8 0,
    wr 0x203 0x03 .i16 .rw .now (.sbtw (-400) (-100)) 65236,
    ct 0x203 0x04 .u32,
    ct 0x203 0x05 .u32,
    ro 0x203 0x06 .u8 0,
    ct 0x203 0x07 .u32,
    ro 0x203 0x08 .i16 0xfa24,
    ro 0x203 0x09 .i16 0xfa24,
    ro 0x203 0x0A .i16 0xfa24,
    ro 0x203 0x0B .i16 0xfa24,
    wr 0x204 0x01 .bool .rw .now .any 1,
    wr 0x204 0x02 .i16 .rw .now (.sbtw (-750) (-500)) 64886,
    wr 0x204 0x03 .u16 .rw .now (.btw 5 200) 30,
    wo 0x204 0x04 .bool .now .any,
    ro 0x204 0x05 .bool 0,
    ct 0x204 0x06 .u32,
    ct 0x204 0x07 .u32,
    ro 0x204 0x08 .u64 0,
    ro 0x204 0x09 .u8 0,
    ct 0x204 0x0A .u32,
    ct 0x204 0x0B .u32 ]

/-- Cell block c200h: its entry tables, by index and sub (R15). -/
def cellBlock02 : List Entry := cellBlock02p0

def cellBlock03p0 : List Entry :=
  [ wr 0x300 0x01 .bool .rws .swath .any 1,
    dm 0x300 0x02 .domain .rws .swath 128,
    wr 0x300 0x03 .u8 .rws .swath (.le 31) 16,
    dm 0x300 0x04 .domain .ro .none 128,
    ct 0x300 0x05 .u32,
    rep (4, 1) (dm 0x301 0x01 .domain .rw .now 2048),
    rep (4, 1) (dm 0x301 0x02 .domain .rw .now 2048),
    rep (4, 1) (ro 0x301 0x03 .u8 0),
    rep (4, 1) (wo 0x301 0x04 .bool .swath .any),
    rep (4, 1) (wr 0x301 0x05 .u16 .rws .swath (.zeroOrBtw 16 4096) 0),
    rep (4, 1) (ro 0x301 0x06 .bool 0),
    rep (4, 1) (ro 0x301 0x07 .bool 0),
    rep (4, 1) (ro 0x301 0x08 .bool 0),
    rep (4, 1) (ro 0x301 0x09 .u16 0),
    rep (4, 1) (wr 0x301 0x0A .u8 .rws .swath (.le 31) 16),
    rep (4, 1) (wr 0x301 0x0B .u8 .rws .swath (.le 31) 17),
    rep (4, 1) (ct 0x301 0x0C .u32),
    rep (4, 1) (ct 0x301 0x0D .u32),
    rep (4, 1) (ct 0x301 0x0E .u64),
    rep (4, 1) (ro 0x301 0x0F .u8 0),
    rep (4, 1) (ro 0x301 0x10 .u64 0),
    rep (4, 1) (ct 0x301 0x11 .u32),
    rep (4, 1) (ro 0x301 0x12 .u64 0),
    rep (4, 1) (ct 0x301 0x13 .u32),
    rep (4, 1) (ct 0x301 0x14 .u32),
    rep (4, 1) (ct 0x301 0x15 .u32),
    rep (1, 4) (dm 0x305 0x01 .domain .ro .none 32),
    cn 0x306 0x01 .u16 2048,
    ro 0x306 0x02 .u16 0,
    cn 0x306 0x03 .u8 4,
    cn 0x306 0x04 .u8 19,
    wo 0x306 0x05 .bool .now .any ]

/-- Cell block c300h: its entry tables, by index and sub (R15). -/
def cellBlock03 : List Entry := cellBlock03p0

def cellBlock04p0 : List Entry :=
  [ wr 0x400 0x01 .u8 .rw .arm (.le 1) 0,
    wr 0x400 0x02 .u8 .rw .arm (.mask 0xF) 1,
    wr 0x400 0x03 .bool .rw .arm .any 0,
    wr 0x400 0x04 .u16 .rw .arm .nz 1,
    wr 0x400 0x05 .u8 .rw .arm (.le 2) 0,
    wr 0x400 0x06 .u64 .rw .arm .any 0,
    wr 0x400 0x07 .u32 .rw .arm .nz 1,
    wr 0x400 0x08 .bool .rw .arm .any 0,
    wr 0x400 0x09 .u8 .rw .arm (.le 2) 0,
    wr 0x400 0x0A .u64 .rw .arm .any 0,
    wr 0x400 0x0B .u64 .rw .arm (.btw 1 0x100000000) 1,
    ro 0x400 0x0C .u32 0,
    rep (4, 1) (wr 0x401 0x01 .u8 .rw .arm (.le 8) 0),
    rep (4, 1) (wr 0x401 0x02 .u8 .rw .arm (.le 1) 0),
    rep (4, 1) (wr 0x401 0x03 .u8 .rw .arm (.le 2) 0),
    rep (4, 1) (wr 0x401 0x04 .u8 .rw .arm (.le 2) 0),
    rep (4, 1) (wr 0x401 0x05 .i16 .rws .swath .any 0),
    rep (4, 1) (wr 0x401 0x06 .i16 .rws .swath .any 59136),
    rep (4, 1) (wr 0x401 0x07 .i16 .rws .swath .any 6400),
    rep (4, 1) (wr 0x401 0x08 .u16 .rws .swath (.le 16383) 64),
    rep (4, 1) (wr 0x401 0x09 .u8 .rw .arm (.le 3) 0),
    rep (4, 1) (wr 0x401 0x0A .u32 .rw .arm .nz 256),
    rep (4, 1) (wr 0x401 0x0B .u32 .rw .arm .nz 512),
    rep (4, 1) (wr 0x401 0x0C .u64 .rw .arm (.btw 256 0x1000000000000) 25600),
    rep (4, 1) (wr 0x401 0x0D .u16 .rw .arm .any 0),
    rep (4, 1) (wr 0x401 0x0E .u16 .rw .arm .any 0),
    rep (4, 1) (wr 0x401 0x0F .u8 .rw .arm (.mask 0x9F) 128),
    rep (4, 1) (wr 0x401 0x10 .u8 .rw .arm (.le 2) 0),
    rep (4, 1) (wr 0x401 0x11 .u8 .rw .arm (.leOrFF 3) 255),
    rep (4, 1) (wr 0x401 0x12 .u8 .rw .arm (.le 1) 0),
    rep (4, 1) (wr 0x401 0x13 .bool .rws .swath .any 0),
    rep (4, 1) (wr 0x401 0x14 .u16 .rws .swath .any 32768),
    rep (4, 1) (wr 0x401 0x15 .u16 .rws .swath .any 6554),
    rep (4, 1) (wr 0x401 0x16 .u16 .rws .swath .any 58982),
    rep (4, 1) (wr 0x401 0x17 .u16 .rws .swath .any 1311),
    rep (4, 1) (ro 0x401 0x18 .i16 0),
    rep (4, 1) (ro 0x401 0x19 .i16 0xe700),
    rep (4, 1) (ro 0x401 0x1A .i16 0x1900),
    rep (4, 1) (ro 0x401 0x1B .u16 64),
    rep (4, 1) (ct 0x401 0x1C .u64) ]

def cellBlock04p1 : List Entry :=
  [ rep (4, 1) (ro 0x401 0x1D .u64 0),
    rep (4, 1) (ro 0x401 0x1E .u8 0),
    rep (4, 1) (ct 0x401 0x1F .u32),
    rep (4, 1) (ct 0x401 0x20 .u32),
    wr 0x405 0x01 .bool .rws .swath .any 0,
    wr 0x405 0x02 .u8 .rws .swath (.le 1) 0,
    wr 0x405 0x03 .u64 .rws .swath (.btw 1000000000 80000000000) 32000000000,
    wr 0x405 0x04 .u32 .rws .swath (.btw 10000 20000000) 4000000,
    wr 0x405 0x05 .u16 .rws .swath (.btw 500 2000) 707,
    wr 0x405 0x06 .u16 .rws .swath (.btw 100 6000) 5300,
    wr 0x405 0x07 .i8 .rws .swath (.sbtw (-32) 31) 0,
    wr 0x405 0x08 .u8 .rws .swath (.le 1) 0,
    wr 0x405 0x09 .i16 .rws .swath .any 0,
    wr 0x405 0x0A .i16 .rws .swath .any 54613,
    wr 0x405 0x0B .i16 .rws .swath .any 10923,
    wr 0x405 0x0C .bool .rws .swath .any 1,
    wr 0x405 0x0D .u16 .rws .swath (.btw 1 1000) 20,
    wr 0x405 0x0E .u8 .rws .swath .nz 16,
    ro 0x405 0x0F .u8 0,
    ro 0x405 0x10 .bool 0,
    ro 0x405 0x11 .i32 0,
    ct 0x405 0x12 .u64,
    ct 0x405 0x13 .u32,
    ro 0x405 0x14 .u64 0x2aab0000d555,
    wr 0x406 0x01 .u16 .rw .arm (.btw 1 256) 1,
    dm 0x406 0x02 .domain .rw .arm 128,
    ct 0x406 0x03 .u64,
    wr 0x407 0x01 .u8 .rws .swath (.le 1) 0,
    wr 0x407 0x02 .u8 .rws .swath (.le 8) 2,
    wr 0x407 0x03 .u16 .rws .swath (.btw 64 65535) 1280,
    wr 0x407 0x04 .bool .rws .swath .any 0,
    ro 0x407 0x05 .u8 0,
    ro 0x407 0x06 .i16 0,
    ro 0x407 0x07 .i16 0,
    ro 0x407 0x08 .u64 0,
    ct 0x407 0x09 .u32,
    ro 0x407 0x0A .u64 0,
    ro 0x408 0x01 .u8 0,
    ro 0x408 0x02 .u64 0,
    ro 0x408 0x03 .u8 0 ]

def cellBlock04p2 : List Entry :=
  [ ro 0x408 0x04 .u8 0,
    ro 0x408 0x05 .u16 0,
    ct 0x408 0x06 .u32,
    ct 0x408 0x07 .u32,
    ct 0x408 0x08 .u32,
    ct 0x408 0x09 .u64,
    ct 0x408 0x0A .u64,
    ct 0x408 0x0B .u64,
    ct 0x408 0x0C .u32,
    ro 0x408 0x0D .u8 26,
    wo 0x408 0x0E .bool .now .any ]

/-- Cell block c400h: its entry tables, by index and sub (R15). -/
def cellBlock04 : List Entry := cellBlock04p0 ++ cellBlock04p1 ++ cellBlock04p2

def cellBlock05p0 : List Entry :=
  [ wr 0x500 0x01 .u8 .rw .arm (.le 2) 0,
    wr 0x500 0x02 .u64 .rw .arm (.le 0x10000000000) 4096,
    wr 0x500 0x03 .u64 .rw .arm (.btw 1 0x10000000000) 12288,
    wr 0x500 0x04 .u32 .rw .arm (.le 1048576) 0,
    wr 0x500 0x05 .u64 .rw .arm (.btw 1000 100000000000) 100000000,
    wr 0x500 0x06 .u8 .rw .arm (.leOrFF 3) 255,
    wr 0x500 0x07 .bool .rw .arm .any 0,
    wr 0x500 0x08 .u8 .rw .now (.le 0x40) 64,
    wr 0x500 0x09 .u8 .rw .now (.le 0x40) 64,
    wo 0x500 0x0A .bool .now .any,
    wo 0x500 0x0B .bool .now .any,
    wo 0x500 0x0C .bool .now .any,
    ro 0x501 0x01 .u8 0,
    ro 0x501 0x02 .u64 0,
    ro 0x501 0x03 .time96 0,
    ro 0x501 0x04 .u32 0,
    ro 0x501 0x05 .u8 0,
    ct 0x501 0x06 .u32,
    ro 0x501 0x07 .u32 0,
    ro 0x501 0x08 .u8 0,
    ct 0x501 0x09 .u32,
    ct 0x501 0x0A .u32,
    ct 0x501 0x0B .u64,
    ct 0x501 0x0C .u64,
    ct 0x501 0x0D .u64,
    ct 0x501 0x0E .u32,
    ct 0x501 0x0F .u32,
    ro 0x501 0x10 .bool 0,
    wo 0x501 0x11 .bool .now .any,
    dm 0x502 0x01 .domain .ro .none 32,
    ro 0x502 0x02 .time96 0,
    rep (1, 4) (wr 0x503 0x01 .u8 .rw .arm (.le 1) 0),
    wr 0x503 0x05 .i32 .rws .swath (.sbtw (-50000) 50000) 0,
    ro 0x503 0x06 .u8 0,
    ro 0x503 0x07 .bool 0,
    ro 0x503 0x08 .i16 0,
    ct 0x503 0x09 .u32,
    ro 0x503 0x0A .i32 0,
    ro 0x503 0x0B .i32 0,
    ro 0x503 0x0C .u16 0 ]

def cellBlock05p1 : List Entry :=
  [ ro 0x503 0x0D .u8 0,
    ro 0x503 0x0E .bool 0,
    wr 0x503 0x0F .u32 .rw .now (.zeroOrBtw 100 3600000) 1000,
    ro 0x503 0x10 .i16 0,
    ct 0x503 0x11 .u32,
    ro 0x503 0x12 .u32 0,
    ct 0x503 0x13 .u32,
    cn 0x503 0x14 .u16 500,
    cn 0x503 0x15 .u16 64,
    cn 0x503 0x16 .u16 4096 ]

/-- Cell block c500h: its entry tables, by index and sub (R15). -/
def cellBlock05 : List Entry := cellBlock05p0 ++ cellBlock05p1

def cellBlock06p0 : List Entry :=
  [ ro 0x600 0x01 .u8 0,
    ro 0x600 0x02 .time96 0,
    ro 0x600 0x03 .u64 0,
    ro 0x600 0x04 .time96 0,
    ro 0x600 0x05 .u64 0,
    ro 0x600 0x06 .u64 0,
    ro 0x600 0x07 .i64 0,
    ro 0x600 0x08 .bool 0,
    ro 0x600 0x09 .bool 0,
    wr 0x600 0x0A .u8 .rws .swath (.le 8) 1,
    wr 0x600 0x0B .u32 .rws .swath .nz 16777216,
    dm 0x601 0x01 .domain .rw .now 32768,
    dm 0x601 0x02 .domain .ro .none 32768,
    ro 0x601 0x03 .u32 0,
    ro 0x601 0x04 .bool 0,
    wo 0x601 0x05 .bool .swath .any,
    ro 0x601 0x06 .bool 0,
    ro 0x601 0x07 .u32 0,
    ro 0x601 0x08 .u32 0,
    ro 0x601 0x09 .u32 100,
    ro 0x601 0x0A .u64 0,
    ro 0x601 0x0B .u8 0,
    wo 0x602 0x01 .bool .swath .any,
    ro 0x602 0x02 .bool 0,
    wr 0x602 0x03 .bool .rw .now .clearOnly 0,
    ro 0x602 0x04 .u32 0,
    ro 0x602 0x05 .u64 0,
    ro 0x603 0x01 .u32 0,
    ro 0x603 0x02 .u8 0,
    ro 0x603 0x03 .u64 0,
    ro 0x603 0x04 .u16 0,
    ro 0x603 0x05 .u32 0,
    dm 0x603 0x06 .domain .ro .none 32768,
    ro 0x603 0x07 .u16 0xffff,
    ro 0x603 0x08 .time96 0,
    ro 0x603 0x09 .u64 0,
    ro 0x603 0x0A .u8 0 ]

/-- Cell block c600h: its entry tables, by index and sub (R15). -/
def cellBlock06 : List Entry := cellBlock06p0

def cellBlock07p0 : List Entry :=
  [ wr 0x700 0x01 .u8 .rw .arm (.le 2) 0,
    cn 0x700 0x02 .u32 3728270,
    cn 0x700 0x03 .u16 4096,
    ct 0x700 0x04 .u32,
    ro 0x700 0x05 .bool 0,
    wo 0x700 0x06 .bool .now .any,
    rep (4, 1) (wr 0x701 0x01 .u16 .rw .arm (.le 1024) 0),
    rep (4, 1) (wr 0x701 0x02 .u32 .rw .arm (.mult 4) 0),
    rep (4, 1) (wr 0x701 0x03 .u32 .rw .arm (.zeroOrMult 4 1024 0xFFFFFFFF) 0),
    rep (4, 1) (wr 0x701 0x04 .bool .rw .arm .any 0),
    rep (4, 1) (wr 0x701 0x05 .u32 .rw .arm (.mult 4) 0),
    rep (4, 1) (wr 0x701 0x06 .u32 .rw .arm (.btw 1 1048576) 1024),
    rep (4, 1) (ro 0x701 0x07 .u32 0),
    rep (4, 1) (ro 0x701 0x08 .u32 0),
    rep (4, 1) (ro 0x701 0x09 .u8 0),
    rep (4, 1) (ro 0x701 0x0A .u32 0),
    rep (4, 1) (ro 0x701 0x0B .u32 0),
    rep (4, 1) (ro 0x701 0x0C .u64 0),
    rep (4, 1) (ro 0x701 0x0D .u64 0),
    rep (4, 1) (ro 0x701 0x0E .u32 0),
    rep (4, 1) (ro 0x701 0x0F .bool 0),
    rep (4, 1) (ct 0x701 0x10 .u32),
    rep (4, 1) (ro 0x701 0x11 .bool 0),
    rep (4, 1) (ct 0x701 0x12 .u64),
    rep (4, 1) (ct 0x701 0x13 .u32),
    rep (4, 1) (ct 0x701 0x14 .u64),
    rep (4, 1) (ct 0x701 0x15 .u32),
    rep (4, 1) (ct 0x701 0x16 .u32),
    rep (4, 1) (ct 0x701 0x17 .u32),
    rep (4, 1) (ct 0x701 0x18 .u32),
    rep (4, 1) (dm 0x701 0x19 .domain .ro .none 32) ]

/-- Cell block c700h: its entry tables, by index and sub (R15). -/
def cellBlock07 : List Entry := cellBlock07p0

def cellBlock08p0 : List Entry :=
  [ wr 0x800 0x01 .bool .rw .reset .any 1,
    wr 0x800 0x02 .u8 .rw .reset (.btw 8 20) 12,
    wr 0x800 0x03 .u8 .rw .reset (.le 2) 1,
    wr 0x800 0x04 .u8 .rw .reset (.le 4) 2,
    wr 0x800 0x05 .u8 .rw .reset (.le 4) 2,
    ro 0x801 0x01 .u8 0,
    ro 0x801 0x02 .u64 0,
    ro 0x801 0x03 .u16 0,
    ro 0x801 0x04 .u8 0,
    ro 0x801 0x05 .bool 0,
    ro 0x801 0x06 .u16 284,
    ro 0x801 0x07 .u32 0x6b49d200,
    ct 0x801 0x08 .u32,
    ro 0x801 0x09 .bool 0,
    wr 0x802 0x01 .bool .rw .now .any 1,
    wr 0x802 0x02 .u32 .rw .now (.btw 1 1000000) 100,
    wo 0x802 0x03 .bool .now .any,
    ct 0x802 0x04 .u32,
    ro 0x802 0x05 .u32 0,
    ro 0x803 0x01 .u64 0,
    ro 0x803 0x02 .u8 0,
    ro 0x803 0x03 .u8 255,
    ro 0x803 0x04 .u8 0,
    wo 0x803 0x05 .bool .now .any,
    wr 0x804 0x01 .bool .rw .now .any 1,
    wr 0x804 0x02 .u16 .rw .now (.btw 100 10000) 1000,
    ro 0x804 0x03 .bool 0,
    ro 0x804 0x04 .u64 0,
    ct 0x804 0x05 .u32,
    ct 0x804 0x06 .u32,
    wr 0x805 0x01 .u16 .rw .now (.btw 20 300) 80,
    wr 0x805 0x02 .u32 .rw .now (.zeroOrBtw 100 3600000) 0,
    wo 0x805 0x03 .bool .now .any,
    ro 0x805 0x04 .bool 0,
    ct 0x805 0x05 .u32,
    ro 0x805 0x06 .u64 0,
    ct 0x805 0x07 .u32,
    ct 0x805 0x08 .u32,
    rep (4, 1) (ro 0x806 0x01 .u8 0),
    rep (4, 1) (ro 0x806 0x02 .u8 0) ]

def cellBlock08p1 : List Entry :=
  [ rep (4, 1) (ro 0x806 0x03 .u64 0),
    rep (4, 1) (ro 0x806 0x04 .i16 0),
    rep (4, 1) (ro 0x806 0x05 .i16 0),
    rep (4, 1) (ct 0x806 0x06 .u32),
    rep (4, 1) (ct 0x806 0x07 .u32),
    rep (4, 1) (ct 0x806 0x08 .u32),
    rep (4, 1) (ro 0x806 0x09 .u8 0),
    rep (4, 1) (dm 0x806 0x0A .domain .ro .none 144),
    rep (4, 1) (dm 0x806 0x0B .domain .ro .none 144),
    rep (4, 1) (ro 0x806 0x0C .u8 0),
    rep (1, 3) (ro 0x80A 0x01 .u64 0),
    rep (1, 3) (ro 0x80A 0x04 .u32 0),
    wr 0x80A 0x07 .bool .rw .now .clearOnly 0,
    ro 0x80A 0x08 .u64 0,
    ro 0x80A 0x09 .u8 0,
    ct 0x80A 0x0A .u32 ]

/-- Cell block c800h: its entry tables, by index and sub (R15). -/
def cellBlock08 : List Entry := cellBlock08p0 ++ cellBlock08p1

def cellBlock09p0 : List Entry :=
  [ wr 0x900 0x01 .u8 .rw .now (.le 4) 0,
    wr 0x900 0x02 .u8 .rw .now (.mask 0xF) 0,
    wr 0x900 0x03 .i64 .rw .now .any 0,
    wr 0x900 0x04 .u32 .rw .now (.btw 1 1048576) 1024,
    wr 0x900 0x05 .u8 .rw .now (.le 8) 4,
    wr 0x900 0x06 .u32 .rw .now (.le 16777216) 0,
    wr 0x900 0x07 .u64 .rw .now .any 0,
    wr 0x900 0x08 .bool .rw .now .any 1,
    wr 0x900 0x09 .bool .rw .now .any 0,
    wr 0x900 0x0A .u8 .rw .now (.le 1) 0,
    wr 0x900 0x0B .u8 .rw .now (.mask 7) 5,
    wr 0x900 0x0C .u8 .rw .now (.le 1) 0,
    wr 0x900 0x0D .u16 .rw .now .nz 44257,
    wo 0x901 0x01 .bool .now .any,
    wo 0x901 0x02 .bool .now .any,
    wo 0x901 0x03 .bool .now .any,
    wo 0x901 0x04 .bool .now .any,
    ro 0x902 0x01 .u8 0,
    ro 0x902 0x02 .u8 0,
    ro 0x902 0x03 .u64 0,
    ro 0x902 0x04 .u32 0,
    ro 0x902 0x05 .u64 0,
    ro 0x902 0x06 .u8 4,
    ro 0x902 0x07 .u16 128,
    ro 0x902 0x08 .u32 0,
    ro 0x902 0x09 .u32 0,
    ro 0x902 0x0A .u32 0,
    ro 0x902 0x0B .u32 0,
    ro 0x902 0x0C .u32 0,
    cn 0x902 0x0D .u32 3728268,
    cn 0x902 0x0E .u16 16384,
    ro 0x902 0x0F .u32 0,
    ct 0x902 0x10 .u32,
    ct 0x902 0x11 .u64,
    ct 0x902 0x12 .u64,
    ct 0x902 0x13 .u64,
    ct 0x902 0x14 .u64,
    ct 0x902 0x15 .u32,
    ct 0x902 0x16 .u32,
    ct 0x902 0x17 .u32 ]

def cellBlock09p1 : List Entry :=
  [ wo 0x902 0x18 .bool .now .any,
    ro 0x902 0x19 .time96 0,
    rep (2, 1) (wr 0x903 0x01 .u8 .rw .now (.le 1) 0),
    rep (2, 1) (wr 0x903 0x02 .u16 .rw .now .any 1024),
    rep (2, 1) (wr 0x903 0x03 .u16 .rw .now .any 512),
    rep (2, 1) (wr 0x903 0x04 .i16 .rw .now .any 32768),
    rep (2, 1) (wr 0x903 0x05 .u32 .rw .now (.btw 1 131072) 65536),
    rep (2, 1) (wr 0x903 0x06 .i64 .rw .now .any 0),
    rep (2, 1) (wr 0x903 0x07 .u64 .rw .now .any 262144),
    rep (2, 1) (wr 0x903 0x08 .u8 .rw .now (.btw 1 16) 2),
    rep (2, 1) (ct 0x903 0x09 .u64),
    rep (2, 1) (ct 0x903 0x0A .u32),
    wr 0x905 0x01 .u16 .rws .swath .any 0,
    wr 0x905 0x02 .u16 .rws .swath .any 65535,
    wr 0x905 0x03 .u32 .rws .swath .nz 4096,
    ro 0x905 0x04 .bool 0,
    ro 0x905 0x05 .u32 0,
    ro 0x905 0x06 .i16 0,
    ro 0x905 0x07 .i16 0,
    ro 0x905 0x08 .u64 0 ]

/-- Cell block c900h: its entry tables, by index and sub (R15). -/
def cellBlock09 : List Entry := cellBlock09p0 ++ cellBlock09p1

def cellBlock0Ap0 : List Entry :=
  [ wr 0xA00 0x01 .bool .rw .now .any 0,
    wr 0xA00 0x02 .u8 .rws .frame (.le 2) 0,
    wr 0xA00 0x03 .u8 .rws .frame (.btw 1 4) 4,
    wr 0xA00 0x04 .u16 .rws .frame (.btw 80 4500) 1500,
    wr 0xA00 0x05 .u8 .rws .frame (.le 1) 0,
    wr 0xA00 0x06 .u32 .rws .frame .any 148500000,
    wr 0xA00 0x07 .u16 .rws .frame .any 1920,
    wr 0xA00 0x08 .u16 .rws .frame .any 88,
    wr 0xA00 0x09 .u16 .rws .frame .any 44,
    wr 0xA00 0x0A .u16 .rws .frame .any 148,
    wr 0xA00 0x0B .u16 .rws .frame .any 1080,
    wr 0xA00 0x0C .u8 .rws .frame .any 4,
    wr 0xA00 0x0D .u8 .rws .frame .any 5,
    wr 0xA00 0x0E .u8 .rws .frame .any 36,
    wr 0xA00 0x0F .bool .rws .frame .any 1,
    wr 0xA00 0x10 .u8 .rws .frame (.le 1) 0,
    wr 0xA00 0x11 .u16 .rws .frame (.le 1000) 50,
    wr 0xA00 0x12 .u16 .rws .frame (.btw 16 255) 24,
    dm 0xA00 0x13 .domain .rw .now 1024,
    wr 0xA00 0x14 .bool .rws .frame .any 1,
    wr 0xA00 0x15 .u8 .rws .frame (.mask 0x1F) 0,
    wr 0xA00 0x16 .bool .rws .frame .any 0,
    ro 0xA00 0x17 .u8 0,
    ro 0xA00 0x18 .u32 0,
    wr 0xA01 0x01 .u32 .rws .frame (.mask 0xFFFFFF) 0,
    wr 0xA01 0x02 .bool .rws .frame .any 0,
    wr 0xA01 0x03 .u8 .rws .frame (.le 1) 0,
    wr 0xA01 0x04 .u16 .rws .frame .any 0,
    wr 0xA01 0x05 .u16 .rws .frame .any 0,
    wr 0xA01 0x06 .u8 .rws .frame (.btw 1 8) 1,
    wr 0xA01 0x07 .u8 .rws .frame (.btw 1 8) 1,
    wr 0xA01 0x08 .u8 .rws .frame (.le 1) 1,
    wr 0xA01 0x09 .u16 .rws .frame (.btw 250 8000) 2200,
    wr 0xA01 0x0A .u8 .rws .frame (.btw 1 32) 16,
    wr 0xA01 0x0B .u32 .rws .frame .any 0,
    dm 0xA01 0x0C .domain .rws .frame 1024,
    ro 0xA01 0x0D .u32 0,
    wr 0xA01 0x0E .bool .rws .frame .any 0,
    wr 0xA01 0x0F .u64 .rws .frame .any 0,
    wr 0xA01 0x10 .u32 .rws .frame .any 480 ]

def cellBlock0Ap1 : List Entry :=
  [ wr 0xA01 0x11 .bool .rws .frame .any 0,
    wr 0xA01 0x12 .u64 .rws .frame .any 0,
    wr 0xA01 0x13 .i16 .rws .frame .any 0,
    wr 0xA01 0x14 .i16 .rws .frame .any 0,
    wo 0xA02 0x01 .bool .frame .any,
    ro 0xA02 0x02 .bool 0,
    wr 0xA02 0x03 .bool .rw .now .clearOnly 0,
    ct 0xA02 0x04 .u32,
    wr 0xA02 0x05 .bool .rw .now .clearOnly 0,
    ro 0xA02 0x06 .u8 0,
    ro 0xA02 0x07 .u32 0,
    ro 0xA02 0x08 .u64 0,
    ct 0xA02 0x09 .u32,
    ro 0xA02 0x0A .u64 0,
    ct 0xA02 0x0B .u32,
    ro 0xA02 0x0C .u64 0,
    ct 0xA02 0x0D .u32,
    ct 0xA02 0x0E .u32,
    ct 0xA02 0x0F .u32,
    ct 0xA02 0x10 .u32,
    ct 0xA02 0x11 .u32,
    ct 0xA02 0x12 .u32,
    ct 0xA02 0x13 .u32,
    wo 0xA02 0x14 .bool .now .any,
    ro 0xA03 0x01 .u64 0,
    ro 0xA03 0x02 .u8 0,
    ro 0xA03 0x03 .u64 0,
    ct 0xA03 0x04 .u32 ]

/-- Cell block cA00h: its entry tables, by index and sub (R15). -/
def cellBlock0A : List Entry := cellBlock0Ap0 ++ cellBlock0Ap1

def cellBlock0Bp0 : List Entry :=
  [ wr 0xB00 0x01 .u16 .rw .now .nz 2048,
    ro 0xB00 0x02 .u8 255,
    ct 0xB00 0x03 .u32,
    dm 0xB00 0x04 .domain .ro .none 32,
    ct 0xB00 0x05 .u32,
    cn 0xB00 0x06 .u16 2048,
    wo 0xB00 0x07 .bool .now .any,
    rep (8, 1) (wr 0xB01 0x01 .bool .rw .now .any 0),
    rep (8, 1) (wr 0xB01 0x02 .u16 .rw .now .any 0),
    rep (8, 1) (wr 0xB01 0x03 .bool .rw .now .any 0),
    rep (8, 1) (wr 0xB01 0x04 .u64 .rw .now (.mult 32) 0),
    rep (8, 1) (wr 0xB01 0x05 .u8 .rw .now (.le 0x40) 64),
    rep (8, 1) (wr 0xB01 0x06 .bool .rw .now .any 0),
    rep (8, 1) (wr 0xB01 0x07 .u8 .rw .now (.oneOf [0, 4]) 0),
    rep (8, 1) (wr 0xB01 0x08 .u64 .rw .now (.mult 32) 0),
    rep (8, 1) (wo 0xB01 0x09 .bool .now .any),
    rep (8, 1) (ro 0xB01 0x0A .u8 0),
    rep (8, 1) (ro 0xB01 0x0B .u16 0),
    rep (8, 1) (ro 0xB01 0x0C .u32 0),
    rep (8, 1) (ro 0xB01 0x0D .u32 0),
    rep (8, 1) (ct 0xB01 0x0E .u64),
    rep (8, 1) (ct 0xB01 0x0F .u64),
    rep (8, 1) (ct 0xB01 0x10 .u32),
    rep (8, 1) (ct 0xB01 0x11 .u32),
    rep (8, 1) (ro 0xB01 0x12 .u8 0),
    rep (8, 1) (wr 0xB01 0x13 .bool .rw .now .clearOnly 0) ]

/-- Cell block cB00h: its entry tables, by index and sub (R15). -/
def cellBlock0B : List Entry := cellBlock0Bp0

def cellBlock0Cp0 : List Entry :=
  [ wr 0xC00 0x01 .bool .rw .now .any 0,
    ro 0xC00 0x02 .u8 0,
    ro 0xC00 0x03 .u8 0,
    wr 0xC00 0x04 .bool .rw .now .any 1,
    wr 0xC00 0x05 .u32 .rw .now (.btw 100 1000000) 1000,
    wr 0xC00 0x06 .u16 .rw .now (.btw 10 1000) 100,
    wr 0xC00 0x07 .u8 .rw .now .any 0,
    wr 0xC00 0x08 .u8 .rw .now (.mask 3) 0,
    wr 0xC00 0x09 .u8 .rw .now (.le 3) 2,
    wr 0xC00 0x0A .u16 .rw .now .txFfe 0,
    wr 0xC00 0x0B .u8 .rw .now (.le 2) 0,
    ro 0xC00 0x0C .u64 0,
    ct 0xC00 0x0D .u64,
    ct 0xC00 0x0E .u64,
    ct 0xC00 0x0F .u32,
    ct 0xC00 0x10 .u32,
    ct 0xC00 0x11 .u32,
    ct 0xC00 0x12 .u64,
    ct 0xC00 0x13 .u64,
    ct 0xC00 0x14 .u32,
    ct 0xC00 0x15 .u32,
    ct 0xC00 0x16 .u32,
    wo 0xC00 0x17 .bool .now .any,
    rep (4, 1) (ct 0xC01 0x01 .u64),
    rep (4, 1) (ct 0xC01 0x02 .u64),
    rep (4, 1) (ro 0xC01 0x03 .u16 0),
    rep (4, 1) (wr 0xC01 0x04 .u64 .rw .now (.mult 4) 0),
    rep (4, 1) (wr 0xC01 0x05 .u64 .rw .now (.posMult 4) 4),
    rep (4, 1) (wr 0xC01 0x06 .bool .rw .now .any 0),
    rep (4, 1) (wr 0xC01 0x07 .u8 .rw .now (.le 0x40) 64),
    rep (4, 1) (wo 0xC01 0x08 .bool .now .any),
    rep (4, 1) (ro 0xC01 0x09 .u8 0),
    rep (4, 1) (ct 0xC01 0x0A .u64) ]

/-- Cell block cC00h: its entry tables, by index and sub (R15). -/
def cellBlock0C : List Entry := cellBlock0Cp0

def cellBlock0Dp0 : List Entry :=
  [ wo 0xD00 0x01 .bool .now .any,
    wo 0xD00 0x02 .bool .now .any,
    wr 0xD00 0x03 .u8 .rw .now (.le 0x40) 64,
    wr 0xD00 0x04 .u16 .rw .now .any 0,
    wr 0xD00 0x05 .u16 .rw .now .any 0,
    wr 0xD00 0x06 .u8 .rw .now (.le 3) 1,
    cn 0xD00 0x07 .u8 3,
    cn 0xD00 0x08 .u16 4096,
    cn 0xD00 0x09 .u16 2048,
    dm 0xD01 0x01 .domain .rw .now 8192,
    ro 0xD01 0x02 .u16 0,
    rep (1, 8) (wr 0xD02 0x01 .u64 .rw .now (.mult 4) 0),
    rep (1, 8) (wr 0xD02 0x09 .u32 .rw .now (.zeroOrMult 4 4 67108864) 0),
    ro 0xD03 0x01 .u8 0,
    ro 0xD03 0x02 .u8 0,
    ro 0xD03 0x03 .u16 0,
    ro 0xD03 0x04 .u32 0,
    ro 0xD03 0x05 .u64 0,
    ct 0xD03 0x06 .u64,
    ct 0xD03 0x07 .u32,
    ct 0xD03 0x08 .u32,
    ct 0xD03 0x09 .u64,
    ro 0xD03 0x0A .u16 0,
    ro 0xD03 0x0B .u16 0,
    wo 0xD03 0x0C .bool .now .any ]

/-- Cell block cD00h: its entry tables, by index and sub (R15). -/
def cellBlock0D : List Entry := cellBlock0Dp0

def cellBlock0Ep0 : List Entry :=
  [ rep (1, 64) (ct 0xE10 0x01 .u32),
    rep (1, 2) (wr 0xE11 0x01 .u8 .rw .now (.le 0x40) 64),
    rep (1, 2) (wr 0xE11 0x03 .u16 .rw .now .nz 8),
    wr 0xE11 0x05 .u8 .rw .now (.mask 3) 0,
    rep (1, 2) (wr 0xE12 0x01 .u8 .rw .now (.le 3) 3),
    rep (1, 8) (wo 0xE13 0x01 .bool .now .any),
    wo 0xE14 0x01 .u64 .now .any,
    ro 0xE20 0x01 .u8 255,
    ct 0xE20 0x02 .u32,
    rep (1, 5) (ct 0xE20 0x03 .u32),
    rep (1, 5) (ct 0xE20 0x08 .u32),
    ct 0xE20 0x0D .u32,
    wo 0xE20 0x0E .bool .now .any ]

/-- Cell block cE00h: its entry tables, by index and sub (R15). -/
def cellBlock0E : List Entry := cellBlock0Ep0

def globBlock10p0 : List Entry :=
  [ cn 0x1000 0x00 .u32 16736,
    dm 0x1008 0x00 .vstring .const .none 7,
    dm 0x100A 0x00 .vstring .ro .none 32,
    cn 0x1018 0x01 .u32 1212828752,
    cn 0x1018 0x02 .u32 16736,
    cn 0x1018 0x03 .u32 0,
    cn 0x1018 0x04 .u32 0,
    dm 0x1030 0x00 .domain .ro .none 32768,
    cn 0x1031 0x00 .u16 0 ]

/-- Shared block 1000h: its entry tables, by index and sub (R15). -/
def globBlock10 : List Entry := globBlock10p0

def globBlock1Fp0 : List Entry :=
  [ ro 0x1F00 0x01 .u8 255,
    wo 0x1F00 0x02 .u8 .now (.le 3),
    wo 0x1F00 0x03 .u8 .now (.le 3),
    wo 0x1F00 0x04 .u8 .now (.le 3),
    ro 0x1F00 0x05 .u8 0,
    ro 0x1F00 0x06 .u8 0,
    ro 0x1F00 0x07 .u32 0,
    rep (4, 1) (ro 0x1F01 0x01 .u8 0),
    rep (4, 1) (ro 0x1F01 0x02 .u32 0),
    rep (4, 1) (dm 0x1F01 0x03 .domain .ro .none 32),
    ro 0x1F20 0x01 .u8 0,
    wo 0x1F20 0x02 .u8 .now .any,
    dm 0x1F20 0x03 .domain .rw .now 104,
    dm 0x1F20 0x04 .domain .ro .none 32,
    dm 0x1F20 0x05 .domain .rw .now 97,
    ro 0x1F20 0x06 .u32 0,
    ro 0x1F20 0x07 .u8 0,
    dm 0x1F50 0x01 .domain .wo .now 32768,
    wo 0x1F51 0x01 .u8 .now .any,
    ro 0x1F52 0x01 .u32 0,
    ro 0x1F56 0x01 .u8 0,
    ro 0x1F56 0x02 .u8 0,
    ro 0x1F57 0x01 .u32 0 ]

/-- Shared block 1F00h: its entry tables, by index and sub (R15). -/
def globBlock1F : List Entry := globBlock1Fp0

def globBlock20p0 : List Entry :=
  [ rep (1, 32) (ro 0x2000 0x01 .i16 0),
    ro 0x2000 0x21 .i16 0,
    rep (1, 24) (ro 0x2001 0x01 .u16 0),
    rep (1, 4) (cn 0x2002 0x01 .u16 750),
    rep (1, 4) (cn 0x2002 0x05 .u16 900),
    rep (1, 4) (cn 0x2002 0x09 .u16 1800),
    rep (1, 8) (cn 0x2002 0x0D .u16 1200),
    cn 0x2002 0x15 .u16 900,
    cn 0x2002 0x16 .u16 800,
    cn 0x2002 0x17 .u16 1200,
    cn 0x2002 0x18 .u16 1800 ]

/-- Shared block 2000h: its entry tables, by index and sub (R15). -/
def globBlock20 : List Entry := globBlock20p0

def globBlock21p0 : List Entry :=
  [ wr 0x2100 0x01 .u8 .rw .now (.le 1) 0,
    wr 0x2100 0x02 .u32 .rw .now .any 0,
    dm 0x2100 0x03 .domain .ro .none 1024,
    ro 0x2100 0x04 .u32 0,
    ro 0x2100 0x05 .u32 0,
    ro 0x2100 0x06 .u32 0,
    wr 0x2100 0x07 .u16 .rw .now (.btw 100 60000) 1000,
    ct 0x2100 0x08 .u32 ]

/-- Shared block 2100h: its entry tables, by index and sub (R15). -/
def globBlock21 : List Entry := globBlock21p0

def globBlock22p0 : List Entry :=
  [ wr 0x2200 0x01 .i16 .rw .now (.sbtw 900 1080) 1050,
    wr 0x2200 0x02 .i16 .rw .now (.sbtw 800 1060) 1000,
    wr 0x2200 0x03 .i16 .rw .now (.sbtw 920 1150) 1100,
    wr 0x2200 0x04 .u16 .rw .now (.btw 10 150) 50,
    wr 0x2200 0x05 .u16 .rw .now (.btw 10 200) 100,
    ro 0x2200 0x06 .u8 0,
    ro 0x2200 0x07 .bool 0,
    ct 0x2200 0x08 .u32,
    wr 0x2200 0x09 .u8 .rw .now (.le 3) 1,
    ct 0x2200 0x0A .u32 ]

/-- Shared block 2200h: its entry tables, by index and sub (R15). -/
def globBlock22 : List Entry := globBlock22p0

def globBlock23p0 : List Entry :=
  [ wr 0x2300 0x01 .u8 .rw .now (.le 1) 1,
    wr 0x2300 0x02 .u32 .rw .now (.btw 1000 1000000) 10000,
    wr 0x2300 0x03 .u16 .rw .now (.btw 1000 10000) 3435,
    ro 0x2300 0x04 .i16 0,
    ro 0x2300 0x05 .u8 0,
    rep (1, 3) (dm 0x2300 0x06 .domain .rw .now 16),
    rep (4, 1) (wr 0x2301 0x01 .u8 .rw .now (.le 240) 0),
    rep (4, 1) (wr 0x2301 0x02 .u8 .rw .now (.le 3) 1),
    rep (4, 1) (wr 0x2301 0x03 .u16 .rw .now .any 2200),
    rep (4, 1) (dm 0x2301 0x04 .domain .rw .now 128),
    rep (4, 1) (wr 0x2301 0x05 .u16 .rw .now (.le 64512) 0),
    rep (4, 1) (wr 0x2301 0x06 .u16 .rw .now .any 0),
    rep (4, 1) (ro 0x2301 0x07 .u16 0),
    rep (4, 1) (wr 0x2301 0x11 .u8 .rw .now (.le 240) 0),
    rep (4, 1) (wr 0x2301 0x12 .u8 .rw .now (.le 3) 1),
    rep (4, 1) (wr 0x2301 0x13 .u16 .rw .now .any 2200),
    rep (4, 1) (dm 0x2301 0x14 .domain .rw .now 128),
    rep (4, 1) (wr 0x2301 0x15 .u16 .rw .now (.le 64512) 0),
    rep (4, 1) (wr 0x2301 0x16 .u16 .rw .now .any 0),
    rep (4, 1) (ro 0x2301 0x17 .u16 0),
    rep (4, 1) (wr 0x2301 0x21 .u8 .rw .now (.le 240) 0),
    rep (4, 1) (wr 0x2301 0x22 .u8 .rw .now (.le 3) 1),
    rep (4, 1) (wr 0x2301 0x23 .u16 .rw .now .any 2200),
    rep (4, 1) (dm 0x2301 0x24 .domain .rw .now 128),
    rep (4, 1) (wr 0x2301 0x25 .u16 .rw .now (.le 64512) 0),
    rep (4, 1) (wr 0x2301 0x26 .u16 .rw .now .any 0),
    rep (4, 1) (ro 0x2301 0x27 .u16 0) ]

/-- Shared block 2300h: its entry tables, by index and sub (R15). -/
def globBlock23 : List Entry := globBlock23p0

def globBlock24p0 : List Entry :=
  [ ro 0x2400 0x01 .u8 0,
    ro 0x2400 0x02 .u8 0,
    ro 0x2400 0x03 .bool 0,
    ro 0x2400 0x04 .u16 128,
    ro 0x2400 0x05 .u16 512,
    ro 0x2400 0x06 .u64 0x2625a00,
    ct 0x2400 0x07 .u32,
    ro 0x2400 0x08 .u64 0,
    wr 0x2401 0x01 .u32 .rw .now (.mask 0xFFFFFF) 0,
    wr 0x2401 0x02 .u32 .rw .now (.btw 1 32768) 0,
    wo 0x2401 0x03 .u8 .now (.btw 1 2),
    ro 0x2401 0x04 .u8 0,
    ro 0x2401 0x05 .u32 0,
    rep (4, 64) (wr 0x2410 0x01 .u8 .rw .now (.leOrFF 127) 255),
    rep (1, 4) (wr 0x2414 0x01 .u8 .rw .now (.leOrFF 127) 255),
    wr 0x2414 0x05 .u8 .rw .now (.leOrFF 127) 255,
    wr 0x2414 0x06 .u8 .rw .now (.leOrFF 127) 255,
    wr 0x2414 0x07 .u8 .rw .now (.leOrFF 127) 255,
    ct 0x2414 0x08 .u32,
    ct 0x2414 0x09 .u32,
    ro 0x2415 0x01 .u16 0,
    wr 0x2415 0x02 .u16 .rw .now (.mask 0x7FFF) 0,
    wo 0x2415 0x03 .u16 .now .any ]

/-- Shared block 2400h: its entry tables, by index and sub (R15). -/
def globBlock24 : List Entry := globBlock24p0

def globBlock25p0 : List Entry :=
  [ wr 0x2500 0x01 .bool .rw .reset .any 1,
    wr 0x2500 0x02 .u8 .rw .reset (.btw 1 127) 1,
    wr 0x2500 0x03 .u8 .rw .reset (.le 3) 3,
    wr 0x2500 0x04 .u8 .rw .reset (.le 4) 4,
    wr 0x2500 0x05 .u16 .rw .now (.btw 10 60000) 1000,
    ro 0x2500 0x06 .u8 0,
    ro 0x2500 0x07 .u8 0,
    ro 0x2500 0x08 .u8 0,
    ct 0x2500 0x09 .u32,
    ct 0x2500 0x0A .u32,
    ct 0x2500 0x0B .u32 ]

/-- Shared block 2500h: its entry tables, by index and sub (R15). -/
def globBlock25 : List Entry := globBlock25p0

def globBlock26p0 : List Entry :=
  [ wr 0x2600 0x01 .u64 .rw .reset (.mask 0xFFFFFFFFFFFF) 0,
    wr 0x2600 0x02 .u8 .rw .reset (.le 31) 0,
    wr 0x2600 0x03 .u8 .rw .reset (.le 1) 1,
    wr 0x2600 0x04 .u32 .rw .reset .any 3232235876,
    wr 0x2600 0x05 .u32 .rw .reset .any 4294967040,
    wr 0x2600 0x06 .u32 .rw .reset .any 0,
    ro 0x2600 0x07 .u32 0,
    ro 0x2600 0x08 .u8 0,
    cn 0x2600 0x09 .u16 5310,
    ct 0x2600 0x0A .u32,
    ct 0x2600 0x0B .u32,
    ct 0x2600 0x0C .u32,
    wr 0x2610 0x01 .bool .rw .now .any 0,
    wr 0x2610 0x02 .u8 .rw .now (.le 2) 0,
    wr 0x2610 0x03 .u8 .rw .now (.le 1) 0,
    wr 0x2610 0x04 .u8 .rw .now (.le 127) 0,
    wr 0x2610 0x05 .u8 .rw .now (.le 1) 0,
    wr 0x2610 0x06 .u8 .rw .now .any 128,
    wr 0x2610 0x07 .u8 .rw .now .any 128,
    wr 0x2610 0x08 .i8 .rw .now (.sbtw (-7) 1) 253,
    wr 0x2610 0x09 .u32 .rw .now (.btw 10 1000000) 100,
    ro 0x2610 0x0A .u8 1,
    ro 0x2610 0x0B .i64 0,
    ro 0x2610 0x0C .i64 0,
    ro 0x2610 0x0D .u64 0,
    wr 0x2610 0x0E .u8 .rw .now (.le 1) 0,
    wr 0x2610 0x0F .u16 .rw .now (.btw 1 500) 100,
    wr 0x2610 0x10 .bool .rw .now .any 0,
    ro 0x2610 0x11 .u64 0 ]

/-- Shared block 2600h: its entry tables, by index and sub (R15). -/
def globBlock26 : List Entry := globBlock26p0

def globBlock27p0 : List Entry :=
  [ wr 0x2700 0x01 .u8 .rw .now (.le 1) 0,
    wo 0x2700 0x02 .bool .now .any,
    wr 0x2700 0x03 .u64 .rw .now .any 0,
    wr 0x2700 0x04 .u8 .rw .now (.mask 0xF) 15,
    ro 0x2700 0x05 .u8 0,
    ro 0x2700 0x06 .bool 0,
    ro 0x2700 0x07 .bool 0,
    ro 0x2700 0x08 .u8 0 ]

/-- Shared block 2700h: its entry tables, by index and sub (R15). -/
def globBlock27 : List Entry := globBlock27p0

def globBlock28p0 : List Entry :=
  [ rep (1, 4) (ro 0x2800 0x01 .u8 0),
    ro 0x2800 0x05 .u8 0,
    ct 0x2800 0x06 .u32,
    ct 0x2800 0x07 .u32,
    wo 0x2800 0x08 .u8 .now (.mask 0xF),
    wo 0x2800 0x09 .bool .now .any,
    wr 0x2800 0x0A .bool .rw .now .any 0,
    ro 0x2800 0x0B .bool 0 ]

/-- Shared block 2800h: its entry tables, by index and sub (R15). -/
def globBlock28 : List Entry := globBlock28p0
/-- The rows of cell block c`b`00h. -/
def cellBlock (b : Nat) : List Entry :=
  match b with
  | 0 => cellBlock00 | 1 => cellBlock01 | 2 => cellBlock02 | 3 => cellBlock03 | 4 => cellBlock04 | 5 => cellBlock05
  | 6 => cellBlock06 | 7 => cellBlock07 | 8 => cellBlock08 | 9 => cellBlock09 | 10 => cellBlock0A | 11 => cellBlock0B
  | 12 => cellBlock0C | 13 => cellBlock0D | 14 => cellBlock0E
  | _ => []

/-- The rows of shared block `b`00h. -/
def globBlock (b : Nat) : List Entry :=
  match b with
  | 0x10 => globBlock10 | 0x1F => globBlock1F | 0x20 => globBlock20 | 0x21 => globBlock21 | 0x22 => globBlock22
  | 0x23 => globBlock23 | 0x24 => globBlock24 | 0x25 => globBlock25 | 0x26 => globBlock26 | 0x27 => globBlock27
  | 0x28 => globBlock28
  | _ => []

/-- The row covers an index. -/
def Entry.hasIx (e : Entry) (ix : Nat) : Bool := e.ix ≤ ix && ix < e.ix + e.nIx

/-- The row covers an index and sub-index. -/
def Entry.has (e : Entry) (ix sub : Nat) : Bool := e.hasIx ix && e.sub ≤ sub && sub < e.sub + e.nSub

/-- A cell key's row. -/
def cellEntry? (k : Nat) : Option Entry := (cellBlock (k / 65536)).find? (fun e => e.has (k / 256) (k % 256))

/-- A shared-region key's row. -/
def globEntry? (k : Nat) : Option Entry := (globBlock (k / 65536)).find? (fun e => e.has (k / 256) (k % 256))

/-- The default of a cell entry (R15). -/
def cellDflt (k : Nat) : Nat := match cellEntry? k with | some e => e.dflt | none => 0

/-- The default of a shared entry (R15); three are given to the unit or its stepping (R422, R445). -/
def globDflt (k : Nat) : Nat :=
  if k = 0x101803 then Config.revisionNumber / 65535 % 65536 * 65536 + Config.revisionNumber % 65535 + 1
  else if k = 0x101804 then Config.serialNumber % 2 ^ 32
  else if k = 0x260001 then Config.provisionedMac % 2 ^ 48
  else match globEntry? k with | some e => e.dflt | none => 0

/-- A cell index 4000h to 7FFFh: its cell and its index without the cell digit (R11). -/
def cellOfIx (ix : Nat) : Option (CellNo × Nat) :=
  match ix / 4096 with
  | 4 => some (0, ix % 4096)
  | 5 => some (1, ix % 4096)
  | 6 => some (2, ix % 4096)
  | 7 => some (3, ix % 4096)
  | _ => none

/-- The rows of an index, in any block. -/
def rowsOfIx (ix : Nat) : List Entry :=
  match cellOfIx ix with
  | some (_, i) => (cellBlock (i / 256)).filter (fun e => e.hasIx i)
  | none => (globBlock (ix / 256)).filter (fun e => e.hasIx ix)

/-- Sub 00h of an index whose entries start at sub 01h reads the highest sub in use (R420). -/
def highestSub (es : List Entry) : Nat := es.foldl (fun m e => max m (e.sub + e.nSub - 1)) 0

/-- The entry at index/sub, as R420 lays the dictionary out: sub 00h of a many-entry index is a U8 CONST entry. -/
def entryAt (ix sub : Nat) : Option Entry :=
  match (rowsOfIx ix).find? (fun e => e.sub ≤ sub && sub < e.sub + e.nSub) with
  | some e => some e
  | none => if sub = 0 ∧ rowsOfIx ix ≠ [] then some (cn ix 0 .u8 (highestSub (rowsOfIx ix))) else none

/-- The largest value of an entry in bytes (R421, R423). -/
def Entry.maxBytes (e : Entry) : Nat := if e.ty.isBlock then e.size else e.ty.bytes

/-- The EntryDirectory record of an entry (R423). -/
def Entry.record (e : Entry) (ix sub : Nat) : Nat :=
  ix + sub * 2 ^ 16 + e.ty.code * 2 ^ 24 + e.acc.code * 2 ^ 32 + e.cls.code * 2 ^ 35 + e.maxBytes * 2 ^ 40

/-- The records of one index, in ascending sub order. -/
def ixRecords (ix : Nat) : List Nat :=
  match rowsOfIx ix with
  | [] => []
  | _ => (List.range 256).filterMap (fun sub => (entryAt ix sub).map (fun e => e.record ix sub))

/-- The indices that hold entries, ascending: the shared region (1000h to 28FFh) first, then the four cells. -/
def allIx : List Nat := (List.range 0x4000).map (· + 0x1000) |>.filter (fun ix => rowsOfIx ix != []) |>.filter (fun ix => ix < 0x4000)

/-- The indices of the cell blocks, ascending over the four cells. -/
def allCellIx : List Nat := ((List.range 0x4000).map (· + 0x4000)).filter (fun ix => rowsOfIx ix != [])

/-- EntryDirectory: every entry's record, ascending (R423). -/
def directoryRecords : List Nat := (allIx ++ allCellIx).flatMap ixRecords

/-- EntryCount: the number of records (R422). -/
def entryCount : Nat := directoryRecords.length

end Sys2Proof.Machine
end

