-- ==== Sys2Proof/Machine/Keys.lean ====
section
/-! DEFINITION. The addresses of the dictionary entries (R10, R11, R15): one constant per entry of every dictionary table of the
spec, `index * 256 + sub`.  A cell key holds the three low index digits (entry c601h/01h is `0x60101`); a shared-region key holds
all four.  A repeated block names its first instance: lane l, unit u, stream p, channel k, map m stand `l * 0x100` further on. -/

namespace Sys2Proof.Machine

-- 01_architecture.md R34
abbrev K.EventCount : Nat := 0xE1001  -- 64 subs
abbrev K.EvoSelect : Nat := 0xE1101  -- 2 subs
abbrev K.EvoPulseWidth : Nat := 0xE1103  -- 2 subs
abbrev K.EvoPolarity : Nat := 0xE1105
abbrev K.EviEdge : Nat := 0xE1201  -- 2 subs
abbrev K.SwEvent : Nat := 0xE1301  -- 8 subs
abbrev K.EventCountClear : Nat := 0xE1401
-- 02_timeline_and_schedule.md R76
abbrev K.TimelineSource : Nat := 0x60001
abbrev K.TimelineNow : Nat := 0x60002
abbrev K.SampleIndexNow : Nat := 0x60003
abbrev K.TrackerOrigin : Nat := 0x60004
abbrev K.TrackerOriginSample : Nat := 0x60005
abbrev K.TrackerIncrement : Nat := 0x60006
abbrev K.TrackerResidual : Nat := 0x60007
abbrev K.TimelineLocked : Nat := 0x60008
abbrev K.SourceLost : Nat := 0x60009
abbrev K.TrackerShift : Nat := 0x6000A
abbrev K.TrackerLockLimit : Nat := 0x6000B
abbrev K.ImageStaged : Nat := 0x60101
abbrev K.ImageActive : Nat := 0x60102
abbrev K.ImageStatus : Nat := 0x60103
abbrev K.StagedValid : Nat := 0x60104
abbrev K.SwapRequest : Nat := 0x60105
abbrev K.SwapPending : Nat := 0x60106
abbrev K.ActiveImageId : Nat := 0x60107
abbrev K.StagedImageId : Nat := 0x60108
abbrev K.SwathLength : Nat := 0x60109
abbrev K.SwathCount : Nat := 0x6010A
abbrev K.ActiveImageBank : Nat := 0x6010B
abbrev K.Commit : Nat := 0x60201
abbrev K.CommitPending : Nat := 0x60202
abbrev K.LateStage : Nat := 0x60203
abbrev K.LateStageCount : Nat := 0x60204
abbrev K.LastCommitSwath : Nat := 0x60205
abbrev K.BreachCount : Nat := 0x60301
abbrev K.LastBreachCause : Nat := 0x60302
abbrev K.LastBreachSwath : Nat := 0x60303
abbrev K.LastBreachCc : Nat := 0x60304
abbrev K.EventsMissed : Nat := 0x60305
abbrev K.AcceptedClauses : Nat := 0x60306
abbrev K.LastEventIndex : Nat := 0x60307
abbrev K.LastEventPosition : Nat := 0x60308
abbrev K.LastEventSample : Nat := 0x60309
abbrev K.LastEventFraction : Nat := 0x6030A
-- 03_inputs_and_converter_array.md R100
abbrev K.InputRange : Nat := 0x00001
abbrev K.InputOffset : Nat := 0x00002
abbrev K.BandwidthLimit : Nat := 0x00003
abbrev K.RangeApplied : Nat := 0x00004
abbrev K.OffsetApplied : Nat := 0x00005
abbrev K.OffsetDacCode : Nat := 0x00006
abbrev K.BandwidthApplied : Nat := 0x00007
abbrev K.OffsetClamped : Nat := 0x00008
abbrev K.OverRangeCount : Nat := 0x00009
abbrev K.OverRangeLastSample : Nat := 0x0000A
abbrev K.LegOverloadActive : Nat := 0x0000B
abbrev K.LegOverloadCount : Nat := 0x0000C
abbrev K.OverRangeClear : Nat := 0x0000D
abbrev K.InputLatencyCc : Nat := 0x0000E
abbrev K.SettleSamples : Nat := 0x0000F
abbrev K.BandwidthFilterDelay : Nat := 0x00010
-- 03_inputs_and_converter_array.md R101
abbrev K.AuxThreshold : Nat := 0x00101
abbrev K.AuxHysteresis : Nat := 0x00102
abbrev K.AuxLevel : Nat := 0x00103
abbrev K.AuxRisingCount : Nat := 0x00104
abbrev K.AuxFallingCount : Nat := 0x00105
-- 03_inputs_and_converter_array.md R102
abbrev K.LogicThreshold0 : Nat := 0x00201
abbrev K.LogicTermination0 : Nat := 0x00202
abbrev K.LogicVtt0 : Nat := 0x00203
abbrev K.LogicThreshold1 : Nat := 0x00204
abbrev K.LogicTermination1 : Nat := 0x00205
abbrev K.LogicVtt1 : Nat := 0x00206
abbrev K.LogicLevels : Nat := 0x00207
-- 04_sample_clock.md R121
abbrev K.SampleRate : Nat := 0x10001
abbrev K.SampleRateApplied : Nat := 0x10002
abbrev K.RefFrequency : Nat := 0x10003
abbrev K.SynthDivider : Nat := 0x10004
abbrev K.PfdDivider : Nat := 0x10005
abbrev K.LockWindow : Nat := 0x10101
abbrev K.LockCount : Nat := 0x10102
abbrev K.UnlockCount : Nat := 0x10103
abbrev K.RelockHoldoff : Nat := 0x10104
abbrev K.RefFreqTolerance : Nat := 0x10105
-- 04_sample_clock.md R122
abbrev K.ClockState : Nat := 0x10201
abbrev K.SynthLocked : Nat := 0x10202
abbrev K.RefActive : Nat := 0x10203
abbrev K.RefFrequencyMeasured : Nat := 0x10204
abbrev K.PhaseError : Nat := 0x10205
abbrev K.OutOfWindowCycles : Nat := 0x10206
abbrev K.FaultCount : Nat := 0x10207
abbrev K.RestoreCount : Nat := 0x10208
abbrev K.LastFaultCause : Nat := 0x10209
abbrev K.ClockFaultFirstSample : Nat := 0x1020A
abbrev K.LastSynthSample : Nat := 0x1020B
abbrev K.BypassCycles : Nat := 0x1020C
abbrev K.HoldoffRestarts : Nat := 0x1020D
abbrev K.RelockAborted : Nat := 0x1020E
abbrev K.RetuneDeferred : Nat := 0x1020F
abbrev K.ParkedAccessCount : Nat := 0x10210
abbrev K.BypassClockHz : Nat := 0x10211
-- 05_interleave_correction.md R143
abbrev K.CoefSet : Nat := 0x20001  -- 8 subs
abbrev K.CoefActive : Nat := 0x20009  -- 8 subs
abbrev K.CoarsePhase : Nat := 0x20101  -- 8 subs
-- 05_interleave_correction.md R144
abbrev K.FgCalState : Nat := 0x20201
abbrev K.FgCalStatus : Nat := 0x20202
abbrev K.FgCalDuration : Nat := 0x20203
abbrev K.FgCalCount : Nat := 0x20204
-- 05_interleave_correction.md R145
abbrev K.BgEnable : Nat := 0x20301
abbrev K.BgState : Nat := 0x20302
abbrev K.BgMinLevel : Nat := 0x20303
abbrev K.BgBlocksAccepted : Nat := 0x20304
abbrev K.BgBlocksRejected : Nat := 0x20305
abbrev K.BgLastRejectCause : Nat := 0x20306
abbrev K.BgTimingSkipped : Nat := 0x20307
abbrev K.SpurEstimateOffset : Nat := 0x20308
abbrev K.SpurEstimateGainTiming : Nat := 0x20309
abbrev K.SpurEstimateBandwidth : Nat := 0x2030A
abbrev K.SpurEstimateWorst : Nat := 0x2030B
-- 05_interleave_correction.md R146
abbrev K.RecalEnable : Nat := 0x20401
abbrev K.RecalSpurThreshold : Nat := 0x20402
abbrev K.RecalTempDelta : Nat := 0x20403
abbrev K.RecalRequest : Nat := 0x20404
abbrev K.RecalPending : Nat := 0x20405
abbrev K.RecalCount : Nat := 0x20406
abbrev K.RecalAbandoned : Nat := 0x20407
abbrev K.LastRecalSwath : Nat := 0x20408
abbrev K.LastRecalCause : Nat := 0x20409
abbrev K.RecalWaitCc : Nat := 0x2040A
abbrev K.CoarseRetrimCount : Nat := 0x2040B
-- 06_filter_engine.md R167
abbrev K.Stage1Bypass : Nat := 0x30001
abbrev K.Stage1Coefs : Nat := 0x30002
abbrev K.Stage1Shift : Nat := 0x30003
abbrev K.Stage1CoefsActive : Nat := 0x30004
abbrev K.Stage1SatCount : Nat := 0x30005
abbrev K.MacBudgetTotal : Nat := 0x30601
abbrev K.MacReserved : Nat := 0x30602
abbrev K.LaneSkewCc : Nat := 0x30603
abbrev K.LaneDeliveryCc : Nat := 0x30604
abbrev K.FilterCountClear : Nat := 0x30605
abbrev K.LanePlanActive : Nat := 0x30501  -- 4 subs
-- 06_filter_engine.md R168
abbrev K.Stage2Bank0 : Nat := 0x30101  -- 4 instances
abbrev K.Stage2Bank1 : Nat := 0x30102  -- 4 instances
abbrev K.LaneActiveBank : Nat := 0x30103  -- 4 instances
abbrev K.BankSwapRequest : Nat := 0x30104  -- 4 instances
abbrev K.FadeLength : Nat := 0x30105  -- 4 instances
abbrev K.SwapWaiting : Nat := 0x30106  -- 4 instances
abbrev K.SwapDeferred : Nat := 0x30107  -- 4 instances
abbrev K.FadeActive : Nat := 0x30108  -- 4 instances
abbrev K.FadeRemaining : Nat := 0x30109  -- 4 instances
abbrev K.Stage2Shift : Nat := 0x3010A  -- 4 instances
abbrev K.Stage3Shift : Nat := 0x3010B  -- 4 instances
abbrev K.Stage2SatCount : Nat := 0x3010C  -- 4 instances
abbrev K.Stage3SatCount : Nat := 0x3010D  -- 4 instances
abbrev K.UnsettledCount : Nat := 0x3010E  -- 4 instances
abbrev K.LaneState : Nat := 0x3010F  -- 4 instances
abbrev K.LastRestartSample : Nat := 0x30110  -- 4 instances
abbrev K.SwapCount : Nat := 0x30111  -- 4 instances
abbrev K.LastSwapReference : Nat := 0x30112  -- 4 instances
abbrev K.SwapDeferredCount : Nat := 0x30113  -- 4 instances
abbrev K.LatchDiscarded : Nat := 0x30114  -- 4 instances
abbrev K.BankWriteRefused : Nat := 0x30115  -- 4 instances
-- 07_trigger_conditions.md R206
abbrev K.TriggerMode : Nat := 0x40001
abbrev K.SourceEnable : Nat := 0x40002
abbrev K.SameSampleAdvance : Nat := 0x40003
abbrev K.SeqCountN : Nat := 0x40004
abbrev K.SeqLimitKind : Nat := 0x40005
abbrev K.SeqTimeLimit : Nat := 0x40006
abbrev K.SeqEventLimit : Nat := 0x40007
abbrev K.SeqRestartOnA : Nat := 0x40008
abbrev K.HoldoffKind : Nat := 0x40009
abbrev K.HoldoffTime : Nat := 0x4000A
abbrev K.HoldoffEvents : Nat := 0x4000B
abbrev K.TrigConfigError : Nat := 0x4000C
-- 07_trigger_conditions.md R207
abbrev K.UnitType : Nat := 0x40101  -- 4 instances
abbrev K.UnitInput : Nat := 0x40102  -- 4 instances
abbrev K.Polarity : Nat := 0x40103  -- 4 instances
abbrev K.Mode : Nat := 0x40104  -- 4 instances
abbrev K.Level : Nat := 0x40105  -- 4 instances
abbrev K.LevelLow : Nat := 0x40106  -- 4 instances
abbrev K.LevelHigh : Nat := 0x40107  -- 4 instances
abbrev K.Hysteresis : Nat := 0x40108  -- 4 instances
abbrev K.WidthMode : Nat := 0x40109  -- 4 instances
abbrev K.Width1 : Nat := 0x4010A  -- 4 instances
abbrev K.Width2 : Nat := 0x4010B  -- 4 instances
abbrev K.Timeout : Nat := 0x4010C  -- 4 instances
abbrev K.LogicMask : Nat := 0x4010D  -- 4 instances
abbrev K.LogicValue : Nat := 0x4010E  -- 4 instances
abbrev K.LogicEdge : Nat := 0x4010F  -- 4 instances
abbrev K.AnalogQualifier : Nat := 0x40110  -- 4 instances
abbrev K.QualWindow : Nat := 0x40111  -- 4 instances
abbrev K.QualSense : Nat := 0x40112  -- 4 instances
abbrev K.TrackEnable : Nat := 0x40113  -- 4 instances
abbrev K.TrackLevelFrac : Nat := 0x40114  -- 4 instances
abbrev K.TrackLowFrac : Nat := 0x40115  -- 4 instances
abbrev K.TrackHighFrac : Nat := 0x40116  -- 4 instances
abbrev K.TrackHystFrac : Nat := 0x40117  -- 4 instances
abbrev K.LevelApplied : Nat := 0x40118  -- 4 instances
abbrev K.LevelLowApplied : Nat := 0x40119  -- 4 instances
abbrev K.LevelHighApplied : Nat := 0x4011A  -- 4 instances
abbrev K.HysteresisApplied : Nat := 0x4011B  -- 4 instances
abbrev K.UnitEventCount : Nat := 0x4011C  -- 4 instances
abbrev K.LastUnitSample : Nat := 0x4011D  -- 4 instances
abbrev K.LastUnitFraction : Nat := 0x4011E  -- 4 instances
abbrev K.QualDiscardCount : Nat := 0x4011F  -- 4 instances
abbrev K.LevelPairHeld : Nat := 0x40120  -- 4 instances
-- 07_trigger_conditions.md R208
abbrev K.CdrEnable : Nat := 0x40501
abbrev K.CdrModulation : Nat := 0x40502
abbrev K.SymbolRate : Nat := 0x40503
abbrev K.CdrLoopBandwidth : Nat := 0x40504
abbrev K.CdrDamping : Nat := 0x40505
abbrev K.CdrPullRange : Nat := 0x40506
abbrev K.CdrSamplePhase : Nat := 0x40507
abbrev K.CdrThresholdMode : Nat := 0x40508
abbrev K.CdrThresholdMid : Nat := 0x40509
abbrev K.CdrThresholdLow : Nat := 0x4050A
abbrev K.CdrThresholdHigh : Nat := 0x4050B
abbrev K.GrayDecode : Nat := 0x4050C
abbrev K.CdrLockPpm : Nat := 0x4050D
abbrev K.CdrLockBlocks : Nat := 0x4050E
abbrev K.CdrState : Nat := 0x4050F
abbrev K.CdrLocked : Nat := 0x40510
abbrev K.CdrFrequencyOffset : Nat := 0x40511
abbrev K.UiCount : Nat := 0x40512
abbrev K.CdrLockLossCount : Nat := 0x40513
abbrev K.CdrThresholdsApplied : Nat := 0x40514
abbrev K.SymbolPatternLength : Nat := 0x40601
abbrev K.SymbolPattern : Nat := 0x40602
abbrev K.SymbolMatchCount : Nat := 0x40603
-- 07_trigger_conditions.md R209
abbrev K.TrackSource : Nat := 0x40701
abbrev K.TrackSmoothShift : Nat := 0x40702
abbrev K.TrackMinAmplitude : Nat := 0x40703
abbrev K.TrackHoldArmed : Nat := 0x40704
abbrev K.TrackState : Nat := 0x40705
abbrev K.TrackBase : Nat := 0x40706
abbrev K.TrackTop : Nat := 0x40707
abbrev K.TrackPam4Levels : Nat := 0x40708
abbrev K.TrackBlocksRejected : Nat := 0x40709
abbrev K.TrackLastUpdateSwath : Nat := 0x4070A
-- 07_trigger_conditions.md R210
abbrev K.TrigSourceMask : Nat := 0x40801
abbrev K.LastTrigSample : Nat := 0x40802
abbrev K.LastTrigFraction : Nat := 0x40803
abbrev K.SeqState : Nat := 0x40804
abbrev K.SeqBCount : Nat := 0x40805
abbrev K.SeqResetCount : Nat := 0x40806
abbrev K.SeqExpiredCount : Nat := 0x40807
abbrev K.SameSampleBlocked : Nat := 0x40808
abbrev K.HoldoffSuppressed : Nat := 0x40809
abbrev K.CandidatesDelivered : Nat := 0x4080A
abbrev K.CoalescedCount : Nat := 0x4080B
abbrev K.UnsettledRestarts : Nat := 0x4080C
abbrev K.TriggerLatencyApplied : Nat := 0x4080D
abbrev K.TriggerCountClear : Nat := 0x4080E
-- 08_arming_and_trigger_placement.md R241
abbrev K.ArmMode : Nat := 0x50001
abbrev K.PreTriggerSamples : Nat := 0x50002
abbrev K.PostTriggerSamples : Nat := 0x50003
abbrev K.SegmentLimit : Nat := 0x50004
abbrev K.AutoTimeout : Nat := 0x50005
abbrev K.ArmWindow : Nat := 0x50006
abbrev K.ArmWindowStop : Nat := 0x50007
abbrev K.ArmStartLine : Nat := 0x50008
abbrev K.StopLine : Nat := 0x50009
abbrev K.ArmRequest : Nat := 0x5000A
abbrev K.StopAcq : Nat := 0x5000B
abbrev K.ForceTrigger : Nat := 0x5000C
-- 08_arming_and_trigger_placement.md R242
abbrev K.ArmState : Nat := 0x50101
abbrev K.ArmSample : Nat := 0x50102
abbrev K.ArmStamp : Nat := 0x50103
abbrev K.SegmentsRecorded : Nat := 0x50104
abbrev K.LastEndCause : Nat := 0x50105
abbrev K.AcqCount : Nat := 0x50106
abbrev K.ArmConfigError : Nat := 0x50107
abbrev K.LastArmRefuseCause : Nat := 0x50108
abbrev K.ArmRefusedCount : Nat := 0x50109
abbrev K.ArmIgnored : Nat := 0x5010A
abbrev K.PreFillIgnored : Nat := 0x5010B
abbrev K.InSegmentIgnored : Nat := 0x5010C
abbrev K.RearmMissed : Nat := 0x5010D
abbrev K.ForceIgnored : Nat := 0x5010E
abbrev K.ForcedCount : Nat := 0x5010F
abbrev K.ThermalHold : Nat := 0x50110
abbrev K.ArmCountClear : Nat := 0x50111
abbrev K.LastTriggerRecord : Nat := 0x50201
abbrev K.LastTrigStamp : Nat := 0x50202
-- 08_arming_and_trigger_placement.md R243
abbrev K.PlacementPath : Nat := 0x50301  -- 4 subs
abbrev K.AuxDeskew : Nat := 0x50305
abbrev K.SkewState : Nat := 0x50306
abbrev K.SkewPending : Nat := 0x50307
abbrev K.SkewCalTemp : Nat := 0x50308
abbrev K.SkewCalCount : Nat := 0x50309
abbrev K.AuxSkewTrim : Nat := 0x5030A
abbrev K.EdgeSkewTrim : Nat := 0x5030B
abbrev K.LogicSkewTrim : Nat := 0x5030C
abbrev K.TdcActiveUnit : Nat := 0x5030D
abbrev K.TdcPending : Nat := 0x5030E
abbrev K.TdcCalInterval : Nat := 0x5030F
abbrev K.TdcCalTemp : Nat := 0x50310
abbrev K.TdcLinCount : Nat := 0x50311
abbrev K.TdcHitsCollected : Nat := 0x50312
abbrev K.TdcMissCount : Nat := 0x50313
abbrev K.TdcLsbFs : Nat := 0x50314
abbrev K.TdcRangeNs : Nat := 0x50315
abbrev K.RearmSamples : Nat := 0x50316
-- 09_capture_and_segments.md R265
abbrev K.CaptureMode : Nat := 0x70001
abbrev K.BufferPlaces : Nat := 0x70002
abbrev K.PortStagingPlaces : Nat := 0x70003
abbrev K.DirectWriteDropped : Nat := 0x70004
abbrev K.BurstFull : Nat := 0x70005
abbrev K.CaptureCountClear : Nat := 0x70006
-- 09_capture_and_segments.md R266
abbrev K.BufferShare : Nat := 0x70101  -- 4 instances
abbrev K.DataBase : Nat := 0x70102  -- 4 instances
abbrev K.DataStooks : Nat := 0x70103  -- 4 instances
abbrev K.DataWrap : Nat := 0x70104  -- 4 instances
abbrev K.TableBase : Nat := 0x70105  -- 4 instances
abbrev K.TableEntries : Nat := 0x70106  -- 4 instances
abbrev K.RegionFirstPlace : Nat := 0x70107  -- 4 instances
abbrev K.RegionPlaces : Nat := 0x70108  -- 4 instances
abbrev K.StreamState : Nat := 0x70109  -- 4 instances
abbrev K.BufferFill : Nat := 0x7010A  -- 4 instances
abbrev K.BufferFillPeak : Nat := 0x7010B  -- 4 instances
abbrev K.StooksPacked : Nat := 0x7010C  -- 4 instances
abbrev K.StooksDrained : Nat := 0x7010D  -- 4 instances
abbrev K.EntriesWritten : Nat := 0x7010E  -- 4 instances
abbrev K.TableWrapped : Nat := 0x7010F  -- 4 instances
abbrev K.DataWrapCount : Nat := 0x70110  -- 4 instances
abbrev K.DeepFull : Nat := 0x70111  -- 4 instances
abbrev K.DeepFullDropped : Nat := 0x70112  -- 4 instances
abbrev K.OverflowCount : Nat := 0x70113  -- 4 instances
abbrev K.StooksLost : Nat := 0x70114  -- 4 instances
abbrev K.TruncatedCount : Nat := 0x70115  -- 4 instances
abbrev K.PreShortCount : Nat := 0x70116  -- 4 instances
abbrev K.StreamCorrectedCount : Nat := 0x70117  -- 4 instances
abbrev K.StreamPoisonCount : Nat := 0x70118  -- 4 instances
abbrev K.LastEntry : Nat := 0x70119  -- 4 instances
-- 10_deep_memory.md R298
abbrev K.MemFitted : Nat := 0x80001
abbrev K.MemReadLatency : Nat := 0x80002
abbrev K.MemDrive : Nat := 0x80003
abbrev K.MemOdt : Nat := 0x80004
abbrev K.PhyOdt : Nat := 0x80005
abbrev K.MemState : Nat := 0x80101
abbrev K.CapacityStooks : Nat := 0x80102
abbrev K.RowCountUsed : Nat := 0x80103
abbrev K.RanksUsed : Nat := 0x80104
abbrev K.CapacityMismatch : Nat := 0x80105
abbrev K.FixedReadLatency : Nat := 0x80106
abbrev K.MemClockHz : Nat := 0x80107
abbrev K.UnmappedAccessCount : Nat := 0x80108
abbrev K.RefreshHot : Nat := 0x80109
-- 10_deep_memory.md R299
abbrev K.SelfRefreshEnable : Nat := 0x80201
abbrev K.SelfRefreshIdle : Nat := 0x80202
abbrev K.MemWake : Nat := 0x80203
abbrev K.SelfRefreshEntries : Nat := 0x80204
abbrev K.LastWakeNs : Nat := 0x80205
-- 10_deep_memory.md R300
abbrev K.LastErrorStook : Nat := 0x80301
abbrev K.LastErrorKind : Nat := 0x80302
abbrev K.LastErrorSymbol : Nat := 0x80303
abbrev K.LastErrorRequester : Nat := 0x80304
abbrev K.MemErrorClear : Nat := 0x80305
-- 10_deep_memory.md R301
abbrev K.ScrubEnable : Nat := 0x80401
abbrev K.ScrubGrantCc : Nat := 0x80402
abbrev K.ScrubPending : Nat := 0x80403
abbrev K.ScrubPointer : Nat := 0x80404
abbrev K.ScrubPasses : Nat := 0x80405
abbrev K.ScrubWritebackCancelled : Nat := 0x80406
abbrev K.RetrainTempDelta : Nat := 0x80501
abbrev K.RetrainInterval : Nat := 0x80502
abbrev K.RetrainRequest : Nat := 0x80503
abbrev K.RetrainPending : Nat := 0x80504
abbrev K.RetrainCount : Nat := 0x80505
abbrev K.LastRetrainSwath : Nat := 0x80506
abbrev K.RetrainWaitCc : Nat := 0x80507
abbrev K.RetrainMarginLow : Nat := 0x80508
-- 10_deep_memory.md R302
abbrev K.MemChannelState : Nat := 0x80601  -- 4 instances
abbrev K.ChannelFailCause : Nat := 0x80602  -- 4 instances
abbrev K.DeviceIdentity : Nat := 0x80603  -- 4 instances
abbrev K.DeviceTemp : Nat := 0x80604  -- 4 instances
abbrev K.TrainTemp : Nat := 0x80605  -- 4 instances
abbrev K.MemCorrectedCount : Nat := 0x80606  -- 4 instances
abbrev K.MemUncorrectableCount : Nat := 0x80607  -- 4 instances
abbrev K.PoisonReadCount : Nat := 0x80608  -- 4 instances
abbrev K.WorstEyeWidth : Nat := 0x80609  -- 4 instances
abbrev K.ReadDeskew : Nat := 0x8060A  -- 4 instances
abbrev K.WriteDeskew : Nat := 0x8060B  -- 4 instances
abbrev K.FixedLanePeak : Nat := 0x8060C  -- 4 instances
-- 10_deep_memory.md R303
abbrev K.InScanBase : Nat := 0x80A01  -- 3 subs
abbrev K.InScanLength : Nat := 0x80A04  -- 3 subs
abbrev K.LeaseViolation : Nat := 0x80A07
abbrev K.LeaseViolationStook : Nat := 0x80A08
abbrev K.LeaseViolationRequester : Nat := 0x80A09
abbrev K.LeaseHitCount : Nat := 0x80A0A
-- 11_accumulation.md R325
abbrev K.AccSource : Nat := 0x90001
abbrev K.AccFunctions : Nat := 0x90002
abbrev K.RecordOffset : Nat := 0x90003
abbrev K.RecordPoints : Nat := 0x90004
abbrev K.AvgShift : Nat := 0x90005
abbrev K.RecordTarget : Nat := 0x90006
abbrev K.ValueTarget : Nat := 0x90007
abbrev K.SkipForced : Nat := 0x90008
abbrev K.SkipOverRange : Nat := 0x90009
abbrev K.AccGateMode : Nat := 0x9000A
abbrev K.AccStopMask : Nat := 0x9000B
abbrev K.AccFreezeMode : Nat := 0x9000C
abbrev K.AccLfsrSeed : Nat := 0x9000D
-- 11_accumulation.md R326
abbrev K.AccStart : Nat := 0x90101
abbrev K.AccFreeze : Nat := 0x90102
abbrev K.AccResume : Nat := 0x90103
abbrev K.AccClear : Nat := 0x90104
abbrev K.AccState : Nat := 0x90201
abbrev K.FreezeCause : Nat := 0x90202
abbrev K.FreezeSample : Nat := 0x90203
abbrev K.RecordCount : Nat := 0x90204
abbrev K.ValuesTaken : Nat := 0x90205
abbrev K.IntakeStride : Nat := 0x90206
abbrev K.IntakeBlock : Nat := 0x90207
abbrev K.AvgBase : Nat := 0x90208
abbrev K.EnvBase : Nat := 0x90209
abbrev K.Map0Base : Nat := 0x9020A
abbrev K.Map1Base : Nat := 0x9020B
abbrev K.WordsUsed : Nat := 0x9020C
abbrev K.AccWords : Nat := 0x9020D
abbrev K.AccIntakeDelayCc : Nat := 0x9020E
abbrev K.AccConfigError : Nat := 0x9020F
abbrev K.AvgSatCount : Nat := 0x90210
abbrev K.UnsettledSkipped : Nat := 0x90211
abbrev K.ClkSkipped : Nat := 0x90212
abbrev K.OverRangeSkipped : Nat := 0x90213
abbrev K.UnlockedSkipped : Nat := 0x90214
abbrev K.AccWriteDropped : Nat := 0x90215
abbrev K.AccCorrectedCount : Nat := 0x90216
abbrev K.AccPoisonCount : Nat := 0x90217
abbrev K.AccCountClear : Nat := 0x90218
abbrev K.EyeOrigin : Nat := 0x90219
-- 11_accumulation.md R327
abbrev K.MapMode : Nat := 0x90301  -- 2 instances
abbrev K.MapColumns : Nat := 0x90302  -- 2 instances
abbrev K.MapRows : Nat := 0x90303  -- 2 instances
abbrev K.MapAmpBottom : Nat := 0x90304  -- 2 instances
abbrev K.MapAmpSpan : Nat := 0x90305  -- 2 instances
abbrev K.MapTimeStart : Nat := 0x90306  -- 2 instances
abbrev K.MapTimeSpan : Nat := 0x90307  -- 2 instances
abbrev K.MapFoldUi : Nat := 0x90308  -- 2 instances
abbrev K.OffMapCount : Nat := 0x90309  -- 2 instances
abbrev K.MapSatCount : Nat := 0x9030A  -- 2 instances
-- 11_accumulation.md R328
abbrev K.StatsPhaseLow : Nat := 0x90501
abbrev K.StatsPhaseHigh : Nat := 0x90502
abbrev K.StatsMinValues : Nat := 0x90503
abbrev K.StatsValid : Nat := 0x90504
abbrev K.StatsValues : Nat := 0x90505
abbrev K.StatsBase : Nat := 0x90506
abbrev K.StatsTop : Nat := 0x90507
abbrev K.StatsPam4Levels : Nat := 0x90508
-- 12_raster_scanout.md R348
abbrev K.RasterEnable : Nat := 0xA0001
abbrev K.DsiMode : Nat := 0xA0002
abbrev K.DsiLanes : Nat := 0xA0003
abbrev K.DsiLaneRate : Nat := 0xA0004
abbrev K.PixelFormat : Nat := 0xA0005
abbrev K.PixelClock : Nat := 0xA0006
abbrev K.Hactive : Nat := 0xA0007
abbrev K.Hfront : Nat := 0xA0008
abbrev K.Hsync : Nat := 0xA0009
abbrev K.Hback : Nat := 0xA000A
abbrev K.Vactive : Nat := 0xA000B
abbrev K.Vfront : Nat := 0xA000C
abbrev K.Vsync : Nat := 0xA000D
abbrev K.Vback : Nat := 0xA000E
abbrev K.ClockContinuous : Nat := 0xA000F
abbrev K.TePolarity : Nat := 0xA0010
abbrev K.TeTimeout : Nat := 0xA0011
abbrev K.CommitLeadLines : Nat := 0xA0012
abbrev K.DsiStartup : Nat := 0xA0013
abbrev K.EotpEnable : Nat := 0xA0014
abbrev K.DsiPolaritySwap : Nat := 0xA0015
abbrev K.PeriodicDeskew : Nat := 0xA0016
abbrev K.RasterClass : Nat := 0xA0017
abbrev K.FrameRateApplied : Nat := 0xA0018
-- 12_raster_scanout.md R349
abbrev K.BackgroundColour : Nat := 0xA0101
abbrev K.DensityEnable : Nat := 0xA0102
abbrev K.DensityMap : Nat := 0xA0103
abbrev K.DensityX0 : Nat := 0xA0104
abbrev K.DensityY0 : Nat := 0xA0105
abbrev K.DensityZoomX : Nat := 0xA0106
abbrev K.DensityZoomY : Nat := 0xA0107
abbrev K.DensityCurve : Nat := 0xA0108
abbrev K.DensityGamma : Nat := 0xA0109
abbrev K.DensityLogOctaves : Nat := 0xA010A
abbrev K.DensityFull : Nat := 0xA010B
abbrev K.DensityPalette : Nat := 0xA010C
abbrev K.DensityPeakApplied : Nat := 0xA010D
abbrev K.OverlayEnable : Nat := 0xA010E
abbrev K.OverlayBase : Nat := 0xA010F
abbrev K.OverlayStride : Nat := 0xA0110
abbrev K.CursorEnable : Nat := 0xA0111
abbrev K.CursorBase : Nat := 0xA0112
abbrev K.CursorX : Nat := 0xA0113
abbrev K.CursorY : Nat := 0xA0114
-- 12_raster_scanout.md R350
abbrev K.RasterCommit : Nat := 0xA0201
abbrev K.RasterCommitPending : Nat := 0xA0202
abbrev K.CommitLate : Nat := 0xA0203
abbrev K.CommitLateCount : Nat := 0xA0204
abbrev K.ModeSwitched : Nat := 0xA0205
abbrev K.RasterState : Nat := 0xA0206
abbrev K.RasterConfigError : Nat := 0xA0207
abbrev K.FrameCount : Nat := 0xA0208
abbrev K.ApplyCount : Nat := 0xA0209
abbrev K.LastApplyFrame : Nat := 0xA020A
abbrev K.TornFrameCount : Nat := 0xA020B
abbrev K.LastTornFrame : Nat := 0xA020C
abbrev K.UnderrunCount : Nat := 0xA020D
abbrev K.UnderrunFrames : Nat := 0xA020E
abbrev K.CursorLateCount : Nat := 0xA020F
abbrev K.TeSkippedCount : Nat := 0xA0210
abbrev K.TeMissingCount : Nat := 0xA0211
abbrev K.OverlayPoisonCount : Nat := 0xA0212
abbrev K.DensityPoisonCount : Nat := 0xA0213
abbrev K.RasterCountClear : Nat := 0xA0214
-- 12_raster_scanout.md R351
abbrev K.RetiredBase : Nat := 0xA0301
abbrev K.RetiredLayer : Nat := 0xA0302
abbrev K.RetiredFrame : Nat := 0xA0303
abbrev K.RetireCount : Nat := 0xA0304
-- 13_dma_and_cell_port.md R381
abbrev K.ChainHopLimit : Nat := 0xB0001
abbrev K.MoverOwner : Nat := 0xB0002
abbrev K.DmaAbortCount : Nat := 0xB0003
abbrev K.LastAbortRecord : Nat := 0xB0004
abbrev K.DmaPoisonCount : Nat := 0xB0005
abbrev K.DescSramEntries : Nat := 0xB0006
abbrev K.DmaCountClear : Nat := 0xB0007
-- 13_dma_and_cell_port.md R382
abbrev K.ChannelEnable : Nat := 0xB0101  -- 8 instances
abbrev K.ChainStart : Nat := 0xB0102  -- 8 instances
abbrev K.ChainStartInHost : Nat := 0xB0103  -- 8 instances
abbrev K.HostDescBase : Nat := 0xB0104  -- 8 instances
abbrev K.RequestLine : Nat := 0xB0105  -- 8 instances
abbrev K.CompatMode : Nat := 0xB0106  -- 8 instances
abbrev K.StatusSpace : Nat := 0xB0107  -- 8 instances
abbrev K.StatusAddr : Nat := 0xB0108  -- 8 instances
abbrev K.ChannelAbort : Nat := 0xB0109  -- 8 instances
abbrev K.DmaChannelState : Nat := 0xB010A  -- 8 instances
abbrev K.PendingRequests : Nat := 0xB010B  -- 8 instances
abbrev K.CurrentDescriptor : Nat := 0xB010C  -- 8 instances
abbrev K.HopCount : Nat := 0xB010D  -- 8 instances
abbrev K.BytesMoved : Nat := 0xB010E  -- 8 instances
abbrev K.BurstCount : Nat := 0xB010F  -- 8 instances
abbrev K.RequestsIgnored : Nat := 0xB0110  -- 8 instances
abbrev K.RequestOverflow : Nat := 0xB0111  -- 8 instances
abbrev K.LastAbortCause : Nat := 0xB0112  -- 8 instances
abbrev K.StatusWriteFailed : Nat := 0xB0113  -- 8 instances
-- 13_dma_and_cell_port.md R383
abbrev K.PortEnable : Nat := 0xC0001
abbrev K.PortState : Nat := 0xC0002
abbrev K.PortDownCause : Nat := 0xC0003
abbrev K.PortAutoRetrain : Nat := 0xC0004
abbrev K.PortRetrainDelay : Nat := 0xC0005
abbrev K.PortTrainTimeout : Nat := 0xC0006
abbrev K.TxPolarity : Nat := 0xC0007
abbrev K.RxPolarity : Nat := 0xC0008
abbrev K.TxSwing : Nat := 0xC0009
abbrev K.TxFfe : Nat := 0xC000A
abbrev K.PortTestPattern : Nat := 0xC000B
abbrev K.PartnerDepths : Nat := 0xC000C
abbrev K.FlitsSent : Nat := 0xC000D
abbrev K.FlitsReceived : Nat := 0xC000E
abbrev K.CrcErrorCount : Nat := 0xC000F
abbrev K.BadFlitCount : Nat := 0xC0010
abbrev K.SeqGapCount : Nat := 0xC0011
abbrev K.PartnerRequestCount : Nat := 0xC0012
abbrev K.PartnerWriteStooks : Nat := 0xC0013
abbrev K.PartnerWriteDropped : Nat := 0xC0014
abbrev K.PartnerWriteLost : Nat := 0xC0015
abbrev K.PortLinkUpCount : Nat := 0xC0016
abbrev K.PortCountClear : Nat := 0xC0017
-- 13_dma_and_cell_port.md R384
abbrev K.LiveStooksSent : Nat := 0xC0101  -- 4 instances
abbrev K.LiveStooksLost : Nat := 0xC0102  -- 4 instances
abbrev K.LiveStagingFill : Nat := 0xC0103  -- 4 instances
abbrev K.PlaybackBase : Nat := 0xC0104  -- 4 instances
abbrev K.PlaybackStooks : Nat := 0xC0105  -- 4 instances
abbrev K.PlaybackLoop : Nat := 0xC0106  -- 4 instances
abbrev K.PlaybackStartLine : Nat := 0xC0107  -- 4 instances
abbrev K.PlaybackStop : Nat := 0xC0108  -- 4 instances
abbrev K.PlaybackState : Nat := 0xC0109  -- 4 instances
abbrev K.PlaybackStooksSent : Nat := 0xC010A  -- 4 instances
-- 14_pattern_engine.md R401
abbrev K.PatternStart : Nat := 0xD0001
abbrev K.PatternStop : Nat := 0xD0002
abbrev K.PatternStartLine : Nat := 0xD0003
abbrev K.IdleValue : Nat := 0xD0004
abbrev K.PoutPolarity : Nat := 0xD0005
abbrev K.PoutSwing : Nat := 0xD0006
abbrev K.PatternOutputLatencyCc : Nat := 0xD0007
abbrev K.PrefetchFifoStooks : Nat := 0xD0008
abbrev K.LandingStooks : Nat := 0xD0009
-- 14_pattern_engine.md R402
abbrev K.PatternProgram : Nat := 0xD0101
abbrev K.ProgramLength : Nat := 0xD0102
abbrev K.RegionBase : Nat := 0xD0201  -- 8 subs
abbrev K.RegionStooks : Nat := 0xD0209  -- 8 subs
-- 14_pattern_engine.md R403
abbrev K.PatternState : Nat := 0xD0301
abbrev K.HaltCause : Nat := 0xD0302
abbrev K.ProgramCounter : Nat := 0xD0303
abbrev K.PatternConfigError : Nat := 0xD0304
abbrev K.LastStartSample : Nat := 0xD0305
abbrev K.PatternUnderrunBits : Nat := 0xD0306
abbrev K.PatternPoisonCount : Nat := 0xD0307
abbrev K.ReleaseUnmatched : Nat := 0xD0308
abbrev K.BranchTakenCount : Nat := 0xD0309
abbrev K.FifoFill : Nat := 0xD030A
abbrev K.FifoFillMin : Nat := 0xD030B
abbrev K.PatternCountClear : Nat := 0xD030C
-- 15_shared_resources_and_maintenance.md R419
abbrev K.HaywardHolder : Nat := 0xE2001
abbrev K.HaywardGrantCount : Nat := 0xE2002
abbrev K.MaintWaitMax : Nat := 0xE2003  -- 5 subs
abbrev K.WindowsPassed : Nat := 0xE2008  -- 5 subs
abbrev K.ScrubPreemptCount : Nat := 0xE200D
abbrev K.HaywardCountClear : Nat := 0xE200E

-- 02_timeline_and_schedule.md R77
abbrev G.EpochStrobeSource : Nat := 0x270001
abbrev G.EpochStrobe : Nat := 0x270002
abbrev G.EpochValue : Nat := 0x270003
abbrev G.EpochCellMask : Nat := 0x270004
abbrev G.EpochLoaded : Nat := 0x270005
abbrev G.PtpSynchronised : Nat := 0x270006
abbrev G.EpochPending : Nat := 0x270007
abbrev G.EpochSkipped : Nat := 0x270008
-- 16_control_ports_and_dictionary.md R422
abbrev G.DeviceType : Nat := 0x100000
abbrev G.DeviceName : Nat := 0x100800
abbrev G.SoftwareVersion : Nat := 0x100A00
abbrev G.VendorId : Nat := 0x101801
abbrev G.ProductCode : Nat := 0x101802
abbrev G.RevisionNumber : Nat := 0x101803
abbrev G.SerialNumber : Nat := 0x101804
abbrev G.EntryDirectory : Nat := 0x103000
abbrev G.EntryCount : Nat := 0x103100
-- 16_control_ports_and_dictionary.md R443
abbrev G.LinkSpeed : Nat := 0x240001
abbrev G.LinkWidth : Nat := 0x240002
abbrev G.FlitMode : Nat := 0x240003
abbrev G.MpsApplied : Nat := 0x240004
abbrev G.MrrsApplied : Nat := 0x240005
abbrev G.CompletionTimeoutNs : Nat := 0x240006
abbrev G.BarErrorCount : Nat := 0x240007
abbrev G.BarLastError : Nat := 0x240008
abbrev G.WideSelect : Nat := 0x240101
abbrev G.WideLength : Nat := 0x240102
abbrev G.WideCommand : Nat := 0x240103
abbrev G.WideState : Nat := 0x240104
abbrev G.WideAbortCode : Nat := 0x240105
abbrev G.EventVector : Nat := 0x241001  -- 4 instances, 64 subs
abbrev G.DmaAbortVector : Nat := 0x241401  -- 4 subs
abbrev G.DictErrorVector : Nat := 0x241405
abbrev G.WideDoneVector : Nat := 0x241406
abbrev G.NoticeVector : Nat := 0x241407
abbrev G.MsiMergedCount : Nat := 0x241408
abbrev G.MsiDroppedCount : Nat := 0x241409
abbrev G.IntStatus : Nat := 0x241501
abbrev G.IntMask : Nat := 0x241502
abbrev G.IntClear : Nat := 0x241503
-- 16_control_ports_and_dictionary.md R444
abbrev G.CanEnable : Nat := 0x250001
abbrev G.NodeId : Nat := 0x250002
abbrev G.NominalRate : Nat := 0x250003
abbrev G.DataRate : Nat := 0x250004
abbrev G.SdoTimeout : Nat := 0x250005
abbrev G.CanState : Nat := 0x250006
abbrev G.TxErrorCounter : Nat := 0x250007
abbrev G.RxErrorCounter : Nat := 0x250008
abbrev G.SdoTransfers : Nat := 0x250009
abbrev G.SdoAborts : Nat := 0x25000A
abbrev G.IgnoredFrames : Nat := 0x25000B
-- 16_control_ports_and_dictionary.md R445
abbrev G.MacAddress : Nat := 0x260001
abbrev G.PhyAddress : Nat := 0x260002
abbrev G.IpMode : Nat := 0x260003
abbrev G.IpAddress : Nat := 0x260004
abbrev G.IpNetmask : Nat := 0x260005
abbrev G.IpGateway : Nat := 0x260006
abbrev G.IpApplied : Nat := 0x260007
abbrev G.EthLinkState : Nat := 0x260008
abbrev G.HdapPort : Nat := 0x260009
abbrev G.HdapRequests : Nat := 0x26000A
abbrev G.HdapDuplicates : Nat := 0x26000B
abbrev G.HdapBadDatagrams : Nat := 0x26000C
-- 17_management_and_life_cycle.md R478
abbrev G.TempPoint : Nat := 0x200001  -- 32 subs
abbrev G.JunctionMax : Nat := 0x200021
abbrev G.Voltage : Nat := 0x200101  -- 24 subs
abbrev G.VoltNominal : Nat := 0x200201  -- 4 subs
abbrev G.VoltNominalAt4 : Nat := 0x200205  -- 4 subs
abbrev G.VoltNominalAt8 : Nat := 0x200209  -- 4 subs
abbrev G.VoltNominalAt12 : Nat := 0x20020D  -- 8 subs
abbrev G.VoltNominalAt20 : Nat := 0x200215
abbrev G.VoltNominalAt21 : Nat := 0x200216
abbrev G.VoltNominalAt22 : Nat := 0x200217
abbrev G.VoltNominalAt23 : Nat := 0x200218
abbrev G.ThermGuardSet : Nat := 0x220001
abbrev G.ThermGuardRelease : Nat := 0x220002
abbrev G.ThermCritical : Nat := 0x220003
abbrev G.VoltWarnPct : Nat := 0x220004
abbrev G.VoltFaultPct : Nat := 0x220005
abbrev G.FaultCause : Nat := 0x220006
abbrev G.ThermGuardActive : Nat := 0x220007
abbrev G.ThermGuardCount : Nat := 0x220008
abbrev G.NoticeSeverity : Nat := 0x220009
abbrev G.ManagementRestarts : Nat := 0x22000A
-- 17_management_and_life_cycle.md R479
abbrev G.LogView : Nat := 0x210001
abbrev G.LogReadSequence : Nat := 0x210002
abbrev G.LogReadData : Nat := 0x210003
abbrev G.LogReadFirst : Nat := 0x210004
abbrev G.LogOldest : Nat := 0x210005
abbrev G.LogNewest : Nat := 0x210006
abbrev G.MirrorMinInterval : Nat := 0x210007
abbrev G.MirrorFailures : Nat := 0x210008
-- 17_management_and_life_cycle.md R480
abbrev G.IndPolicy : Nat := 0x230001
abbrev G.NtcR25 : Nat := 0x230002
abbrev G.NtcBeta : Nat := 0x230003
abbrev G.NtcTemp : Nat := 0x230004
abbrev G.NtcFault : Nat := 0x230005
abbrev G.IndComp : Nat := 0x230006  -- 3 subs
abbrev G.IndCurrent : Nat := 0x230101  -- 4 instances
abbrev G.IndCurrentGrn : Nat := 0x230111  -- 4 instances
abbrev G.IndCurrentBlu : Nat := 0x230121  -- 4 instances
abbrev G.IndCurveMode : Nat := 0x230102  -- 4 instances
abbrev G.IndCurveModeGrn : Nat := 0x230112  -- 4 instances
abbrev G.IndCurveModeBlu : Nat := 0x230122  -- 4 instances
abbrev G.IndCurveParam : Nat := 0x230103  -- 4 instances
abbrev G.IndCurveParamGrn : Nat := 0x230113  -- 4 instances
abbrev G.IndCurveParamBlu : Nat := 0x230123  -- 4 instances
abbrev G.IndCustomCurve : Nat := 0x230104  -- 4 instances
abbrev G.IndCustomCurveGrn : Nat := 0x230114  -- 4 instances
abbrev G.IndCustomCurveBlu : Nat := 0x230124  -- 4 instances
abbrev G.IndTarget : Nat := 0x230105  -- 4 instances
abbrev G.IndTargetGrn : Nat := 0x230115  -- 4 instances
abbrev G.IndTargetBlu : Nat := 0x230125  -- 4 instances
abbrev G.IndFadeTime : Nat := 0x230106  -- 4 instances
abbrev G.IndFadeTimeGrn : Nat := 0x230116  -- 4 instances
abbrev G.IndFadeTimeBlu : Nat := 0x230126  -- 4 instances
abbrev G.IndLevel : Nat := 0x230107  -- 4 instances
abbrev G.IndLevelGrn : Nat := 0x230117  -- 4 instances
abbrev G.IndLevelBlu : Nat := 0x230127  -- 4 instances
-- 17_management_and_life_cycle.md R481
abbrev G.PtpEnable : Nat := 0x261001
abbrev G.PtpProfile : Nat := 0x261002
abbrev G.PtpTransport : Nat := 0x261003
abbrev G.PtpDomain : Nat := 0x261004
abbrev G.PtpRole : Nat := 0x261005
abbrev G.PtpPriority1 : Nat := 0x261006
abbrev G.PtpPriority2 : Nat := 0x261007
abbrev G.PtpLogSyncInterval : Nat := 0x261008
abbrev G.PtpSyncThreshold : Nat := 0x261009
abbrev G.PtpPortState : Nat := 0x26100A
abbrev G.PtpOffset : Nat := 0x26100B
abbrev G.PtpMeanPathDelay : Nat := 0x26100C
abbrev G.PtpGrandmaster : Nat := 0x26100D
abbrev G.PpsDirection : Nat := 0x26100E
abbrev G.PpsWidth : Nat := 0x26100F
abbrev G.PpsWhileUnsync : Nat := 0x261010
abbrev G.PpsLastEdge : Nat := 0x261011
-- 17_management_and_life_cycle.md R482
abbrev G.ProfileActive : Nat := 0x1F0001
abbrev G.ProfileActivate : Nat := 0x1F0002
abbrev G.ProfileStore : Nat := 0x1F0003
abbrev G.ProfileErase : Nat := 0x1F0004
abbrev G.ProfileState : Nat := 0x1F0005
abbrev G.ProfilePinValue : Nat := 0x1F0006
abbrev G.ProfileEntryErrors : Nat := 0x1F0007
abbrev G.ProfileStatus : Nat := 0x1F0101  -- 4 instances
abbrev G.ProfileSize : Nat := 0x1F0102  -- 4 instances
abbrev G.ProfileHash : Nat := 0x1F0103  -- 4 instances
abbrev G.LifeCycleState : Nat := 0x1F2001
abbrev G.LifeCycleRequest : Nat := 0x1F2002
abbrev G.LifeCycleToken : Nat := 0x1F2003
abbrev G.LifeCycleNonce : Nat := 0x1F2004
abbrev G.OwnerKey : Nat := 0x1F2005
abbrev G.ServiceRemaining : Nat := 0x1F2006
abbrev G.LifeCycleError : Nat := 0x1F2007
abbrev G.ProgramData : Nat := 0x1F5001
abbrev G.ProgramControl : Nat := 0x1F5101
abbrev G.ProgramOffset : Nat := 0x1F5201
abbrev G.RunningSlot : Nat := 0x1F5601
abbrev G.RollbackCounter : Nat := 0x1F5602
abbrev G.ProgramStatus : Nat := 0x1F5701
-- 17_management_and_life_cycle.md R483
abbrev G.WipeState : Nat := 0x280001  -- 4 subs
abbrev G.WipeIncomplete : Nat := 0x280005
abbrev G.WipeCount : Nat := 0x280006
abbrev G.WipeAccessRefused : Nat := 0x280007
abbrev G.CellResetRequest : Nat := 0x280008
abbrev G.DeviceResetRequest : Nat := 0x280009
abbrev G.HostResetScope : Nat := 0x28000A
abbrev G.DebugAccess : Nat := 0x28000B

end Sys2Proof.Machine
end

