-- ==== Sys2Proof/Machine/Ops.lean ====
section
/-! DEFINITION. The named operations over the state: keyed stores, entries, counters, event-line pulses (R31), breaches (R72), the log
(R453), and the two ways a command acts (on one cell, on the shared region) with the failure bookkeeping of R424 and R429. -/

namespace Sys2Proof.Machine

/-- The outcome of a command. -/
abbrev Out := Host.Outcome State Fault Refusal

/-! Keyed stores -/

def kvFind {α : Type} (k : Nat) : List (Nat × α) → Option α
  | [] => none
  | e :: es => if e.1 = k then some e.2 else kvFind k es

def kvDel {α : Type} (k : Nat) : List (Nat × α) → List (Nat × α)
  | [] => []
  | e :: es => if e.1 = k then kvDel k es else e :: kvDel k es

def kvIns {α : Type} (k : Nat) (v : α) : List (Nat × α) → List (Nat × α)
  | [] => [(k, v)]
  | e :: es => if k < e.1 then (k, v) :: e :: es else e :: kvIns k v es

def kvPut {α : Type} (k : Nat) (v : α) (es : List (Nat × α)) : List (Nat × α) := kvIns k v (kvDel k es)

/-- A register's value: listed, or its default (R15). -/
def regGet (d : Nat) (k : Nat) (r : Regs) : Nat := (kvFind k r).getD d

/-- Write a register; a value equal to the default is not listed. -/
def regPut (d : Nat) (k v : Nat) (r : Regs) : Regs := if v = d then kvDel k r else kvPut k v r

/-! Entries of a cell -/

/-- The present value of an entry: the staged value of an RWS entry (R13). -/
def Cell.get (c : Cell) (k : Nat) : Nat := regGet (cellDflt k) k c.regs
def Cell.put (c : Cell) (k v : Nat) : Cell := { c with regs := regPut (cellDflt k) k v c.regs }
def Cell.flag (c : Cell) (k : Nat) : Bool := c.get k != 0
def Cell.geti (c : Cell) (w k : Nat) : Int := sgn w (c.get k)
def Cell.puti (c : Cell) (w k : Nat) (x : Int) : Cell := c.put k (raw w x)

/-- The value in force of a Swath-class, Arm-class, Frame-class or Reset-class entry (R14). -/
def Cell.swath (c : Cell) (k : Nat) : Nat := regGet (cellDflt k) k c.act
def Cell.armed (c : Cell) (k : Nat) : Nat := regGet (cellDflt k) k c.arm
def Cell.frame (c : Cell) (k : Nat) : Nat := regGet (cellDflt k) k c.frm
def Cell.inForce (c : Cell) (k : Nat) : Nat := regGet (cellDflt k) k c.rst
def Cell.swathi (c : Cell) (w k : Nat) : Int := sgn w (c.swath k)
def Cell.armedi (c : Cell) (w k : Nat) : Int := sgn w (c.armed k)

/-- A DOMAIN value. -/
def Cell.dom (c : Cell) (k : Nat) (d : List Byte) : List Byte := (kvFind k c.doms).getD d
def Cell.putDom (c : Cell) (k : Nat) (v : List Byte) : Cell := { c with doms := kvPut k v c.doms }

/-- Counters: 32 and 64 bits wrapping, and saturating. -/
def Cell.add32 (c : Cell) (k d : Nat) : Cell := c.put k (wrapAdd 32 (c.get k) d)
def Cell.inc32 (c : Cell) (k : Nat) : Cell := c.add32 k 1
def Cell.add64 (c : Cell) (k d : Nat) : Cell := c.put k (wrapAdd 64 (c.get k) d)
def Cell.inc64 (c : Cell) (k : Nat) : Cell := c.add64 k 1

/-- Every counter of the index range `lo` to `hi` reads its default again (R509). -/
def clearCounters (lo hi : Nat) (r : Regs) : Regs :=
  r.filter (fun e => !(lo ≤ e.1 / 256 && e.1 / 256 ≤ hi && match cellEntry? e.1 with | some x => x.counter | none => false))

def Cell.clearCounters (c : Cell) (lo hi : Nat) : Cell := { c with regs := Machine.clearCounters lo hi c.regs }

/-! Event lines (R31, R32) -/

/-- A line that can pulse: not reserved (R32). -/
def lineExists (line : Nat) : Bool := line ≤ 60 && line != 7

/-- A pulse of `line` is seen in cc `t` by the pattern engine's latches (R393).  Of a line's pulses seen by cc `now`, the first and the
newest are kept; those still to be seen are all kept. -/
def addLatch (now line t : Nat) (ls : List (Nat × Nat)) : List (Nat × Nat) :=
  let mine := ls.filter (fun e => e.1 == line && e.2 < t)
  let past := mine.filter (fun e => e.2 ≤ now)
  ls.filter (fun e => e.1 != line) ++ past.take 1 ++ (past.drop 1).getLast?.toList ++ mine.filter (fun e => now < e.2) ++ [(line, t)] ++
    ls.filter (fun e => e.1 == line && t < e.2)

/-- A pulse of `line` in cycle `t`: one pulse and one count however often the source raises it (R31).  Pulses older than three
cycles are dropped from the record.  The stored count takes a pulse that is due in a later cycle at once; `Cell.eventCount` leaves it out
until its cycle. -/
def Cell.pulseAt (c : Cell) (line t : Nat) : Cell :=
  if !lineExists line || c.fab.pulses.contains (t, line) then c else
  let ps := (c.fab.pulses.filter (fun e => c.now < e.1 + 4)) ++ [(t, line)]
  let live := 1 ≤ c.get K.PatternState && c.get K.PatternState ≤ 3
  let ls := if live then addLatch c.now line (t + 1) c.pat.latches else c.pat.latches
  { c.inc32 (K.EventCount + line) with fab := { c.fab with pulses := ps }, pat := { c.pat with latches := ls } }

def Cell.pulse (c : Cell) (line : Nat) : Cell := c.pulseAt line c.now

/-- A pulse of `line` due in the later cycle `t` does not come about: it is taken out of the record and of the count. -/
def Cell.unpulse (c : Cell) (line t : Nat) : Cell :=
  if !c.fab.pulses.contains (t, line) then c else
  { c.add32 (K.EventCount + line) (2 ^ 32 - 1) with
    fab := { c.fab with pulses := c.fab.pulses.filter (· != (t, line)) }
    pat := { c.pat with latches := c.pat.latches.filter (· != (line, t + 1)) } }

/-- The line pulsed `d` cycles ago, on the present clock or on the one before (R29). -/
def Cell.pulsedAgo (c : Cell) (d line : Nat) : Bool :=
  if c.now < c.fab.carriedAt + d then c.fab.carried.contains (c.fab.carriedAt + d - c.now, line)
  else c.fab.pulses.contains (c.now - d, line)

/-- The consumers of a line see in this cycle the pulse of the cycle before (R31). -/
def Cell.sees (c : Cell) (line : Nat) : Bool := c.pulsedAgo 1 line

/-- EventCount of a line: the pulses up to this cycle; those that are due later do not count yet (R34). -/
def Cell.eventCount (c : Cell) (line : Nat) : Nat :=
  wrapAdd 32 (c.get (K.EventCount + line)) (2 ^ 32 - (c.fab.pulses.filter (fun e => e.2 == line && c.now < e.1)).length)

/-- A cycle of the clock before as a cycle of the present one, where cycle `old` of that clock is `new` of this. -/
def shiftCc (old new t : Nat) : Nat := if old ≤ t then new + (t - old) else new - (old - t)

/-- The fabric goes on from cycle `new` of the other clock, which is cycle `old` of this one: pulses that are due stay due, and those of the
last cycles are still seen (R29). -/
def Fabric.rebase (f : Fabric) (old new : Nat) : Fabric :=
  { pulses := f.pulses.filterMap (fun e => if old ≤ e.1 then some (shiftCc old new e.1, e.2) else none)
    carried := f.pulses.filterMap (fun e => if e.1 < old && old ≤ e.1 + 2 then some (old - e.1, e.2) else none)
    carriedAt := new
    evo0End := f.evo0End.map (shiftCc old new), evo1End := f.evo1End.map (shiftCc old new) }

/-! Messages -/

def Cell.send (c : Cell) (m : Msg) : Cell := { c with out := c.out ++ [m] }
def Cell.log (c : Cell) (code severity : Nat) (data : List Byte) : Cell := c.send (.log code severity data)

/-- Offset of the present cycle in its swath. -/
def Cell.swathOff (c : Cell) : Nat := c.now - c.trk.startCc

/-- A contract breach: once per cause per swath it pulses BREACH, counts, records and logs (R72). -/
def Cell.breach (c : Cell) (cause : Nat) : Cell :=
  if bit c.exe.breachSeen cause then c else
  let c := { c with exe := { c.exe with breachSeen := setBit c.exe.breachSeen cause } }
  let c := (c.pulse 58).inc32 K.BreachCount
  let c := ((c.put K.LastBreachCause cause).put K.LastBreachSwath (c.get K.SwathCount)).put K.LastBreachCc (c.swathOff % 2 ^ 16)
  c.log 0x0601 2 (leBytes 1 cause ++ leBytes 8 (c.get K.SwathCount) ++ leBytes 2 c.swathOff)

/-! Entries of the shared region -/

def Glob.get (g : Glob) (k : Nat) : Nat := regGet (globDflt k) k g.regs
def Glob.put (g : Glob) (k v : Nat) : Glob := { g with regs := regPut (globDflt k) k v g.regs }
def Glob.flag (g : Glob) (k : Nat) : Bool := g.get k != 0
def Glob.geti (g : Glob) (w k : Nat) : Int := sgn w (g.get k)
def Glob.puti (g : Glob) (w k : Nat) (x : Int) : Glob := g.put k (raw w x)
def Glob.inForce (g : Glob) (k : Nat) : Nat := regGet (globDflt k) k g.rst
def Glob.inc32 (g : Glob) (k : Nat) : Glob := g.put k (wrapAdd 32 (g.get k) 1)
def Glob.dom (g : Glob) (k : Nat) (d : List Byte) : List Byte := (kvFind k g.doms).getD d
def Glob.putDom (g : Glob) (k : Nat) (v : List Byte) : Glob := { g with doms := kvPut k v g.doms }

/-- What the PTP clock has gained on time since the last change of its rate, in ns (R458). -/
def Glob.ptpDrift (g : Glob) : Int := g.mgmt.ptp.freq * ((g.nowNs : Int) - g.mgmt.ptp.freqNs) / 2 ^ 32

/-- PTP time in ns: between changes the clock keeps its rate (R458). -/
def Glob.ptpNow (g : Glob) : Nat := ((g.nowNs : Int) + g.ptpOff + g.ptpDrift).toNat

/-- A trigger of an interrupt source that is no event line (R432). -/
def Glob.trigger (g : Glob) (i : IntSrc) : Glob := { g with trigs := g.trigs ++ [i] }

/-- Enter an entry into the log (R453): it takes the next sequence number, a severe entry starts a mirror, and one at or above
NoticeSeverity triggers the Pangobor notice (R455).  Entries that arise during a management restart are not recorded (R447). -/
def Glob.logEntry (g : Glob) (source code severity : Nat) (data : List Byte) : Glob :=
  if g.mgmtDown then g else
  let sync := g.flag G.PtpSynchronised
  let e : LogEntry := ⟨if sync then g.ptpNow else g.nowNs, g.log.nextSeq, source, severity + if sync then 4 else 0, code,
    (data ++ zeros 16).take 16⟩
  let start := severity = 2 && g.log.phase = .idle
  let g := { g with log :=
    { g.log with ring := (e :: g.log.ring).take 8192, nextSeq := wrapAdd 32 g.log.nextSeq 1,
                 phase := if start then .copying else g.log.phase,
                 unmirrored := min 8192 (g.log.unmirrored + 1),
                 copying := if start then min 8192 (g.log.unmirrored + 1) else g.log.copying } }
  if g.get G.NoticeSeverity ≤ severity then g.trigger .notice else g

/-! Ports and answers -/

/-- What a port last heard: 0, or the abort code of R424. -/
def Glob.answer (g : Glob) (p : Port) (code : Nat) : Glob :=
  { g with answers :=
    match p with
    | .pcie => { g.answers with pcie := code }
    | .eth => { g.answers with eth := code }
    | .can => { g.answers with can := code }
    | .pangobor => { g.answers with pangobor := code }
    | .wide => { g.answers with wide := code } }

/-- A failed access is reported only to its port (R424); a failed BAR0 access counts, records and triggers (R429). -/
def Glob.failed (g : Glob) (p : Port) (ix sub code : Nat) : Glob :=
  let g := g.answer p code
  match p with
  | .pcie => ((g.inc32 G.BarErrorCount).put G.BarLastError (code + ix * 2 ^ 32 + sub * 2 ^ 48)).trigger .dictError
  | _ => g

/-- The abort codes of R424 that the commands use. -/
abbrev abortCommand : Nat := 0x05040001
abbrev abortToggle : Nat := 0x05030000
abbrev abortTimeout : Nat := 0x05040000
abbrev abortNoIndex : Nat := 0x06020000
abbrev abortNoSub : Nat := 0x06090011
abbrev abortReadWo : Nat := 0x06010001
abbrev abortWriteRo : Nat := 0x06010002
abbrev abortMethod : Nat := 0x06010000
abbrev abortLength : Nat := 0x06070010
abbrev abortTooLong : Nat := 0x05040005
abbrev abortSegment : Nat := 0x08000020
abbrev abortState : Nat := 0x08000022
abbrev abortValue : Nat := 0x06090030
abbrev abortInternal : Nat := 0x08000000

/-! Cells -/

def allCellNos : List CellNo := [0, 1, 2, 3]

/-- Cell `n`. -/
def State.cell (s : State) (n : CellNo) : Cell := s.cells.get n

/-- The state with cell `n` replaced. -/
def State.setCell (s : State) (n : CellNo) (c : Cell) : State := { s with cells := s.cells.set n c }

/-- The entry index of a cell key: the cell digit in front (R11). -/
def cellIx (n : CellNo) (k : Nat) : Nat := 0x4000 + n.val * 0x1000 + k / 256

/-- Carry a cell's message out. -/
def Glob.deliver (n : CellNo) (g : Glob) (m : Msg) : Glob :=
  match m with
  | .log code sev data => g.logEntry n.val code sev data
  | .epochLoaded => g.put G.EpochLoaded (setBit (g.get G.EpochLoaded) n.val)
  | .epochSkipped => g.put G.EpochSkipped (setBit (g.get G.EpochSkipped) n.val)
  | .dmaAbort => g.trigger (.dmaAbort n)

/-- Cell `n` at the command's instant, its outbox empty. -/
def State.cellAt (s : State) (n : CellNo) (w : When) : Cell :=
  { s.cell n with now := w.cc, nowNs := w.ns, out := [] }

/-- The shared region at an instant. -/
def Glob.at (g : Glob) (ns : Nat) : Glob := { g with nowNs := ns }

/-- Put cell `n` back after a command and carry its messages to the shared region, in their order. -/
def State.close (s : State) (n : CellNo) (w : When) (c : Cell) : State :=
  { (s.setCell n { c with out := [] }) with glob := c.out.foldl (Glob.deliver n) (s.glob.at w.ns) }

/-- An event in cell `n`: everything it does, it does to that cell, but for the messages it leaves (R21, R22).  Events do not
happen in a cell that is held in reset (R490). -/
def onCell (s : State) (n : CellNo) (w : When) (f : Glob → Cell → Cell) : Out :=
  if (s.cell n).held then .next (s.close n w (s.cellAt n w))
  else .next (s.close n w (f (s.glob.at w.ns) (s.cellAt n w)))

/-- The boot ROM found no slot that verifies and stays in control (R463). -/
def Glob.bootRom (g : Glob) : Bool := g.mgmt.boot == .released && bit (g.get G.FaultCause) 3

/-- The arbiter serves a port: once the boot has come that far, and the control ports and Pangobor only while the processor runs (R447,
R463, R488, R494). -/
def Glob.serves (g : Glob) (p : Port) : Bool :=
  match p with
  | .pcie | .wide => g.mgmt.boot == .running || g.bootRom
  | .eth | .can | .pangobor => g.mgmt.boot == .running && !g.mgmtDown

/-- The boot flash is smaller than 256 Mib (R460). -/
def Glob.flashShort (g : Glob) : Bool := g.mgmt.update.flashMib < 256

/-- Index `ix` holds identity entries (R422). -/
def isIdentity (ix : Nat) : Bool := [0x1000, 0x1008, 0x100A, 0x1018, 0x1030, 0x1031].contains ix

/-- The boot ROM accepts update commands only (R463), and with too small a flash nothing but reads of the identity entries (R460). -/
def Glob.refuses (g : Glob) (k : Nat) : Bool := g.bootRom && (g.flashShort || (k != G.ProgramControl && k != G.ProgramData))

/-- A write through a port to entry `k` of cell `n` that has an effect of its own: it leaves a cell and a code, 0 for success; a
failure is reported only to its port (R424).  A cell held in reset refuses it (R490). -/
def onCellRecord (s : State) (n : CellNo) (w : When) (p : Port) (k : Nat) (f : Glob → Cell → Cell × Nat) : Out :=
  if !s.glob.serves p then .next { s with glob := s.glob.at w.ns } else
  let r := if (s.cell n).held then (s.cellAt n w, abortState) else f (s.glob.at w.ns) (s.cellAt n w)
  let s' := s.close n w r.1
  .next { s' with glob := if r.2 = 0 then s'.glob.answer p 0 else s'.glob.failed p (cellIx n k) (k % 256) r.2 }

/-- The same where a failure changes nothing. -/
def onCellPort (s : State) (n : CellNo) (w : When) (p : Port) (k : Nat) (f : Glob → Cell → Except Nat Cell) : Out :=
  onCellRecord s n w p k (fun g c => match f g c with | .ok c' => (c', 0) | .error code => (c, code))

/-- An event in the shared region alone; the power-on reset holds it (R488). -/
def onGlob (s : State) (ns : Nat) (f : Glob → Glob) : Out :=
  if s.glob.mgmt.boot = .off then .next { s with glob := s.glob.at ns } else .next { s with glob := f (s.glob.at ns) }

/-- A write through a port to shared entry `k` that has an effect of its own. -/
def onGlobPort (s : State) (ns : Nat) (p : Port) (k : Nat) (f : Glob → Except Nat Glob) : Out :=
  if !s.glob.serves p then .next { s with glob := s.glob.at ns } else
  match if s.glob.refuses k then .error abortState else f (s.glob.at ns) with
  | .ok g => .next { s with glob := g.answer p 0 }
  | .error code => .next { s with glob := (s.glob.at ns).failed p (k / 256) (k % 256) code }

end Sys2Proof.Machine
end

