-- ==== Sys2Proof/Machine/Timeline.lean ====
section
/-! DEFINITION. Timeline positions and the tracker (R37 to R48, R510, R511), the synthesiser's plan that the REF source reads (R103,
R104), and the epoch strobe (R40 to R42, R46). -/

namespace Sys2Proof.Machine

/-! The synthesis plan (R103) -/

/-- `a / b` rounded to the nearest integer, with halves to even. -/
def rneDiv (a : Int) (b : Nat) : Int :=
  let q := a / (b : Int)
  let r := a % (b : Int)
  if 2 * r < b then q else if (b : Int) < 2 * r then q + 1 else if q % 2 = 0 then q else q + 1

/-- The detector divider: 1, or 2 above 125 MHz (R103). -/
def pfdDiv (fref : Nat) : Nat := if fref ≤ 125000000 then 1 else 2

/-- N in 2^-32: the achievable rate nearest to the request, a tie to the lower rate (R103). -/
def synthN (fs fref : Nat) : Nat :=
  let num := fs * pfdDiv fref * 2 ^ 32
  let den := 8 * fref
  if 2 * (num % den) ≤ den then num / den else num / den + 1

/-- The plan of the values in force: N in 2^-32 and the detector divider (R103). -/
def Cell.planN (c : Cell) : Nat := synthN (c.swath K.SampleRate) (c.swath K.RefFrequency)
def Cell.planP (c : Cell) : Nat := pfdDiv (c.swath K.RefFrequency)

/-- The achieved rate as a fraction in Hz (R103). -/
def Cell.fs (c : Cell) : Nat × Nat := (8 * c.swath K.RefFrequency * c.planN, c.planP * 2 ^ 32)

/-- A plan appears applied: the divider entries and SampleRateApplied for the values in force (R103, R119). -/
def Cell.applyPlan (c : Cell) : Cell :=
  let r := c.fs
  ((c.put K.SynthDivider c.planN).put K.PfdDivider c.planP).put K.SampleRateApplied ((2 * r.1 + r.2) / (2 * r.2))

/-! Positions (R43, R48) -/

/-- pos(k), truncated toward the earlier position (R43). -/
def Line.pos (l : Line) (k : Nat) : Nat :=
  (((l.t0 : Int) + ((k : Int) - l.s0) * l.d / (2 ^ 24 : Nat)) % (2 ^ 96 : Nat)).toNat

/-- pos(k) on the line of the current swath. -/
def Cell.pos (c : Cell) (k : Nat) : Nat := c.trk.line.pos k

/-- The tracker line of the swath that holds sample `k`. -/
def Cell.lineOf (c : Cell) (k : Nat) : Line :=
  if c.trk.line.s0 ≤ k then c.trk.line else
  match c.acc.recent.find? (fun l => l.1.s0 ≤ k) with
  | some l => l.1
  | none => c.trk.prevLine

/-- pos(k) on the line of its own swath. -/
def Cell.posOf (c : Cell) (k : Nat) : Nat := (c.lineOf k).pos k

/-- The first sample of the present cc (R105). -/
def Cell.firstSample (c : Cell) : Nat := 128 * c.now

/-- The last of the `n` samples from `j` whose position is at or before `p` (R48). -/
def Line.markFrom (l : Line) (p j : Nat) : Nat → Nat
  | 0 => j
  | n + 1 => if l.pos (j + 1) ≤ p then l.markFrom p (j + 1) n else j

/-- The mark of position `p` in cc `t`: its sample j (R48). -/
def Line.mark (l : Line) (p t : Nat) : Nat := l.markFrom p (128 * t) 127

/-- The fraction of a mark in 1/256 sample (R48). -/
def Line.fraction (l : Line) (p j : Nat) : Nat := 256 * (p - l.pos j) / (l.pos (j + 1) - l.pos j)

/-- The first sample at or after position `p` when its mark is `j` (R47, R48). -/
def Line.firstAt (l : Line) (p j : Nat) : Nat := if l.pos j = p then j else j + 1

/-! Late writes (R74) -/

/-- The present cc is the hand-over cycle of the swath that ended: the boundary has been worked, and writes that complete now are
late.  With a planned retune no swath follows at once (R119).  DESIGN CHOICE (log entry 163): a clock fault declared in the hand-over cycle
after its boundary was worked stops the swath, and writes behind it are not late; one declared before leaves no boundary. -/
def Cell.isLate (c : Cell) : Bool :=
  (c.exe.running && c.now + 1 == c.trk.startCc) || (c.get K.ClockState == 1 && c.clk.planned && c.now == c.clk.faultCc)

/-- A Swath-class write, a Commit, a SwapRequest or a bank swap request completes; in the hand-over cycle it is late, and a commit
applied at that boundary stays pending (R74). -/
def Cell.lateStage (c : Cell) : Cell :=
  if !c.isLate then c else
  let c := (c.put K.LateStage 1).inc32 K.LateStageCount
  if c.exe.commitCc = some c.now then c.put K.CommitPending 1 else c

/-! The tracker -/

/-- The active source (R38). -/
def Cell.source (c : Cell) : Nat := match c.exe.active with | some m => m.source | none => 0

/-- The length of the current swath in cc (R49, R51). -/
def Cell.swathLen (c : Cell) : Nat := match c.exe.active with | some m => m.swathCc | none => 100

/-- The hand-over cycle of the current swath (R50). -/
def Cell.handOver (c : Cell) : Nat := c.trk.startCc + c.swathLen - 1

/-- A source is lost (R38). -/
def Cell.srcLost (c : Cell) (g : Glob) (src : Nat) : Bool :=
  match src with
  | 1 => !c.flag K.RefActive
  | 2 => !c.flag K.CdrLocked
  | 3 => !g.flag G.PtpSynchronised
  | 4 => c.trk.auxLost
  | _ => false

/-- Whole ticks added to the raw count of a source since the last epoch (R511). -/
def Tracker.offset (t : Tracker) (src : Nat) : Int := (kvFind src t.offsets).getD 0

/-- The last measurement of a source. -/
def Tracker.measOf (t : Tracker) (src : Nat) : Option Meas := t.meas.find? (fun m => m.src == src)

/-- The raw position of sample `k` on a measured source, advanced at its measured rate. -/
def Meas.at (m : Meas) (k : Nat) : Int := (m.pos : Int) + ((k : Int) - m.sample) * (m.num * 2 ^ 32 : Nat) / (m.den : Int)

/-- The programmed rate of a source, in ticks per sample: SAMPLE is 1, REF is fref / Fs (R38, R104). -/
def Cell.programmedRate (c : Cell) (src : Nat) : Option (Nat × Nat) :=
  match src with
  | 0 => some (1, 1)
  | 1 => some (c.planP * 2 ^ 32, 8 * c.planN)
  | _ => none

/-- The rate R38 gives a source that has not been measured; the AUX edge rate is a free value. -/
def Cell.nominalRate (c : Cell) (src : Nat) : Nat × Nat :=
  match src with
  | 0 => (1, 1)
  | 1 => (c.planP * 2 ^ 32, 8 * c.planN)
  | 2 => (c.swath K.SymbolRate * (c.fs).2, (c.fs).1)
  | 3 => (1000000000 * (c.fs).2, (c.fs).1)
  | _ => (Config.auxNominalRate c.trk.line.s0, 2 ^ 56)

/-- D in 2^-56 from a rate, rounded with halves to even (R44). -/
def rate56 (r : Nat × Nat) : Int := rneDiv ((r.1 : Int) * (2 ^ 56 : Nat)) r.2

/-- The correction term e * 2^-shift / N, clamped to ±Dm * 2^-10 and rounded to 2^-56 (R44). -/
def correction56 (e : Int) (shift n : Nat) (dm : Nat × Nat) : Int :=
  let lim : Int := dm.1 * (2 ^ 46 : Nat)
  let num : Int := e * (2 ^ 24 : Nat) * dm.2
  let den : Nat := 2 ^ shift * n
  if lim * den < num then rneDiv lim dm.2
  else if num < -(lim * den) then rneDiv (-lim) dm.2
  else rneDiv (e * (2 ^ 24 : Nat)) den

/-- A measured position in 2^-32 tick, after the resolution of R510: the phase-detector error of REF, against the last measurement carried
on at the synthesiser's ratio, in steps of 0.25 ps; UI in 1/1,024 UI; PTP in 2^-16 ns; AUX in 0.5 ps since its last counted edge, at the
measured rate, behind the edges counted (R39).  DESIGN CHOICE (log entry 123): a step takes the nearest value, halves to even. -/
def Cell.measPos (c : Cell) (m : MeasIn) (s0' : Nat) : Int :=
  match m.src with
  | 1 =>
    let fref := c.swath K.RefFrequency
    let r := (c.planP * 2 ^ 32, 8 * c.planN)
    let base : Int := match c.trk.measOf 1 with
      | some o => (o.pos : Int) * (2 ^ 32 : Nat) + ((s0' : Int) - o.sample) * (r.1 * 2 ^ 64 : Nat) / (r.2 : Int)
      | none => (s0' * r.1 * 2 ^ 64 / r.2 : Nat)
    let steps := rneDiv (((m.pos64 : Int) - base) * (4000000000000 : Nat)) (fref * 2 ^ 64)
    rneDiv (base * (4000000000000 : Nat) + steps * (fref * 2 ^ 64 : Nat)) (4000000000000 * 2 ^ 32)
  | 2 => rneDiv m.pos64 (2 ^ 54) * (2 ^ 22 : Nat)
  | 3 => rneDiv m.pos64 (2 ^ 48) * (2 ^ 16 : Nat)
  | 4 =>
    let step : Nat × Nat := (m.num * (c.fs).1, m.den * (c.fs).2 * 2000000000000)
    let steps := rneDiv ((m.pos64 * step.2 : Nat) : Int) step.1
    (c.trk.auxTicks * 2 ^ 32 : Nat) + rneDiv (steps * (step.1 : Nat)) (step.2 * 2 ^ 32)
  | _ => rneDiv m.pos64 (2 ^ 32)

/-- A measured advance in 2^-32 tick, after the resolution of its source (R510). -/
def measAdvance (src num : Nat) : Int :=
  match src with
  | 2 => rneDiv num (2 ^ 54) * (2 ^ 22 : Nat)
  | 3 => rneDiv num (2 ^ 48) * (2 ^ 16 : Nat)
  | _ => rneDiv num (2 ^ 32)

/-- A measurement as the tracker keeps it (R510). -/
def Cell.keepMeas (c : Cell) (m : MeasIn) (s0' : Nat) : Meas :=
  ⟨m.src, s0', (c.measPos m s0').toNat, (measAdvance m.src m.num).toNat, m.den * 2 ^ 32⟩

/-- The measurements after an update: the new ones replace those of the same source. -/
def mergeMeas (old : List Meas) (new : List Meas) : List Meas :=
  new ++ old.filter (fun m => !new.any (fun x => x.src == m.src))

/-- The length of the next swath as cc -4 knows it: a swap that is pending then counts (log entry 21). -/
def Cell.nextLen (c : Cell) : Nat :=
  match c.flag K.SwapPending, c.exe.staged with
  | true, some m => m.swathCc
  | _, _ => c.swathLen

/-- The position, residual and rate the tracker fixes for the next swath (R44, R45): while the source is lost the residual is 0 and
the rate keeps its last value.  After an AUX edge that was not counted the residual lies beyond any lock limit (R39). -/
def Cell.fixLine (c : Cell) (g : Glob) : Line × Int :=
  let s0' := c.trk.line.s0 + 128 * c.swathLen
  let t0' := c.pos s0'
  let src := c.source
  let n := 128 * c.nextLen
  let shift := c.swath K.TrackerShift
  let dm : Nat × Nat := match c.programmedRate src, c.trk.measOf src with
    | some r, _ => r
    | none, some m => (m.num, m.den)
    | none, none => (c.trk.line.d, 2 ^ 56)
  let e : Int :=
    if src = 0 || c.srcLost g src then 0 else
    match c.trk.measOf src with
    | some m =>
      if src = 4 && c.trk.auxFast then
        let x := Config.auxResidual s0'
        if 0 ≤ x then x + (2 ^ 32 : Nat) else x - (2 ^ 32 : Nat)
      else if m.sample = s0' then (m.pos : Int) + c.trk.offset src * (2 ^ 32 : Nat) - t0' else 0
    | none => 0
  let d' := if src = 0 then (2 ^ 56 : Nat) else (rate56 dm + correction56 e shift n dm).toNat
  (⟨s0', t0', d'⟩, e)

/-- TIMELINE_LOCK_CHANGE: four consecutive boundaries within the limit set TimelineLocked, two beyond it clear it (R45). -/
def Cell.judgeLock (c : Cell) (g : Glob) (e : Int) : Cell :=
  if c.srcLost g c.source then { c with trk := { c.trk with inLimit := 0, beyond := 0 } } else
  if e.natAbs ≤ c.swath K.TrackerLockLimit then
    let n := min 4 (c.trk.inLimit + 1)
    let c := { c with trk := { c.trk with inLimit := n, beyond := 0 } }
    if n = 4 then c.put K.TimelineLocked 1 else c
  else
    let n := min 2 (c.trk.beyond + 1)
    let c := { c with trk := { c.trk with inLimit := 0, beyond := n } }
    if n = 2 then c.put K.TimelineLocked 0 else c

/-- The tracker's part of TRACKER_UPDATE, in cc -4 of a running swath (R44): every present source is measured, a lost one keeps its last
measurement (R45, R510). -/
def Cell.trackerFix (c : Cell) (g : Glob) (ms : List MeasIn) : Cell :=
  let s0' := c.trk.line.s0 + 128 * c.swathLen
  let present := ms.filter (fun m => !c.srcLost g m.src)
  let c := { c with trk := { c.trk with meas := mergeMeas c.trk.meas (present.map (fun m => c.keepMeas m s0')) } }
  let (l, e) := c.fixLine g
  let c := { c with trk := { c.trk with nextLine := some (l, e), auxFast := false } }
  c.judgeLock g e

/-- An edge of the auxiliary comparator as the tracker sees it (R38, R39): one closer than 4 cc to the last counted one is not counted.
DESIGN CHOICE (log entry 124): every comparator edge qualifies, rising or falling. -/
def Cell.auxTick (c : Cell) : Cell :=
  let near := match c.trk.auxEdge with | some t => decide (c.now < t + 4) | none => false
  if near then { c with trk := { c.trk with auxSeen := true, auxFast := true } }
  else { c with trk := { c.trk with auxSeen := true, auxEdge := some c.now, auxTicks := c.trk.auxTicks + 1 } }

/-- No edge came during two consecutive swaths, and none since (R38). -/
def Cell.auxGone (c : Cell) : Bool := c.trk.auxQuiet == 2 && !c.trk.auxSeen

/-- A whole swath ends: with an edge in it the count of quiet ones starts again. -/
def Cell.auxSwath (c : Cell) : Cell :=
  { c with trk := { c.trk with auxSeen := false, auxQuiet := if c.trk.auxSeen then 0 else min 2 (c.trk.auxQuiet + 1) } }

/-- The source the active image selects is lost: SourceLost sets, lock clears and holdover starts (R45). -/
def Cell.loseSource (c : Cell) : Cell :=
  { (c.put K.SourceLost 1).put K.TimelineLocked 0 with trk := { c.trk with inLimit := 0, beyond := 0 } }

/-- SOURCE_LOST: REF, UI and PTP are lost as their own status says; AUX when no edge came for two swaths (R38, R45). -/
def execSourceLost (n : CellNo) (w : When) (src : Nat) (s : State) : Out :=
  onCell s n w (fun g c =>
    let c := if src = 4 && c.auxGone then { c with trk := { c.trk with auxLost := true } } else c
    if c.source = src && c.srcLost g src then c.loseSource else c)

/-- SOURCE_RETURN: the source is present again; the residual is slewed out through D' from the next update (R45). -/
def execSourceReturn (n : CellNo) (w : When) (src : Nat) (s : State) : Out :=
  onCell s n w (fun g c =>
    let c := if src = 4 && !c.auxGone then { c with trk := { c.trk with auxLost := false } } else c
    if c.source = src && !c.srcLost g src then c.put K.SourceLost 0 else c)

/-! The epoch strobe (R40 to R42, R46) -/

/-- The whole tick at or after a position in 2^-32 tick. -/
def ceilTick (p : Nat) : Nat := ceilDiv p (2 ^ 32)

/-- The sample a strobe identifies in a cell (R40, R41): on the bypass clock the gap index, or sample 0 after a cell reset. -/
def Cell.strobeSample (c : Cell) (a : StrobeAt) : Nat :=
  if c.clk.onFcc then 128 * a.cc + a.sub else
  match c.clk.tLast with
  | none => 0
  | some t => 128 * (t + 1 + ceilDiv (a.cc * (c.fs).1) ((c.fs).2 * 128 * 500000000))

/-- A selected idle cell takes the strobe: the tick that will receive the value is fixed now, for the active source and for every
other present source except PTP (R40). -/
def Cell.takeStrobe (c : Cell) (g : Glob) (value : Nat) (a : StrobeAt) : Cell :=
  let k := c.strobeSample a
  let tick := ceilTick (c.pos k)
  let others := (c.trk.meas.filter (fun m => m.src != 3 && !c.srcLost g m.src)).map
    (fun m => (m.src, ceilTick ((m.at k + c.trk.offset m.src * (2 ^ 32 : Nat)).toNat)))
  let others := kvPut 0 ((k : Int) + c.trk.offset 0).toNat others
  let others := if c.source = 3 then others else kvPut c.source tick others
  { c with trk := { c.trk with epoch := some ⟨value, tick, others⟩ } }

/-- The strobe at one cell: taken when idle, skipped otherwise (R41). -/
def Cell.strobe (c : Cell) (g : Glob) (value : Nat) (a : StrobeAt) : Cell :=
  if c.held then c else if c.get K.ArmState = 0 then c.takeStrobe g value a else c.send .epochSkipped

/-- A cell that leaves idle does not take an epoch that waits for its boundary (R41). -/
def Cell.skipEpoch (c : Cell) : Cell :=
  if c.trk.epoch.isNone then c else { c with trk := { c.trk with epoch := none } }.send .epochSkipped

/-- A line moved by whole ticks. -/
def Line.shift (l : Line) (ticks : Int) : Line :=
  { l with t0 := (((l.t0 : Int) + ticks * (2 ^ 32 : Nat)) % (2 ^ 96 : Nat)).toNat }

/-- EPOCH_LOAD: the pending epoch takes effect at a boundary of an idle cell; a cell out of idle skips it (R41, R46).  Every source's
count moves by its own tick; the answer is by how much the line of the source then active moves, none for PTP, which takes no epoch from
the device (R39, R511). -/
def Cell.loadEpoch (c : Cell) : Cell × Int :=
  match c.trk.epoch with
  | none => (c, 0)
  | some ep =>
    if c.get K.ArmState ≠ 0 then (c.skipEpoch, 0) else
    let offs := ep.others.foldl (fun os o => kvPut o.1 (c.trk.offset o.1 + (ep.value : Int) - o.2) os) c.trk.offsets
    let c : Cell := { c with trk := { c.trk with offsets := offs, epoch := none } }
    (c.send .epochLoaded, if c.source = 3 then 0 else (ep.value : Int) - ep.tick)

/-- A selected cell is armed (R41). -/
def State.anySelectedArmed (s : State) (mask : Nat) : Bool :=
  (bit mask 0 && (s.cell 0).get K.ArmState != 0) || (bit mask 1 && (s.cell 1).get K.ArmState != 0) ||
  (bit mask 2 && (s.cell 2).get K.ArmState != 0) || (bit mask 3 && (s.cell 3).get K.ArmState != 0)

def strobeOf (t : Strobe4) (n : CellNo) : StrobeAt :=
  match n with
  | 0 => t.c0
  | 1 => t.c1
  | 2 => t.c2
  | 3 => t.c3

/-- The strobe in one selected cell of the state. -/
def State.strobeCell (t : Strobe4) (ns : Nat) (s : State) (n : CellNo) : State :=
  if bit (s.glob.get G.EpochCellMask) n.val
  then s.close n ⟨ns, (s.cell n).now⟩ (({ s.cell n with out := [] }).strobe s.glob (s.glob.get G.EpochValue) (strobeOf t n))
  else s

/-- The strobe in every cell EpochCellMask selects (R40).  DESIGN CHOICE (log entry 162): for a strobe of PTP_PPS the mask and EpochValue
are taken at the edge, not at the write of EpochStrobe. -/
def State.strobeAll (s : State) (ns : Nat) (t : Strobe4) : State :=
  [(0 : CellNo), 1, 2, 3].foldl (State.strobeCell t ns) s

/-- EPOCH_STROBE: refused while a selected cell is armed; strobes at once, or waits for the PTP_PPS edge (R40, R41).  The write clears
EpochLoaded and EpochSkipped (R77). -/
def execEpochStrobe (ns : Nat) (p : Port) (t : Strobe4) (s : State) : Out :=
  if !s.glob.serves p then .next { s with glob := s.glob.at ns } else
  let s := { s with glob := s.glob.at ns }
  if s.glob.refuses G.EpochStrobe || s.anySelectedArmed (s.glob.get G.EpochCellMask)
  then .next { s with glob := s.glob.failed p (G.EpochStrobe / 256) (G.EpochStrobe % 256) abortState }
  else
    let s := { s with glob := ((s.glob.put G.EpochLoaded 0).put G.EpochSkipped 0).answer p 0 }
    if s.glob.get G.EpochStrobeSource = 1 then .next { s with glob := s.glob.put G.EpochPending 1 }
    else .next (s.strobeAll ns t)

/-- A rising edge of PTP_PPS, in or out, serves a pending strobe (R40, R459). -/
def State.ppsStrobe (s : State) (ns : Nat) (t : Strobe4) : State :=
  if s.glob.flag G.EpochPending then { s with glob := s.glob.put G.EpochPending 0 }.strobeAll ns t else s

/-- PPS_INPUT_EDGE: with PpsDirection input the edge is time-stamped and serves a pending strobe (R459). -/
def execPpsInputEdge (ns ptpNs : Nat) (t : Strobe4) (s : State) : Out :=
  let s := { s with glob := s.glob.at ns }
  if s.glob.mgmt.boot = .running && s.glob.get G.PpsDirection = 1
  then .next ({ s with glob := s.glob.put G.PpsLastEdge (ptpNs % 2 ^ 64) }.ppsStrobe ns t)
  else .next s

end Sys2Proof.Machine
end

