-- ==== Sys2Proof/Machine/Events.lean ====
section
/-! DEFINITION. The event table's executor: which instance of an entry fires in a cc, the passed instances, the timeline windows
(R47, R48, R59 to R62). -/

namespace Sys2Proof.Machine

/-- Position of instance `i` of an entry whose instance 0 lies at `origin` (R59). -/
def EventEntry.at (e : EventEntry) (origin i : Nat) : Nat := origin + i * e.period

/-- The entry still has an instance `i` (R59). -/
def EventEntry.hasInst (e : EventEntry) (i : Nat) : Bool :=
  if e.period = 0 then i == 0 else e.count == 0 || i < e.count

def EventEntry.enabled (e : EventEntry) : Bool := bit e.flags 0

/-- How many instances of the entry lie before position `cur` (R62). -/
def EventEntry.before (e : EventEntry) (origin cur : Nat) : Nat :=
  if cur ≤ origin then 0
  else if e.period = 0 then 1
  else if e.count = 0 then ceilDiv (cur - origin) e.period
  else min e.count (ceilDiv (cur - origin) e.period)

/-- Pass every instance before `cur`: the run goes on with the first at or after it, and the passed ones are counted (R62). -/
def EventRun.pass (r : EventRun) (e : EventEntry) (cur : Nat) : EventRun × Nat :=
  match r.origin with
  | none => (r, 0)
  | some o => if e.enabled then ({ r with next := max r.next (e.before o cur) }, e.before o cur - r.next) else (r, 0)

/-- The position instances of an entry must lie before: `z`, the end of the acquisition, for a Base-2 entry (R59). -/
def EventEntry.bound (e : EventEntry) (z : Option Nat) (cur : Nat) : Nat :=
  match z with
  | some z => if e.base = 2 then min cur z else cur
  | none => cur

/-- Pass the instances of every run before `cur`; the total goes to EventsMissed (R62). -/
def passRuns (z : Option Nat) (cur : Nat) : List EventEntry → List EventRun → List EventRun × Nat
  | e :: es, r :: rs =>
    let (r', n) := r.pass e (e.bound z cur)
    let (rs', m) := passRuns z cur es rs
    (r' :: rs', n + m)
  | _, rs => (rs, 0)

def Cell.events (c : Cell) : List EventEntry := match c.exe.active with | some m => m.events | none => []

def cfgOf (r : Regs) (k : Nat) : Nat := regGet (cellDflt k) k r

/-- The end sample of an acquisition as far as it is known: a stop, or the end of the segment that a recorded trigger makes its last
(R219, R228). -/
def Acq.endSample (q : Acq) : Option Nat :=
  let last := cfgOf q.cfg K.ArmMode == 0 || (cfgOf q.cfg K.SegmentLimit != 0 && cfgOf q.cfg K.SegmentLimit ≤ q.segments + 1)
  let seg := match q.phase, q.trig with
    | .postfill, some t => if last && !q.closed then some (t.sample + cfgOf q.cfg K.PostTriggerSamples) else none
    | _, _ => none
  match q.stop, seg with
  | some (z, _), some e => some (min z e)
  | some (z, _), none => some z
  | none, e => e

/-- pos(Z) of the newest acquisition, which bounds the Base-2 entries (R59). -/
def Cell.baseEnd (c : Cell) : Option Nat := (c.trg.acqs.getLast?.bind Acq.endSample).map c.posOf

def Cell.passEvents (c : Cell) (cur : Nat) : Cell :=
  let (rs, n) := passRuns c.baseEnd cur c.events c.exe.runs
  let c : Cell := { c with exe := { c.exe with runs := rs } }
  c.add32 K.EventsMissed n

/-- The run of an entry when its image becomes active at position `act` (R59): Base 0 and Base 1 entries have their origin, Base 2
entries wait for an arming. -/
def EventEntry.start (act : Nat) (e : EventEntry) : EventRun :=
  match e.base with
  | 0 => ⟨some e.pos, 0⟩
  | 1 => ⟨some (act + e.pos), 0⟩
  | _ => ⟨none, 0⟩

/-- The event runs of a newly active image; instances before the activation position are passed (R62, R75). -/
def Cell.startEvents (c : Cell) (act : Nat) : Cell :=
  let c : Cell := { c with exe := { c.exe with runs := c.events.map (EventEntry.start act), activation := act } }
  c.passEvents act

/-- Base-2 entries start with an arming at arm stamp `stamp`; instances before position `cur` are passed (R59). -/
def armRuns (stamp cur : Nat) : List EventEntry → List EventRun → List EventRun × Nat
  | e :: es, r :: rs =>
    let (rs', m) := armRuns stamp cur es rs
    if e.base = 2 then
      let (r', n) := EventRun.pass ⟨some (stamp + e.pos), 0⟩ e cur
      (r' :: rs', n + m)
    else (r :: rs', m)
  | _, rs => (rs, 0)

def Cell.armEvents (c : Cell) (stamp cur : Nat) : Cell :=
  let (rs, n) := armRuns stamp cur c.events c.exe.runs
  let c : Cell := { c with exe := { c.exe with runs := rs } }
  c.add32 K.EventsMissed n

/-- Base-2 entries end with the acquisition (R59). -/
def idleRuns : List EventEntry → List EventRun → List EventRun
  | e :: es, r :: rs => (if e.base = 2 then ⟨none, 0⟩ else r) :: idleRuns es rs
  | _, rs => rs

def Cell.idleEvents (c : Cell) : Cell := { c with exe := { c.exe with runs := idleRuns c.events c.exe.runs } }

/-- An instance that fires: its position, mark sample, fraction, the first sample at or after the position, and the entry's Param. -/
structure Fired where
  pos : Nat
  sample : Nat
  frac : Nat
  first : Nat
  param : Nat
deriving DecidableEq, Repr

def setRun : List EventRun → Nat → EventRun → List EventRun
  | [], _, _ => []
  | _ :: rs, 0, r => r :: rs
  | x :: rs, i + 1, r => x :: setRun rs i r

/-- The position of an entry's next instance, when it lies in the sample window of this cc, and before pos(Z) for a Base-2 entry (R48,
R59, R61). -/
def Cell.duePos (c : Cell) (e : EventEntry) (r : EventRun) : Option Nat :=
  match r.origin with
  | none => none
  | some o =>
    if e.enabled && e.hasInst r.next && c.pos c.firstSample ≤ e.at o r.next && e.at o r.next < c.pos (c.firstSample + 128) &&
       e.at o r.next < e.bound c.baseEnd (e.at o r.next + 1)
    then some (e.at o r.next) else none

/-- At one position STOP, WINDOW_CLOSE and ACC_GATE_OFF apply before the others (R61). -/
def EventEntry.rank (e : EventEntry) : Nat := if e.action = 2 || e.action = 4 || e.action = 0x0A then 0 else 1

/-- An instance of this cc among the entries from index `i` on applies before the one of entry `idx` at position `p` with this rank: by
position, then by rank, then by index (R61). -/
def Cell.earlierDue (c : Cell) (p rank idx : Nat) : Nat → List EventEntry → List EventRun → Bool
  | i, e :: es, r :: rs =>
    (match c.duePos e r with
     | some q => q < p || (q == p && (e.rank < rank || (e.rank == rank && i < idx)))
     | none => false) || c.earlierDue p rank idx (i + 1) es rs
  | _, _, _ => false

/-- The next instance of entry `idx`, when it is the one that applies next in this cc (R48, R61). -/
def Cell.dueEvent (c : Cell) (idx action : Nat) : Option (EventEntry × EventRun × Nat) :=
  if !c.exe.running || c.get K.ClockState != 0 then none else
  match c.events[idx]?, c.exe.runs[idx]? with
  | some e, some r =>
    match c.duePos e r with
    | none => none
    | some p => if e.action == action && !c.earlierDue p e.rank idx 0 c.events c.exe.runs then some (e, r, p) else none
  | _, _ => none

/-- Move entry `idx` past the instances of this cc: an entry fires at most once per cc, and further instances that fall in the cc are
dropped and counted (R61). -/
def Cell.advanceRun (c : Cell) (idx : Nat) (e : EventEntry) (r : EventRun) : Cell :=
  let (r', n) := EventRun.pass { r with next := r.next + 1 } e (e.bound c.baseEnd (c.pos (c.firstSample + 128)))
  let c : Cell := { c with exe := { c.exe with runs := setRun c.exe.runs idx r' } }
  c.add32 K.EventsMissed n

/-- The LastEvent entries record an instance: its entry, position, mark and fraction (R76). -/
def Cell.noteEvent (c : Cell) (idx p j f : Nat) : Cell :=
  (((c.put K.LastEventIndex idx).put K.LastEventPosition p).put K.LastEventSample j).put K.LastEventFraction f

/-- The instance `a`, resolved ahead, has been reached: its cc is over, or is this one and no instance that applies earlier in it still has
to fire (R61). -/
def Cell.aheadDue (c : Cell) (a : Ahead) : Bool :=
  a.cc < c.now || (a.cc == c.now && !c.earlierDue a.pos 1 a.idx 0 c.events c.exe.runs)

/-- The instances resolved ahead that have been reached: the LastEvent entries and EventsMissed take them in their order (R61, R76). -/
def Cell.settleAhead (c : Cell) : Cell :=
  let done := c.exe.ahead.filter c.aheadDue
  let c : Cell := { c with exe := { c.exe with ahead := c.exe.ahead.filter (fun a => !c.aheadDue a) } }
  done.foldl (fun c a => (c.noteEvent a.idx a.pos a.sample a.frac).add32 K.EventsMissed a.missed) c

/-- The executor stops in this cc: the instances resolved for a later one are passed, their line does not pulse, and they count as missed
(R62, R71). -/
def Cell.dropAhead (c : Cell) : Cell :=
  let c := c.settleAhead
  let gone := c.exe.ahead.filter (fun a => c.now < a.cc)
  let c : Cell := { c with exe := { c.exe with ahead := c.exe.ahead.filter (fun a => a.cc ≤ c.now) } }
  gone.foldl (fun c a =>
    let c := c.add32 K.EventsMissed (1 + a.missed)
    match c.events[a.idx]? with
    | some e => if e.line = 255 then c else c.unpulse (20 + e.line) a.cc
    | none => c) c

/-- The instance of entry `idx` with this action that is due fires: its line pulses in this cc and the LastEvent entries record it
(R61, R76). -/
def Cell.fireEvent (c : Cell) (idx action : Nat) : Option (Cell × Fired) :=
  match c.settleAhead.dueEvent idx action with
  | none => none
  | some (e, r, p) =>
    let c := c.settleAhead.advanceRun idx e r
    let j := c.trk.line.mark p c.now
    let f := c.trk.line.fraction p j
    let c := if e.line = 255 then c else c.pulse (20 + e.line)
    let c := c.noteEvent idx p j f
    some (c, ⟨p, j, f, c.trk.line.firstAt p j, e.param⟩)

/-- A command of the event table: nothing happens when no instance of the entry is due, or one that applies earlier in this cc has not
fired yet (R61). -/
def onEvent (s : State) (n : CellNo) (w : When) (idx action : Nat) (f : Glob → Cell → Fired → Cell) : Out :=
  onCell s n w (fun g c =>
    match c.fireEvent idx action with
    | none => c
    | some (c, e) => f g c e)

/-- PULSE: the line only (R60). -/
def execPulse (n : CellNo) (w : When) (idx : Nat) (s : State) : Out :=
  onEvent s n w idx 0 (fun _ c _ => c)

/-! Timeline windows (R47) -/

/-- Windows closed before this position are forgotten: the one 64 cc back. -/
def Cell.windowHorizon (c : Cell) : Nat := c.pos (c.firstSample - 8192)

def Cell.pruneWindows (c : Cell) : List WindowSpan :=
  c.exe.windows.filter (fun x => match x.stop with | some e => c.windowHorizon ≤ e | none => true)

/-- Window `i` is open now. -/
def Cell.windowOpen (c : Cell) (i : Nat) : Bool := c.exe.windows.any (fun x => x.window == i && x.stop.isNone)

/-- Position `p` lies inside window `i`: start ≤ p < end (R47). -/
def Cell.inWindow (c : Cell) (i p : Nat) : Bool :=
  c.exe.windows.any (fun x => x.window == i && x.start ≤ p && match x.stop with | some e => p < e | none => true)

def Cell.openWindow (c : Cell) (i p : Nat) : Cell :=
  if c.windowOpen i then c else { c with exe := { c.exe with windows := c.pruneWindows ++ [⟨i, p, none⟩] } }

def Cell.closeWindow (c : Cell) (i p : Nat) : Cell :=
  let ws := c.pruneWindows.map (fun x => if x.window == i && x.stop.isNone then { x with stop := some p } else x)
  { c with exe := { c.exe with windows := ws } }

/-- WINDOW_OPEN: the window named by Param opens at the instance's position, sample-exact (R60). -/
def execWindowOpen (n : CellNo) (w : When) (idx : Nat) (s : State) : Out :=
  onEvent s n w idx 3 (fun _ c e => c.openWindow e.param e.pos)

end Sys2Proof.Machine
end

