-- ==== Sys2Proof/Machine/Hayward.lean ====
section
/-! DEFINITION. The hayward token and the maintenance windows (R65, R414 to R418): who may be granted, the grant, its end. -/

namespace Sys2Proof.Machine

/-- cc of window an activity needs at its request, and the longest it may hold the token (R414). -/
def maintNeed (a : Nat) : Nat := [500, 400, 300, 100, 100].getD a 0
def Cell.maintLimit (c : Cell) (a : Nat) : Nat := if a = 4 then c.get K.ScrubGrantCc else [500, 400, 300, 500].getD a 0

/-- The maintenance windows of the present swath with their indices: those of the image that exist in it, or under the idle schedule
one window for every activity (R51, R65). -/
def Cell.windowsNow (c : Cell) : List (Nat × MaintWindow) :=
  match c.exe.active with
  | none => [(0, ⟨0, 100, 1, 0, 31⟩)]
  | some m => ((List.range m.windows.length).zip m.windows).filter (fun w => c.get K.SwathCount % w.2.period == w.2.phase)

/-- The window the present cc lies in whose mask holds the activity, with the cc it has left. -/
def Cell.windowFor (c : Cell) (a : Nat) : Option (Nat × Nat) :=
  (c.windowsNow.find? (fun w => bit w.2.mask a && w.2.start ≤ c.swathOff && c.swathOff < w.2.start + w.2.len)).map
    (fun w => (w.1, w.2.start + w.2.len - c.swathOff))

/-- The pending entry of an activity (R135, R236, R240, R293, R295). -/
def Cell.maintPending (c : Cell) (a : Nat) : Bool :=
  match a with
  | 0 => c.flag K.RetrainPending
  | 1 => c.flag K.RecalPending
  | 2 => c.flag K.SkewPending
  | 3 => c.flag K.TdcPending
  | 4 => c.flag K.ScrubPending
  | _ => false

/-- The activity requests the token in this cc: pending, in a window that holds its bit with enough cc left, and not granted in this
window occurrence before; scrub may come again after a yield (R415, R416). -/
def Cell.requestsToken (c : Cell) (a : Nat) : Bool :=
  c.maintPending a && !(a == 3 && c.plc.toggle) &&
  match c.windowFor a with
  | none => false
  | some (i, left) => maintNeed a ≤ left && (!c.hay.granted.contains (a, i) || (a == 4 && c.hay.scrubYielded))

/-- The activity the free token goes to: the first requesting one in the order of R414. -/
def Cell.tokenWinner (c : Cell) : Option Nat := [0, 1, 2, 3, 4].find? c.requestsToken

def Cell.waitOf (c : Cell) (a : Nat) : MaintWait := (c.hay.waits.toList[a]?).getD ⟨none, 0, 0, 0⟩

def Cell.setWait (c : Cell) (a : Nat) (m : MaintWait) : Cell :=
  if h : a < 5 then { c with hay := { c.hay with waits := c.hay.waits.set a m } } else c

/-- A wait goes on from cycle `new` of the other clock, which is cycle `old` of the present one: it counts cycles of both (R29). -/
def MaintWait.rebase (old new : Nat) (m : MaintWait) : MaintWait :=
  { m with since := m.since.map (· + ((new : Int) - old)), pendSince := m.pendSince + ((new : Int) - old) }

/-- An activity starts to wait in this cc, unless it waits already. -/
def Cell.startWait (c : Cell) (a : Nat) : Cell :=
  let m := c.waitOf a
  if m.since.isSome then c else c.setWait a { m with since := some c.now, passed := 0, before := 0 }

/-- The windows of the present swath that ended at offsets after `passedTo` and up to `upTo` count as passed for every activity below the
argument that waited in them without a grant (R417, R419). -/
def Cell.countPassed (c : Cell) (upTo : Nat) : Nat → Cell
  | 0 => c
  | k + 1 =>
    let c := c.countPassed upTo k
    let m := c.waitOf k
    match m.since with
    | none => c
    | some t =>
      let n := (c.windowsNow.filter (fun w => bit w.2.mask k && c.hay.passedTo < w.2.start + w.2.len && w.2.start + w.2.len ≤ upTo &&
        t < (c.trk.startCc + w.2.start + w.2.len : Nat) && !c.hay.granted.contains (k, w.1))).length
      (c.setWait k { m with passed := m.passed + n }).add32 (K.WindowsPassed + k) n

/-- The windows that ended at offsets up to `upTo` are counted. -/
def Cell.settlePassed (c : Cell) (upTo : Nat) : Cell :=
  if !c.exe.running || upTo ≤ c.hay.passedTo then c else
  let c := c.countPassed upTo 5
  { c with hay := { c.hay with passedTo := upTo } }

/-- The windows that ended before the present cc are counted. -/
def Cell.passedSoFar (c : Cell) : Cell := c.settlePassed c.swathOff

/-- An activity waits no longer. -/
def Cell.endWait (c : Cell) (a : Nat) : Cell :=
  let c := c.passedSoFar
  c.setWait a { c.waitOf a with since := none, passed := 0, before := 0 }

/-- The wait of an activity in cc, counted to this cc. -/
def Cell.waitCc (c : Cell) (a : Nat) : Nat := match (c.waitOf a).since with | some t => ((c.now : Int) - t).toNat | none => 0

/-- The cc since the pending entry of an activity was set. -/
def Cell.pendCc (c : Cell) (a : Nat) : Nat := ((c.now : Int) - (c.waitOf a).pendSince).toNat

/-- Every waiting activity notes that `a` was granted. -/
def Cell.noteGrant (c : Cell) (a : Nat) : Nat → Cell
  | 0 => c
  | k + 1 =>
    let c := c.noteGrant a k
    let m := c.waitOf k
    if m.since.isSome && k != a then c.setWait k { m with before := setBit m.before a } else c

/-- The grant of R415 to activity `a`: MAINT_GRANT pulses, the counters record it, and a wait of more than 0 cc is logged (R417). -/
def Cell.grantToken (c : Cell) (a win left : Nat) : Cell :=
  let c := c.passedSoFar
  let wait := c.waitCc a
  let m := c.waitOf a
  let c := ((c.put K.HaywardHolder a).inc32 K.HaywardGrantCount).pulse 37
  let c := if c.get (K.MaintWaitMax + a) < wait then c.put (K.MaintWaitMax + a) (min wait (2 ^ 32 - 1)) else c
  let c := if wait = 0 then c else
    c.log 0x0E01 0 (leBytes 1 a ++ leBytes 4 (min wait (2 ^ 32 - 1)) ++ leBytes 2 m.passed ++ leBytes 1 m.before)
  let c := c.noteGrant a 5
  let h := { c.hay with
    granted := c.hay.granted ++ [(a, win)], grantStart := c.now, grantEnd := c.now + min left (c.maintLimit a) - 1, grantWindow := win,
    scrubYielded := c.hay.scrubYielded && a != 4 }
  Cell.endWait { c with hay := h } a

/-- The holder releases the token in this cc; the next grant can be made in the following one (R415). -/
def Cell.releaseToken (c : Cell) : Cell :=
  let a := c.get K.HaywardHolder
  let c : Cell := { c.put K.HaywardHolder 0xFF with hay := { c.hay with freeFrom := c.now + 1, lastHolder := a } }
  if c.maintPending a then c.startWait a else c

/-- A grant of activity `a` ends in this cc: in a hand-over cycle its results wait for the boundary after the coming one (R415). -/
def Cell.endsNow (c : Cell) (a : Nat) : Bool := c.hay.lastHolder == a && c.hay.freeFrom == c.now + 1

/-- A clock fault ends any grant at once (R418). -/
def Cell.dropToken (c : Cell) : Cell := if c.get K.HaywardHolder = 0xFF then c else c.releaseToken

/-- A new swath's occurrences start ungranted (R415). -/
def Cell.newOccurrences (c : Cell) : Cell := { c with hay := { c.hay with granted := [], scrubYielded := false, passedTo := 0 } }

/-- The hayward's part of a swath boundary: the windows up to its end are counted, and the new swath's start (R415, R419). -/
def Cell.haywardBoundary (c : Cell) : Cell := (c.settlePassed (c.swathOff + 1)).newOccurrences

/-- A pending activity that no window of the active image holds is logged once per activation (R65). -/
def Cell.logNoWindow (c : Cell) (a : Nat) : Cell :=
  match c.exe.active with
  | none => c
  | some m =>
    if m.windows.any (fun w => bit w.mask a) || bit c.exe.noWindowLogged a then c else
    let c : Cell := { c with exe := { c.exe with noWindowLogged := setBit c.exe.noWindowLogged a } }
    c.log 0x0602 1 (leBytes 1 a ++ leBytes 4 m.id)

/-- An activity becomes pending, unless it is: its wait starts (R415). -/
def Cell.setMaint (c : Cell) (k a : Nat) : Cell :=
  let c := if c.flag k then c else c.setWait a { c.waitOf a with pendSince := c.now }
  ((c.put k 1).startWait a).logNoWindow a

end Sys2Proof.Machine
end

