-- ==== Sys2Proof/Machine/Inputs.lean ====
section
/-! DEFINITION. The analog, auxiliary and logic inputs (R80 to R102): range and offset arithmetic, over-range and unsettled marks, the
auxiliary comparator. -/

namespace Sys2Proof.Machine

/-! Range, offset and bandwidth (R81, R82, R88, R89) -/

/-- Full-scale range of a code in µV (R81). -/
def rangeUv (code : Nat) : Nat := [100000, 160000, 250000, 400000, 630000, 800000, 1000000, 1200000].getD code 0

/-- `a / b` rounded to the nearest integer, with halves away from zero (R82). -/
def roundAway (a : Int) (b : Nat) : Int :=
  if 0 ≤ a then (2 * a + b) / (2 * b : Nat) else -((-2 * a + b) / (2 * b : Nat))

/-- The DAC code an offset asks for in a range: the offset over the DAC step (R82). -/
def offsetCode (range : Nat) (offset : Int) : Int := roundAway (offset * 65536) (rangeUv range)

/-- The code after the clamp to 16 bits (R82). -/
def clampCode (d : Int) : Int := max (-32768) (min d 32767)

/-- The offset a DAC code gives, in whole µV (R82). -/
def appliedOffset (range : Nat) (d : Int) : Int := roundAway (d * rangeUv range) 65536

/-- Nominal frequency of a bandwidth setting in GHz; 0 for Full (R88). -/
def bandwidthGHz (code : Nat) : Nat := [0, 50, 33, 20, 13, 8].getD code 0

/-- The setting in use: Full when the limit is at or above Fs/2 (R89). -/
def Cell.bandwidthInUse (c : Cell) : Nat :=
  let b := c.swath K.BandwidthLimit
  if (c.fs).1 ≤ 2 * bandwidthGHz b * 1000000000 * (c.fs).2 then 0 else b

/-! Settings of the past (R90) -/

/-- The settings in force at sample `k`, when they have changed since; the list is newest first, and `until'` gives the first sample
under those that followed. -/
def settingBefore {α : Type} (until' : α → Nat) : List α → Nat → Option α
  | [], _ => none
  | p :: ps, k => if k < until' p then (settingBefore until' ps k).or (some p) else none

/-- Settings of the past that a sample still to be judged can meet. -/
def keepPast {α : Type} (until' : α → Nat) (now : Nat) (ps : List α) : List α := ps.filter (fun p => 128 * now ≤ until' p + 2097152)

/-! Marks -/

/-- Marks older than the longest filter span are dropped. -/
def keepSpans (now : Nat) (xs : List Span) : List Span := xs.filter (fun x => 128 * now ≤ x.hi + 2097152)

/-- A span joins those it meets or touches. -/
def addSpan (lo hi : Nat) : List Span → List Span
  | [] => [⟨lo, hi⟩]
  | x :: xs =>
    if x.hi + 1 < lo then x :: addSpan lo hi xs
    else if hi + 1 < x.lo then ⟨lo, hi⟩ :: x :: xs
    else addSpan (min lo x.lo) (max hi x.hi) xs

/-- Samples of the spans from `lo` on, below `hi`. -/
def spanCount (xs : List Span) (lo hi : Nat) : Nat := xs.foldl (fun a x => a + (min hi (x.hi + 1) - max lo x.lo)) 0

/-- The last sample of the spans below `hi`, or `d`. -/
def spanLast (xs : List Span) (hi d : Nat) : Nat := xs.foldl (fun a x => if x.lo < hi then min (hi - 1) x.hi else a) d

/-- Some sample of `[lo, hi]` is marked. -/
def spansMeet (xs : List Span) (lo hi : Nat) : Bool := xs.any (fun x => x.lo ≤ hi && lo ≤ x.hi)

def Cell.markUnsettled (c : Cell) (lo hi : Nat) : Cell :=
  { c with fe := { c.fe with unsettled := keepSpans c.now c.fe.unsettled ++ [⟨lo, hi⟩] } }

/-- Range and offset DAC code in force at sample `k` (R90). -/
def Cell.rangeDacAt (c : Cell) (k : Nat) : Nat × Int :=
  match settingBefore FrontSet.until' c.fe.past k with
  | some p => (p.range, p.dac)
  | none => (c.get K.RangeApplied, c.geti 16 K.OffsetDacCode)

/-- Some corrected sample from `lo` to `hi` carries the flag of R83 or R84. -/
def Cell.flagged (c : Cell) (lo hi : Nat) : Bool :=
  spansMeet c.fe.ovr lo hi || (match c.fe.overloadFrom with | some f => f ≤ hi | none => false)

/-- A corrected output of `[lo, hi)` carries the over-range flag: those before each change of `past` by the bandwidth setting of their
own index, whose 47-sample window spreads the flag when it is limited (R88, R90). -/
def Cell.overBelow (c : Cell) (lo : Nat) : List FrontSet → Nat → Nat → Bool
  | ps, bw, hi =>
    let reach := if bw = 0 then 0 else 23
    let piece (a b : Nat) : Bool := a < b && c.flagged (a - reach) (b - 1 + reach)
    match ps with
    | [] => piece lo hi
    | p :: ps => piece (max lo p.until') hi || c.overBelow lo ps p.bandwidth (min hi p.until')

/-- Some corrected output from `lo` to `hi` carries the over-range flag (R85, R88). -/
def Cell.overIn (c : Cell) (lo hi : Nat) : Bool := c.overBelow lo c.fe.past (c.get K.BandwidthApplied) (hi + 1)

/-- Corrected output `k` carries the over-range flag (R85, R88). -/
def Cell.overAt (c : Cell) (k : Nat) : Bool := c.overIn k k

/-- Corrected sample `k` is unsettled (R91). -/
def Cell.unsettledAt (c : Cell) (k : Nat) : Bool := spansMeet c.fe.unsettled k k

/-! The values in force (R81, R82, R89 to R91) -/

/-- FRONT_END_APPLY: the values in force after a commit switch in the hand-over cycle; S0' is the first sample of the next swath.  A
change of range or offset marks samples unsettled by the settings on each side (R82, R90, R91); a clamp is noted when a commit applies
the offset. -/
def Cell.applyFrontEnd (c : Cell) (s0' : Nat) (committed : Bool) : Cell :=
  let range := c.swath K.InputRange
  let want := offsetCode range (c.swathi 32 K.InputOffset)
  let d := clampCode want
  let oldBw := c.get K.BandwidthApplied
  let newBw := c.bandwidthInUse
  let changed := range != c.get K.RangeApplied || d != c.geti 16 K.OffsetDacCode
  let c := (((c.put K.RangeApplied range).puti 16 K.OffsetDacCode d).puti 32 K.OffsetApplied (appliedOffset range d)).put
    K.BandwidthApplied newBw
  let c := if d = want || !committed then c else c.put K.OffsetClamped 1
  if !changed then c else
  let c := if oldBw = 0 then c else c.markUnsettled (s0' - 23) (s0' - 1)
  c.markUnsettled s0' (s0' + if newBw = 0 then 5 else 28)

/-! Over-range (R83 to R85) -/

/-- The rail of a sign in the internal format: +511.984375 or −512.0 (R83). -/
def railValue (positive : Bool) : Int := if positive then 32767 else -32768

/-- The samples whose corrected values have reached the consumers once cc `t` is over, 19 cc after the sample, lie below this index; on a
switch to the bypass clock the last are those of its cc 0 (R85, R87, R112). -/
def Cell.reached (c : Cell) (t : Nat) : Nat :=
  let h := 128 * (t + 1 - 19)
  if c.get K.ClockState = 1 then min h (128 * (c.clk.faultCc + 1)) else h

/-- Sample `k` is used: on a switch to the bypass clock the samples after cc 0 are discarded (R112, R113). -/
def Cell.keepsSample (c : Cell) (k : Nat) : Bool := c.get K.ClockState != 1 || k < 128 * (c.clk.faultCc + 1)

/-- The flagged samples below `h` that are not counted yet are counted, those of a running overload among them (R85); foreground
calibration counts nothing (R127). -/
def Cell.countTo (c : Cell) (h : Nat) : Cell :=
  if !c.clk.onFcc || c.get K.FgCalState = 1 || h ≤ c.fe.countedTo then c else
  let xs := match c.fe.overloadFrom with | some f => if f < h then addSpan f (h - 1) c.fe.ovr else c.fe.ovr | none => c.fe.ovr
  let n := spanCount xs c.fe.countedTo h
  let c := if n = 0 then c else (c.add64 K.OverRangeCount n).put K.OverRangeLastSample (spanLast xs h 0)
  { c with fe := { c.fe with ovr := xs, countedTo := h } }

/-- What has reached the consumers by the end of the present cc is counted (R85). -/
def Cell.settleOver (c : Cell) : Cell := c.countTo (c.reached c.now)

/-- Samples `lo` to `hi` are flagged.  Those that were counted as unflagged before are counted now. -/
def Cell.markOver (c : Cell) (lo hi : Nat) : Cell :=
  let c := c.settleOver
  let counted (xs : List Span) : Nat := spanCount xs 0 c.fe.countedTo
  let old := keepSpans c.now c.fe.ovr
  let new := addSpan lo hi old
  let late := counted new - counted old
  let last := min hi (c.fe.countedTo - 1)
  let c := if late = 0 then c else c.add64 K.OverRangeCount late
  let c := if late = 0 || last < c.get K.OverRangeLastSample then c else c.put K.OverRangeLastSample last
  { c with fe := { c.fe with ovr := new } }

/-- OVER_RANGE_SAMPLE: raw sample `k` had its over-range bit set.  It is flagged and takes its rail, and so are the 4 samples that
follow (R83); foreground calibration flags nothing (R127). -/
def execOverRangeSample (n : CellNo) (w : When) (k : Nat) (s : State) : Out :=
  onCell s n w (fun _ c => if c.get K.FgCalState = 1 then c else c.markOver k (k + 4))

/-- A leg at `v` µV lies outside its operating limits, or outside them drawn in by `band` µV (R78, R84). -/
def legOut (band : Int) (v : Int) : Bool := v < -600000 + band || 1500000 - band < v

/-- From sample `k` on the overload flags every sample and gives it its rail (R84). -/
def Cell.startOverload (c : Cell) (k : Nat) : Cell :=
  let c := c.settleOver
  let c := if k < c.fe.countedTo then c.markOver k (c.fe.countedTo - 1) else c
  { c with fe := { c.fe with overloadFrom := some k } }

/-- From sample `k` on the overload is over, and the flag goes on for `more` samples (R84). -/
def Cell.endOverload (c : Cell) (k more : Nat) : Cell :=
  match c.fe.overloadFrom with
  | none => c
  | some f =>
    let c := c.settleOver
    let rails := keepSpans c.now c.fe.rails
    let c : Cell := { c with fe := { c.fe with overloadFrom := none, rails := if f < k then rails ++ [⟨f, k - 1⟩] else rails } }
    if f < k + more then c.markOver f (k + more - 1) else c

/-- LegOverloadActive: the detector's state at the first sample of the present cc (R84). -/
def Cell.legShown (c : Cell) : Bool :=
  match c.fe.legFirst with
  | some (k, b) => if c.clk.onFcc && 128 * c.now < k then b else c.flag K.LegOverloadActive
  | none => c.flag K.LegOverloadActive

/-- The detector's state changes at sample `k` (R84). -/
def Cell.setLegs (c : Cell) (k : Nat) (b : Bool) : Cell :=
  { c.put K.LegOverloadActive (b2n b) with fe := { c.fe with legFirst := some (k, c.legShown) } }

/-- LEG_OVERLOAD_ENTER: a leg has left its operating limits and the detector enters overload at the balls;
from this sample on every sample is flagged (R84).  Foreground calibration freezes the counters and flags (R127). -/
def execLegOverloadEnter (n : CellNo) (w : When) (x : LegEdge) (s : State) : Out :=
  onCell s n w (fun _ c =>
    if c.fe.legsOut || !(legOut 0 x.p || legOut 0 x.q) then c else
    let c : Cell := { c with fe := { c.fe with legsOut := true } }
    if c.get K.FgCalState = 1 then c else
    let c := (c.setLegs x.sample true).inc32 K.LegOverloadCount
    let entries := if c.fe.legEntry.1 = c.now then c.fe.legEntry.2 + 1 else 1
    let c : Cell := { c with fe := { c.fe with legEntry := (c.now, entries) } }
    if c.clk.onFcc then c.startOverload x.sample else c)

/-- LEG_OVERLOAD_EXIT: both legs are back, by the hysteresis of 50 mV; the flag continues for 32 samples (R84). -/
def execLegOverloadExit (n : CellNo) (w : When) (x : LegEdge) (s : State) : Out :=
  onCell s n w (fun _ c =>
    if !c.fe.legsOut || legOut 50000 x.p || legOut 50000 x.q then c else
    let c : Cell := { c with fe := { c.fe with legsOut := false } }
    if c.get K.FgCalState = 1 then c else (c.setLegs x.sample false).endOverload x.sample 32)

/-- Foreground calibration begins with sample `s0`: what runs of an overload ends there, and nothing is counted any more (R127). -/
def Cell.legsBeforeCal (c : Cell) (s0 : Nat) : Cell := c.endOverload s0 0

/-- Foreground calibration has ended before sample `s0`: the flag follows the detector again, and samples count from there (R84, R127). -/
def Cell.legsAfterCal (c : Cell) (s0 : Nat) : Cell :=
  let c : Cell := { c.setLegs s0 c.fe.legsOut with fe := { (c.setLegs s0 c.fe.legsOut).fe with countedTo := max s0 c.fe.countedTo } }
  if c.fe.legsOut then { c with fe := { c.fe with overloadFrom := some s0 } } else c

/-- OVER_RANGE_CLEAR: the three counters clear; what is counted in this cc counts from 0 after the clear (R100). -/
def execOverRangeClear (n : CellNo) (w : When) (p : Port) (s : State) : Out :=
  onCellPort s n w p K.OverRangeClear (fun _ c =>
    let c := c.countTo (c.reached (c.now - 1))
    let entries := if c.fe.legEntry.1 = c.now then c.fe.legEntry.2 else 0
    .ok (((c.put K.OverRangeCount 0).put K.OverRangeLastSample 0).put K.LegOverloadCount entries))

/-- The samples stop after `last` on the bypass clock (R112). -/
def Cell.stopSamples (c : Cell) (last : Nat) : Cell := c.endOverload (last + 1) 0

/-- The samples go on with `n0` at a return: with a limited setting its first 23 outputs are unsettled (R91), and an overload goes on. -/
def Cell.startSamples (c : Cell) (n0 : Nat) : Cell :=
  let c := if c.get K.BandwidthApplied = 0 then c else c.markUnsettled n0 (n0 + 22)
  if c.fe.legsOut && c.get K.FgCalState ≠ 1 then c.startOverload n0 else c

/-! Auxiliary comparator (R97) -/

/-- AuxThreshold as applied: to the nearest 0.25 mV step, in µV (R97). -/
def auxThresholdUv (v : Int) : Int := roundAway (v * 100) 250 * 250

/-- An entry of the auxiliary or the logic inputs (R101, R102). -/
def isPinEntry (k : Nat) : Bool := K.AuxThreshold / 256 ≤ k / 256 && k / 256 ≤ K.LogicThreshold0 / 256

/-- An entry's value among a set of Swath-class values. -/
def swathIn (r : Regs) (w k : Nat) : Int := sgn w (regGet (cellDflt k) k r)

/-- The differential level in µV at which the comparator switches under the values `r` (R97). -/
def auxTrip (r : Regs) (rising : Bool) : Int :=
  let t := auxThresholdUv (swathIn r 16 K.AuxThreshold)
  let h : Int := (regGet (cellDflt K.AuxHysteresis) K.AuxHysteresis r : Nat) * 500
  if rising then t + h else t - h

/-- The values of the auxiliary and logic entries in force at sample `k` (R97, R99). -/
def Cell.pinsAt (c : Cell) (k : Nat) : Regs := ((settingBefore LevelSet.until' c.fe.pins k).map LevelSet.regs).getD c.act

/-- At a boundary with `s0` the values of the auxiliary and logic entries change from those in `old` (R97, R99). -/
def Cell.notePins (c : Cell) (s0 : Nat) (old : Regs) : Cell :=
  let pins (r : Regs) : Regs := r.filter (fun e => isPinEntry e.1)
  if pins old = pins c.act then c else
  { c with fe := { c.fe with pins := ⟨s0, pins old⟩ :: keepPast LevelSet.until' c.now c.fe.pins } }

/-- The comparator may switch at `vin` µV: by the settings in force, and in the first 2 cc of a swath also by those before (R97). -/
def Cell.auxMaySwitch (c : Cell) (rising : Bool) (vin : Int) : Bool :=
  let passes (r : Regs) : Bool := if rising then auxTrip r true ≤ vin else vin ≤ auxTrip r false
  passes c.act || (c.clk.onFcc && passes (c.pinsAt (128 * c.now - 256)))

/-- AUX_EDGE: the differential input, now `vin` µV, crosses the trip level, and the comparator output changes; the edge is a tick of the
AUX source (R38, R39, R97, R101). -/
def execAuxEdge (n : CellNo) (w : When) (rising : Bool) (vin : Int) (s : State) : Out :=
  onCell s n w (fun _ c =>
    if c.flag K.AuxLevel == rising || !c.auxMaySwitch rising vin then c else
    ((c.put K.AuxLevel (b2n rising)).inc64 (if rising then K.AuxRisingCount else K.AuxFallingCount)).auxTick)

/-! Logic inputs (R99) -/

/-- A millivolt setting applied to its step, with halves toward zero (R99). -/
def roundTowardZero (x : Int) (step : Nat) : Int :=
  if 0 ≤ x then (2 * x + step - 1) / (2 * step : Nat) * step else -((-2 * x + step - 1) / (2 * step : Nat) * step)

/-- The threshold of a logic group under the values `r`, in mV, in 5 mV steps, and its termination voltage in 10 mV steps (R99). -/
def logicThreshold (r : Regs) (group : Nat) : Int := roundTowardZero (swathIn r 16 (K.LogicThreshold0 + 3 * group)) 5
def logicVtt (r : Regs) (group : Nat) : Int := roundTowardZero (swathIn r 16 (K.LogicVtt0 + 3 * group)) 10
def logicTerminated (r : Regs) (group : Nat) : Bool := swathIn r 16 (K.LogicTermination0 + 3 * group) == 1

/-- The level of input `b` at logic sample `i` with `uv` µV on it, after the level `prev`: within the hysteresis of 30 mV about the
threshold the level stays (R98); outside VTT ± 1.0 V a terminated input's level is undefined (R99). -/
def logicLevel (r : Regs) (i b : Nat) (prev : Option Bool) (uv : Int) : Bool :=
  let g := b / 8
  let t := logicThreshold r g * 1000
  let v := logicVtt r g * 1000
  if logicTerminated r g && (uv < v - 1000000 || v + 1000000 < uv) then Config.logicOutside i b
  else if t + 15000 ≤ uv then true
  else if uv < t - 15000 then false
  else prev.getD (t ≤ uv)

/-- The settings that judge input `b` at logic sample `i`: in the first cc of a swath those before it or its own (R99). -/
def Cell.logicRegs (c : Cell) (i b : Nat) : Regs := c.pinsAt (if Config.logicOldThreshold i b then 16 * i - 128 else 16 * i)

/-- Logic sample `i`, from the voltages at the inputs and the logic sample before (R98, R99). -/
def Cell.logicWord (c : Cell) (i : Nat) (prev : Option Nat) (pins : List Int) : Nat :=
  (List.range 16).foldl (fun w b => w + b2n (logicLevel (c.logicRegs i b) i b (prev.map (bit · b)) (pins.getD b 0)) * 2 ^ b) 0

/-- LogicLevels: the last logic sample of the present cc, as a logic feed gave it; else by the settings of that sample from the voltages
at the pins, which are free (R102).  DESIGN CHOICE (log entry 157): the voltages, and the level held within the hysteresis, are free values
of the time of the read; on the bypass clock the comparators go on by the settings in force. -/
def Cell.logicLevels (c : Cell) (n : CellNo) : Nat :=
  let i := 8 * c.now + 7
  let formed := c.logicWord i (some (Config.logicHeld n.val c.nowNs)) ((List.range 16).map (Config.logicPinUv n.val c.nowNs))
  match c.fe.logic with
  | some (j, w) => if c.clk.onFcc && j = i then w else formed
  | none => formed

end Sys2Proof.Machine
end

