-- ==== Sys2Proof/Machine/Correction.lean ====
section
/-! DEFINITION. Interleave correction (R123 to R146): the correction arithmetic, foreground calibration, background estimation, spur
predictions, recalibration. -/

namespace Sys2Proof.Machine

/-! Coefficient sets (R124 to R126) -/

/-- Value `i` of a coefficient list. -/
def coef (xs : List Int) (i : Nat) : Int := (xs[i]?).getD 0

/-- A list of exactly `n` values. -/
def fit (n : Nat) (xs : List Int) : List Int := (xs ++ List.replicate n 0).take n

def clampI (lim x : Int) : Int := max (-lim) (min lim x)

/-- The limits of R124. -/
abbrev limOffset : Int := 4096
abbrev limGain : Int := 8192
abbrev limTiming : Int := 3000
abbrev limBeta : Int := 8192

/-- The set in use: that of the applied range (R125). -/
def Cell.setOf (c : Cell) (r : Nat) : CoefSet := (c.cor.sets[r]?).getD ⟨0, 0, [], [], [], []⟩
def Cell.appliedSet (c : Cell) : CoefSet := c.setOf (c.get K.RangeApplied)

def setAt {α : Type} : List α → Nat → α → List α
  | [], _, _ => []
  | _ :: xs, 0, a => a :: xs
  | x :: xs, i + 1, a => x :: setAt xs i a

/-- The 800-byte image of a set (R126). -/
def encodeSet (s : CoefSet) : List Byte :=
  let i16 (n : Nat) (xs : List Int) : List Byte := (fit n xs).flatMap (fun x => leBytes 2 (raw 16 x))
  leBytes 2 (raw 16 s.calTemp) ++ zeros 2 ++ leBytes 4 s.calFs ++ zeros 8 ++ i16 128 s.offset ++ i16 128 s.gain ++
  i16 128 s.timing ++ i16 8 s.beta

/-- The I16 fields of a block. -/
def i16List (bs : List Byte) : Nat → List Int
  | 0 => []
  | n + 1 => sgn 16 (leNat (bs.take 2)) :: i16List (bs.drop 2) n

/-- The coefficients of an 800-byte image; bytes 0 to 15 are ignored (R140). -/
def decodeSet (bs : List Byte) : CoefSet :=
  ⟨0, 0, i16List (bs.drop 16) 128, i16List (bs.drop 272) 128, i16List (bs.drop 528) 128, i16List (bs.drop 784) 8⟩

def within (lim : Int) (xs : List Int) : Bool := xs.all (fun x => -lim ≤ x && x ≤ lim)

/-- Every coefficient lies in the valid values of R124. -/
def CoefSet.valid (s : CoefSet) : Bool :=
  within limOffset s.offset && within limGain s.gain && within limTiming s.timing && within limBeta s.beta

/-! The corrections of one sample (R123) -/

/-- For every value of a list the `2 h + 1` values about it; beyond the list the values read 0. -/
def windows (h : Nat) (xs : List Int) : List (List Int) :=
  let pad := List.replicate h 0 ++ xs ++ List.replicate h 0
  (List.range xs.length).map (fun i => (pad.drop i).take (2 * h + 1))

/-- The inner product of two lists. -/
def dotI : List Int → List Int → Int
  | a :: as, b :: bs => a * b + dotI as bs
  | _, _ => 0

/-- The taps of the derivative filter, against the stream in rising order: antisymmetric, nine (R123). -/
def derivativeTaps (fs : Nat) : List Int :=
  let t (i : Nat) : Int := Config.derivativeTap fs i
  [-(t 4), -(t 3), -(t 2), -(t 1), 0, t 1, t 2, t 3, t 4]

/-- The taps of the emphasis filter, in 2^-32 (R123): at 160 GS/s its gain at 20 GHz, an eighth of Fs, is 1/4, and √2 is taken in 2^-32.
DESIGN CHOICE (log entry 161): the filter has linear phase. -/
def emphasisTaps (fs : Nat) : List Int :=
  let t (i : Nat) : Int := Config.emphasisTap fs i
  let mid : Int := if fs = 160000000000 then 2 ^ 30 - rneDiv ((t 1 - t 3) * 6074001000) (2 ^ 32) else t 0
  [t 3, t 2, t 1, mid, t 1, t 2, t 3]

/-- The step response of the bandwidth-limit filter once tap `i` is reached, below its centre: no overshoot beyond 0.5 % (R88). -/
def bandwidthStep (fs setting i : Nat) : Int := max (-21474836) (min (2 ^ 32 + 21474836) (Config.bandwidthStep fs setting i))

/-- Tap `i` of the bandwidth-limit filter, 0 to 23 of its 47 and symmetric about the last: together they have gain 1 (R88; log entry 170).
-/
def bandwidthTap (fs setting i : Nat) : Int :=
  if i = 0 then bandwidthStep fs setting 0
  else if i < 23 then bandwidthStep fs setting i - bandwidthStep fs setting (i - 1)
  else 2 ^ 32 - 2 * bandwidthStep fs setting 22

/-- The taps of the bandwidth-limit filter at a setting: linear phase, 47 (R88). -/
def bandwidthTaps (fs setting : Nat) : List Int :=
  (List.range 47).map (fun i => bandwidthTap fs setting (if i < 24 then i else 46 - i))

/-- The unit of the timing-corrected stream: 10^16 times the denominator of Fs. -/
def Cell.timeUnit (c : Cell) : Int := (10000000000000000 * (c.fs).2 : Nat)

/-- Offset and gain correction of raw code `x` at sub-converter `s`, in 2^-22 code. -/
def CoefSet.gained (set : CoefSet) (s : Nat) (x : Int) : Int := (64 * x - coef set.offset s) * (65536 + coef set.gain s)

/-- Timing correction at sub-converter `s` from the nine gain-corrected samples about a sample, in 2^-54 code over the time unit. -/
def Cell.timed (c : Cell) (set : CoefSet) (s : Nat) (w : List Int) : Int :=
  coef w 4 * 2 ^ 32 * c.timeUnit + coef set.timing s * (c.fs).1 * dotI (derivativeTaps (c.get K.SampleRateApplied)) w

/-! Foreground calibration (R127 to R130) -/

/-- The first value outside its limit. -/
def firstOut (lim : Int) : List Int → Nat → Option Nat
  | [], _ => none
  | x :: xs, i => if x < -lim || lim < x then some i else firstOut lim xs (i + 1)

/-- FgCalStatus of a failure (R129). -/
def fgStatus (code range index : Nat) : Nat := code + range * 2 ^ 16 + index * 2 ^ 24

/-- The first failure of the steps 2 to 5 of one range (R128, R129). -/
def fgRangeFail (tone : Option ToneFail) (r : Nat) (s : FgSet) : Option Nat :=
  let toneAt (step : Nat) : Option Nat :=
    match tone with
    | some t => if t.step = step ∧ t.range = r then some (fgStatus 5 r t.index) else none
    | none => none
  let out (code : Nat) (lim : Int) (xs : List Int) : Option Nat := (firstOut lim xs 0).map (fgStatus code r)
  (toneAt 2).or <| (out 1 limOffset s.offset).or <| (toneAt 3).or <| (out 2 limGain s.gain).or <| (toneAt 4).or <|
    (out 3 limTiming s.timing).or <| (toneAt 5).or (out 4 limBeta s.beta)

def fgRangesFail (tone : Option ToneFail) : Nat → List FgSet → Option Nat
  | _, [] => none
  | r, s :: ss => (fgRangeFail tone r s).or (fgRangesFail tone (r + 1) ss)

def firstCoarseOut : List Int → Nat → Option Nat
  | [], _ => none
  | x :: xs, i => if x < -128 || 127 < x then some i else firstCoarseOut xs (i + 1)

/-- The first failure of a calibration: step 1 in the 400 mV range, then the ranges in order (R128, R129). -/
def fgFirstFail (tone : Option ToneFail) (coarse : List Int) (sets : List FgSet) : Option Nat :=
  let step1 := match tone with
    | some t => if t.step = 1 then some (fgStatus 5 3 t.index) else none
    | none => none
  step1.or <| ((firstCoarseOut coarse 0).map (fgStatus 3 3)).or (fgRangesFail tone 0 sets)

/-- The set a calibration leaves: clamped, with CalTemp and CalFs filled (R128, R129). -/
def fgToSet (calTemp : Int) (calFs : Nat) (f : FgSet) : CoefSet :=
  ⟨calTemp, calFs, (fit 128 f.offset).map (clampI limOffset), (fit 128 f.gain).map (clampI limGain),
   (fit 128 f.timing).map (clampI limTiming), (fit 8 f.beta).map (clampI limBeta)⟩

def setEst (s : CoefSet) : RangeEst := ⟨⟨s.offset, 0⟩, ⟨s.gain, 0⟩, ⟨s.timing, 0⟩, ⟨s.beta, 0⟩⟩

/-- Set the coarse phases (R125). -/
def putCoarse (c : Cell) : List Int → Nat → Cell
  | [], _ => c
  | x :: xs, p => putCoarse (c.puti 8 (K.CoarsePhase + p) x) xs (p + 1)

/-- The chiplet temperature point of a cell in 0.1 °C (R448). -/
def chipTemp (g : Glob) (n : CellNo) : Int := g.geti 16 (G.TempPoint + n.val)

/-- The staged copies of all eight sets become the stored sets. -/
def stageSets (sets : List CoefSet) (r : Nat) (c : Cell) : Cell :=
  match sets with
  | [] => c
  | s :: ss => stageSets ss (r + 1) (c.putDom (K.CoefSet + r) (encodeSet s))

/-- The estimator's count restarts (R133). -/
def Cell.restartBg (c : Cell) : Cell := { c with cor := { c.cor with accepted := 0, converged := false } }

/-- The calibration that runs ends: sets, coarse trims and status (R128, R129).  DESIGN CHOICE (log entry 166): its sets stand over a host
set staged or committed while it ran, and the staged copies become them. -/
def Cell.fgCalDone (c : Cell) (g : Glob) (n : CellNo) (coarse : List Int) (sets : List FgSet) (tone : Option ToneFail) (durUs : Nat) :
    Cell :=
  let none8 : List FgSet := List.replicate 8 ⟨[], [], [], []⟩
  let stored := ((sets ++ none8).take 8).map (fgToSet (chipTemp g n) (c.get K.SampleRateApplied / 1000000))
  let c : Cell := { c with cor := { c.cor with sets := stored, est := stored.map setEst, written := [], bgStart := c.trk.startCc,
                                               blockFrontEnd := false, blockCut := false, blockDisabled := !c.flag K.BgEnable } }
  let c := (stageSets stored 0 (putCoarse c ((fit 8 coarse).map (fun x => max (-128) (min 127 x))) 0)).restartBg
  let c := ((c.put K.FgCalDuration (durUs % 2 ^ 32)).inc32 K.FgCalCount)
  match fgFirstFail tone (fit 8 coarse) sets with
  | none => ((c.put K.FgCalState 2).put K.FgCalStatus 0).log 0x0201 0 (leBytes 4 durUs)
  | some st => ((c.put K.FgCalState 3).put K.FgCalStatus st).log 0x0202 2 (leBytes 4 st)

/-! Background estimation (R131 to R134) -/

/-- BgState (R133). -/
def Cell.bgState (c : Cell) : Nat :=
  if c.get K.FgCalState < 2 || !c.flag K.BgEnable then 0
  else if !c.cor.converged then 1
  else if c.cor.lastRejected then 3 else 2

/-- One accepted block moves an estimate by a sixteenth of the difference (R133). -/
def Estimate.move (e : Estimate) (block : List Int) : Estimate :=
  ⟨(e.nums.zip (fit e.nums.length block)).map (fun p => 15 * p.1 + p.2 * (16 ^ e.pow : Nat)), e.pow + 1⟩

/-- The square root of `n`, rounded down, above `lo` and within `2^k - 1` of it. -/
def rootSearch (n lo : Nat) : Nat → Nat
  | 0 => lo
  | k + 1 => if (lo + 2 ^ k) ^ 2 ≤ n then rootSearch n (lo + 2 ^ k) k else rootSearch n lo k

/-- What a background block sums at one sub-converter, over its raw samples without an over-range bit (R131): how many, their sum and
their sum of squares in codes, and the sums of squares of the differences with the sample before and the sample behind. -/
structure BgSum where
  n : Nat
  sum : Int
  square : Nat
  before : Nat
  behind : Nat
deriving DecidableEq, Repr

def rawAt (w : BgWindow) (i : Nat) : Int × Bool := w.raw.getD i (0, true)

/-- A sum over the windows of a sub-converter whose sample is not left out. -/
def windowSum (ws : List BgWindow) (f : BgWindow → Nat) : Nat :=
  ws.foldl (fun a w => if (rawAt w 7).2 then a else a + f w * w.n) 0

/-- The squared difference of the sample with the one at place `i`, which counts unless that one is left out. -/
def squareGap (w : BgWindow) (i : Nat) : Nat := if (rawAt w i).2 then 0 else ((rawAt w 7).1 - (rawAt w i).1).natAbs ^ 2

def blockWindows (b : BgBlock) (s : Nat) : List BgWindow := b.windows.getD s []

def blockSum (b : BgBlock) (s : Nat) : BgSum :=
  let ws := blockWindows b s
  ⟨windowSum ws (fun _ => 1), (ws.map (fun w => if (rawAt w 7).2 then 0 else (rawAt w 7).1 * w.n)).foldl (· + ·) 0,
   windowSum ws (fun w => (rawAt w 7).1.natAbs ^ 2), windowSum ws (squareGap · 6), windowSum ws (squareGap · 8)⟩

def blockTotal (b : BgBlock) (f : BgSum → Nat) : Nat := (List.range 128).foldl (fun a s => a + f (blockSum b s)) 0

/-- The emphasis filter's output about a sample of sub-converter `s`, from the raw codes of its window by the applied set. -/
def Cell.emphasisOf (c : Cell) (s : Nat) (w : BgWindow) : Int :=
  let set := c.appliedSet
  let gained := (List.range 15).map (fun i => set.gained ((s + 121 + i) % 128) (rawAt w i).1)
  let timed := (List.range 7).map (fun i => c.timed set ((s + 125 + i) % 128) ((gained.drop i).take 9))
  dotI (emphasisTaps (c.get K.SampleRateApplied)) timed

/-- The energy of the emphasis filter's output over the samples of track-and-hold `p` (R131). -/
def Cell.trackEnergy (c : Cell) (b : BgBlock) (p : Nat) : Nat :=
  (List.range 16).foldl (fun a i => a + windowSum (blockWindows b (p + 8 * i)) (fun w => (c.emphasisOf (p + 8 * i) w).natAbs ^ 2)) 0

/-- Raw samples of the block with the over-range bit set, which it left out (R131). -/
def blockOver (b : BgBlock) : Nat := 8388608 - blockTotal b BgSum.n

/-- Less than 10 % of the block's energy lies above Fs/16 (R132). -/
def blockLowHf (b : BgBlock) : Bool := 10 * b.highPart < 2 ^ 32

/-- The offset of sub-converter `s`: its mean minus the mean over all 128 (R131), in LSB. -/
def blockOffset (b : BgBlock) (s : Nat) : Int :=
  let x := blockSum b s
  let n := blockTotal b BgSum.n
  if x.n = 0 then 0 else rneDiv (64 * (x.sum * n - sumMap (fun i => (blockSum b i).sum) (List.range 128) * x.n)) (x.n * n)

/-- The gain coefficient that takes the rms of sub-converter `s` to the rms over all 128 (R131), in LSB. -/
def blockGain (b : BgBlock) (s : Nat) : Int :=
  let x := blockSum b s
  if x.square = 0 then 0 else
  (rootSearch (2 ^ 32 * (blockTotal b BgSum.square * x.n) / (blockTotal b BgSum.n * x.square)) 0 64 : Nat) - (65536 : Int)

/-- The coefficients a block gives (R131).  DESIGN CHOICE (log entry 172): the emphasis filter runs under the set applied at the block's
end, and a difference or an output is left out when its own sample, or the neighbour of the difference, is over range. -/
def Cell.blockEst (c : Cell) (b : BgBlock) : FgSet :=
  let energy := (List.range 8).map (c.trackEnergy b)
  ⟨(List.range 128).map (blockOffset b), (List.range 128).map (blockGain b),
   (List.range 128).map (fun s => Config.blockTiming (blockSum b s).before (blockSum b s).behind (blockSum b s).n),
   energy.map (fun e => Config.blockBandwidth e (energy.foldl (· + ·) 0))⟩

/-- The sum of a family's values at the sub-converters behind track-and-hold `p`. -/
def trackSum (xs : List Int) (p : Nat) : Int := sumMap (fun i => coef xs (p + 8 * i)) (List.range 16)

/-- 10^(v/200) ≤ num/den, for a level v in 0.05 dB steps of amplitude squared: num^200 ≥ den^200 * 10^v. -/
def atLeastLevel (num den : Nat) (v : Int) : Bool :=
  if 0 ≤ v then den ^ 200 * 10 ^ v.toNat ≤ num ^ 200 else den ^ 200 ≤ num ^ 200 * 10 ^ (-v).toNat

/-- The first cause of R132 that rejects a block.  The power of its rms is judged against that of a full-scale sine of 512 codes. -/
def Cell.blockReject (c : Cell) (b : BgBlock) : Nat :=
  if !atLeastLevel (2 * blockTotal b BgSum.square) (blockTotal b BgSum.n * 512 ^ 2) (2 * c.geti 16 K.BgMinLevel) then 1
  else if 8192 < blockOver b then 2
  else if c.cor.blockFrontEnd then 3
  else if c.cor.blockCut then 4
  else if c.cor.blockDisabled || !c.flag K.BgEnable then 5
  else 0

/-! Spur predictions (R134).  Powers are compared exactly: cosines are given in 2^-60, and a prediction is the whole number of
0.1 dB nearest to it. -/

/-- cos(2πk/128) in 2^-60, for k = 0 to 32. -/
def cosTable : List Nat :=
  [1152921504606846976, 1151532760162549490, 1147369872436662991, 1140442870190345041, 1130768441178740757, 1118369891948718997,
   1103277091691359535, 1085526400284455520, 1065160580698383124, 1042228695976360312, 1016785991037278313, 988893759585853128] ++
  [958619196450722178, 926035235706216538, 891220374967787610, 854258486284375919, 815238614083298888, 774254760654426065,
   731405659690429196, 686794538428668529, 640528868967736374, 592720109357758155, 543483435088187080, 492937461619961867] ++
  [441203958630471860, 388407556659738432, 334675446864527722, 280137074603713366, 224923827593068887, 169168719380752196,
   113006068906017470, 56571176913125535, 0]

def cosRaw (k : Nat) : Int := (cosTable[k]?).getD 0

/-- cos and sin of 2πk/128 in 2^-60. -/
def cos128 (k : Nat) : Int :=
  let k := k % 128
  if k ≤ 32 then cosRaw k else if k ≤ 64 then -cosRaw (64 - k) else if k ≤ 96 then -cosRaw (k - 64) else cosRaw (128 - k)
def sin128 (k : Nat) : Int := cos128 (k + 96)

/-- |Σ_s (a_s + j b_s) e^(−j2πks/128)|² over the values, in 2^-120. -/
def dftPower (k : Nat) : List Int → List Int → Nat → Int × Int → Nat
  | a :: as, b :: bs, s, (re, im) =>
    dftPower k as bs (s + 1) (re + a * cos128 (k * s) + b * sin128 (k * s), im + b * cos128 (k * s) - a * sin128 (k * s))
  | _, _, _, (re, im) => re.natAbs ^ 2 + im.natAbs ^ 2

/-- The greatest power over k = step, 2 step, …, n step. -/
def dftMax (as bs : List Int) (step : Nat) : Nat → Nat
  | 0 => 0
  | m + 1 => max (dftMax as bs step m) (dftPower (step * (m + 1)) as bs 0 (0, 0))

/-- The greatest whole v from `lo` on, within `2^n - 1` of it, whose lower rounding edge the power reaches. -/
def levelSearch (num den : Nat) (lo : Int) : Nat → Int
  | 0 => lo
  | n + 1 => if atLeastLevel num den (2 * (lo + (2 ^ n : Nat)) - 1) then levelSearch num den (lo + (2 ^ n : Nat)) n
             else levelSearch num den lo n

/-- A power num/den in 0.1 dB, to the nearest whole number; zero mismatch reads −1,500 (R134).  DESIGN CHOICE (log entry 125): a mismatch
other than zero reads its own level, also below −1,500, down to −4,096. -/
def levelOf (num den : Nat) : Int := if num = 0 then -1500 else max (-32768) (levelSearch num den (-4096) 13)

/-- Estimate minus applied coefficient, times 16^pow. -/
def deltas (e : Estimate) (applied : List Int) : List Int :=
  (e.nums.zip (fit e.nums.length applied)).map (fun p => p.1 - p.2 * (16 ^ e.pow : Nat))

/-- The offset spur: |Σ|²/(64·128·512)² at the scale of the estimates (R134). -/
def spurOffset (e : RangeEst) (s : CoefSet) : Int :=
  let d := deltas e.offset s.offset
  levelOf (dftMax d (d.map (fun _ => 0)) 1 64) ((64 * 128 * 512 * 2 ^ 60 * 16 ^ e.offset.pow) ^ 2)

/-- The gain and timing spur: Δg in 2^-16, and 2π·20 GHz·Δτ in 0.1 fs steps, that is π·4·10^-6 per LSB; π in 2^-60 (R134). -/
def spurGainTiming (e : RangeEst) (s : CoefSet) : Int :=
  let pg := 16 ^ e.gain.pow
  let pt := 16 ^ e.timing.pow
  let g := (deltas e.gain s.gain).map (fun x => x * ((2 ^ 44 * 1000000 * pt : Nat) : Int))
  let t := (deltas e.timing s.timing).map (fun x => x * ((3622009729038561421 * 4 * pg : Nat) : Int))
  levelOf (dftMax g t 1 127) ((2 ^ 60 * 1000000 * pg * pt * 2 ^ 60 * 128) ^ 2)

/-- The emphasis gain E as a fraction: 1/4 at 160 GS/s; at another rate the spec gives no value (R123, R134). -/
def Cell.emphasis (c : Cell) : Nat × Nat :=
  if (c.fs).1 = 160000000000 * (c.fs).2 then (1, 4) else (Config.emphasisGain (c.get K.SampleRateApplied), 2 ^ 32)

def Cell.spurBandwidth (c : Cell) (e : RangeEst) (s : CoefSet) : Int :=
  let b := (deltas e.beta s.beta).map (fun x => x * ((c.emphasis).1 : Int))
  levelOf (dftMax b (b.map (fun _ => 0)) 16 7) (((c.emphasis).2 * 2 ^ 15 * 8 * 2 ^ 60 * 16 ^ e.beta.pow) ^ 2)

/-- The predictions after an accepted block (R134). -/
def Cell.predictSpurs (c : Cell) (e : RangeEst) : Cell :=
  let s := c.appliedSet
  let o := spurOffset e s
  let g := spurGainTiming e s
  let b := c.spurBandwidth e s
  (((c.puti 16 K.SpurEstimateOffset o).puti 16 K.SpurEstimateGainTiming g).puti 16 K.SpurEstimateBandwidth b).puti 16
    K.SpurEstimateWorst (max o (max g b))

/-- A mean fine timing of the estimates above ±`lim` LSB at some track-and-hold. -/
def meanBeyond (t : Estimate) (lim : Int) : Bool :=
  (List.range 8).any (fun p => lim * 16 * (16 ^ t.pow : Nat) < trackSum t.nums p || trackSum t.nums p < -(lim * 16 * (16 ^ t.pow : Nat)))

/-- The lowest cause of R135 that an accepted block meets, or 0. -/
def Cell.recalCause (c : Cell) (g : Glob) (n : CellNo) (e : RangeEst) : Nat :=
  if c.geti 16 K.RecalSpurThreshold < c.geti 16 K.SpurEstimateWorst then 1
  else if (c.get K.RecalTempDelta : Int) < (chipTemp g n - c.appliedSet.calTemp).natAbs then 2
  else if meanBeyond e.timing 1000 then 4 else 0

/-- RecalPending sets with its cause, and the wait for the hayward starts (R135).  DESIGN CHOICE (log entry 126): a cause or a request that
comes while it is set already leaves the earlier LastRecalCause. -/
def Cell.requestRecal (c : Cell) (cause : Nat) : Cell :=
  if c.flag K.RecalPending then c else
  let c := (c.put K.LastRecalCause cause).setMaint K.RecalPending 1
  { c with cor := { c.cor with cause := cause } }

/-- The estimates of a range after an accepted block that gives `x`. -/
def RangeEst.accept (e : RangeEst) (b : BgBlock) (x : FgSet) : RangeEst :=
  if blockLowHf b then { e with offset := e.offset.move x.offset, gain := e.gain.move x.gain }
  else ⟨e.offset.move x.offset, e.gain.move x.gain, e.timing.move x.timing, e.beta.move x.beta⟩

/-- The notes of a block that begins in the next cc. -/
def Cell.newBlock (c : Cell) : Cell :=
  { c with cor := { c.cor with blockFrontEnd := false, blockCut := false, blockDisabled := !c.flag K.BgEnable } }

/-- The present cc is the last of a block (R131).  DESIGN CHOICE (log entry 168): the grid of blocks runs on over a bypass period by cc
numbers, and a block that would end in the gap is neither accepted nor rejected. -/
def Cell.endsBlock (c : Cell) : Bool :=
  2 ≤ c.get K.FgCalState && c.clk.onFcc && c.cor.bgStart ≤ c.now && (c.now + 1 - c.cor.bgStart) % 65536 == 0

/-- BG_BLOCK_END, in the last cc of a block: the block is rejected with its cause, or moves the estimates of the applied range, predicts
the spurs and may ask for a recalibration (R131 to R135). -/
def execBgBlockEnd (n : CellNo) (w : When) (b : BgBlock) (s : State) : Out :=
  onCell s n w (fun g c =>
    if !c.endsBlock then c else
    let why := c.blockReject b
    if why ≠ 0 then
      let c := c.newBlock.inc32 K.BgBlocksRejected
      { c.put K.BgLastRejectCause why with cor := { c.cor with lastRejected := true, accepted := 0 } }
    else
      let r := c.get K.RangeApplied
      let e := ((c.cor.est[r]?).getD (setEst (c.setOf r))).accept b (c.blockEst b)
      let k := min 64 (c.cor.accepted + 1)
      let c : Cell := { c with cor :=
        { c.cor with est := setAt c.cor.est r e, accepted := k, converged := c.cor.converged || k = 64, lastRejected := false } }
      let c := c.newBlock.inc32 K.BgBlocksAccepted
      let c := if blockLowHf b then c.inc32 K.BgTimingSkipped else c
      let c := c.predictSpurs e
      let cause := c.recalCause g n e
      if c.bgState = 2 && c.flag K.RecalEnable && cause ≠ 0 then c.requestRecal cause else c)

/-! Recalibration (R135 to R140) -/

/-- RECAL_REQUEST: cause 3, refused unless BgState is 2 (R135). -/
def execRecalRequest (n : CellNo) (w : When) (p : Port) (s : State) : Out :=
  onCellPort s n w p K.RecalRequest (fun _ c => if c.bgState = 2 then .ok (c.requestRecal 3) else .error abortState)

/-- The estimate rounded to a coefficient and clamped. -/
def Estimate.toCoefs (e : Estimate) (lim : Int) : List Int := e.nums.map (fun x => clampI lim (rneDiv x (16 ^ e.pow)))

/-- The coarse change n of a track-and-hold: its mean over 25 fs, when the mean exceeds ±50 fs, within the DAC's range (R137). -/
def coarseStep (t : Estimate) (p : Nat) (old : Int) : Int :=
  let sum := trackSum t.nums p
  let den := 16 * 16 ^ t.pow
  if sum.natAbs ≤ 500 * den then 0 else max (-128) (min 127 (old + roundAway sum (250 * den))) - old

/-- The timing list lowered by 250 LSB per coarse step of its track-and-hold (R137). -/
def lowerTiming (xs : List Int) (ns : List Int) : List Int :=
  ((List.range xs.length).zip xs).map (fun p => p.2 - 250 * coef ns (p.1 % 8))

/-- RECAL_DONE: the granted recalibration leaves its shadow set, releases the hayward and clears RecalPending (R136, R137).  DESIGN CHOICE
(log entry 127): CoarseRetrimCount counts here, also when the shadow is discarded later. -/
def execRecalDone (n : CellNo) (w : When) (s : State) : Out :=
  onCell s n w (fun _ c =>
    if c.get K.HaywardHolder ≠ 1 then c else
    let r := c.get K.RangeApplied
    let e := (c.cor.est[r]?).getD (setEst (c.setOf r))
    let ns := (List.range 8).map (fun p => coarseStep e.timing p (c.geti 8 (K.CoarsePhase + p)))
    let t := (lowerTiming (e.timing.nums.map (fun x => rneDiv x (16 ^ e.timing.pow))) ns).map (clampI limTiming)
    let set : CoefSet := ⟨0, 0, e.offset.toCoefs limOffset, e.gain.toCoefs limGain, t, e.beta.toCoefs limBeta⟩
    let c := if ns.all (· == 0) then c else c.inc32 K.CoarseRetrimCount
    let c : Cell := { c with cor := { c.cor with shadow := some ⟨r, set, ns, c.cor.cause⟩ } }
    (c.put K.RecalPending 0).releaseToken)

/-- COEF_SET_WRITE: the whole value is checked, then staged; its first 16 bytes keep those of the stored set (R140). -/
def Cell.writeCoefSet (c : Cell) (r : Fin 8) (data : List Byte) : Except Nat Cell :=
  if 800 < data.length then .error abortTooLong
  else if data.length ≠ 800 || !(decodeSet data).valid then .error abortValue else
  let c := c.putDom (K.CoefSet + r.val) ((encodeSet (c.setOf r.val)).take 16 ++ data.drop 16)
  .ok ({ c with cor := { c.cor with written := r.val :: c.cor.written.filter (· != r.val) } } : Cell).lateStage

def execCoefSetWrite (n : CellNo) (w : When) (p : Port) (r : Fin 8) (data : List Byte) (s : State) : Out :=
  onCellPort s n w p (K.CoefSet + r.val) (fun _ c => c.writeCoefSet r data)

/-- A recalibration that runs or whose shadow waits is abandoned: RecalPending stays set or sets again (R139).  DESIGN CHOICE (log entry
156): also when RecalEnable was cleared during the grant. -/
def Cell.abandonRecal (c : Cell) (reason : Nat) : Cell :=
  let running := c.get K.HaywardHolder = 1
  if !running && c.cor.shadow.isNone then c else
  let c : Cell := { c with cor := { c.cor with shadow := none } }
  let c := (c.inc32 K.RecalAbandoned).log 0x0204 1 (leBytes 1 reason)
  if running then (c.put K.RecalPending 1).releaseToken else c.setMaint K.RecalPending 1

/-- Add the coarse changes to the phases (R138). -/
def addCoarse (c : Cell) : List Int → Nat → Cell
  | [], _ => c
  | x :: xs, p => addCoarse (c.puti 8 (K.CoarsePhase + p) (c.geti 8 (K.CoarsePhase + p) + x)) xs (p + 1)

/-- The estimates follow the coarse edges they were taken behind (log entry 31). -/
def RangeEst.lower (e : RangeEst) (ns : List Int) : RangeEst :=
  { e with timing := { e.timing with nums :=
      ((List.range e.timing.nums.length).zip e.timing.nums).map (fun p => p.2 - 250 * (16 ^ e.timing.pow : Nat) * coef ns (p.1 % 8)) } }

/-- The sets a commit applies: every range written since the last commit takes its staged copy, and CalTemp and CalFs are filled
(R140).  DESIGN CHOICE (log entry 167): a set whose staged copy is older than the last commit is not taken again, so what a recalibration
left stays.  DESIGN CHOICE (log entry 128): they are filled at this boundary also for a range that is not applied. -/
def applyWritten (c : Cell) (temp : Int) (fs : Nat) : List Nat → List CoefSet → List CoefSet
  | [], sets => sets
  | r :: rs, sets =>
    applyWritten c temp fs rs (setAt sets r { decodeSet (c.dom (K.CoefSet + r) (encodeSet (c.setOf r))) with calTemp := temp, calFs := fs })

/-- The correction's part of a swath boundary: host sets of an applied commit, then a waiting shadow with its coarse changes, which
the host's set of the same range replaces (R138 to R140).  `newSwath` is the SwathCount of the swath that starts.  DESIGN CHOICE (log
entry 129): CalFs is the applied rate in MS/s rounded down.  A shadow that the host's set replaces leaves RecalPending as it is (log
entry 33). -/
def Cell.correctionBoundary (c : Cell) (g : Glob) (n : CellNo) (committed : Bool) (newSwath : Nat) : Cell :=
  let temp := chipTemp g n
  let fs := c.get K.SampleRateApplied / 1000000
  let hostSets := if committed then c.cor.written else []
  let c : Cell := if committed
    then { c with cor := { c.cor with sets := applyWritten c temp fs hostSets c.cor.sets, written := [] } } else c
  match (if c.endsNow 1 then none else c.cor.shadow) with
  | none => c
  | some sh =>
    let c := addCoarse { c with cor := { c.cor with shadow := none, est := c.cor.est.map (fun e => e.lower sh.coarse) } } sh.coarse 0
    if hostSets.contains sh.range then (c.inc32 K.RecalAbandoned).log 0x0204 1 (leBytes 1 3) else
    let c : Cell := { c with cor := { c.cor with sets := setAt c.cor.sets sh.range { sh.set with calTemp := temp, calFs := fs } } }
    ((c.inc32 K.RecalCount).put K.LastRecalSwath newSwath).log 0x0203 0
      (leBytes 1 sh.cause ++ sh.coarse.flatMap (fun x => leBytes 1 (raw 8 x)))

end Sys2Proof.Machine
end

