-- ==== Sys2Proof/Machine/Samples.lean ====
section
/-! DEFINITION. The correction path from the converter array to the corrected stream (R80, R83, R84, R88, R90, R123, R125, R138): offset,
gain, timing and bandwidth correction, the rails, and the bandwidth-limit filter, each sample by the settings in force at its own
index. -/

namespace Sys2Proof.Machine

/-! Settings (R90, R125, R138) -/

/-- The settings in force now. -/
def Cell.frontNow (c : Cell) : FrontSet :=
  ⟨0, c.get K.RangeApplied, c.geti 16 K.OffsetDacCode, c.get K.BandwidthApplied, c.appliedSet⟩

/-- The settings in force at sample `k`. -/
def Cell.frontAt (c : Cell) (k : Nat) : FrontSet := (settingBefore FrontSet.until' c.fe.past k).getD c.frontNow

/-- From sample `s0` on the settings of now follow `old` (R90). -/
def Cell.noteFront (c : Cell) (old : FrontSet) (s0 : Nat) : Cell :=
  if c.frontNow = old then c else
  { c with fe := { c.fe with past := { old with until' := s0 } :: keepPast FrontSet.until' c.now c.fe.past } }

/-! The corrections (R123) -/

/-- Offset and gain correction of sample `k`, in 2^-22 code; a sub-converter without mismatch gives the code of R80. -/
def Cell.gainStage (c : Cell) (k : Nat) : Samp → Int
  | .corrected v => 65536 * v
  | .raw x _ _ =>
    (c.frontAt k).set.gained (k % 128) x
  | .ideal uv =>
    let f := c.frontAt k
    rneDiv (65536 * (65536 * uv - f.dac * rangeUv f.range)) (rangeUv f.range)

/-- Timing correction of sample `k` from the nine gain-corrected samples about it, in 2^-54 code over the time unit. -/
def Cell.timingStage (c : Cell) (k : Nat) (w : List Int) : Int := c.timed (c.frontAt k).set (k % 128) w

/-- Bandwidth correction of sample `k` from the seven timing-corrected samples about it, rounded with halves to even and saturated, in
1/64 code. -/
def Cell.bandwidthStage (c : Cell) (k : Nat) (w : List Int) : Int :=
  let y := coef w 3 * 2 ^ 47 + coef (c.frontAt k).set.beta (k % 8) * dotI (emphasisTaps (c.get K.SampleRateApplied)) w
  satS 16 (rneDiv y (2 ^ 95 * c.timeUnit.toNat))

/-- Sample `k` lies in a leg overload (R84). -/
def Cell.inOverload (c : Cell) (k : Nat) : Bool :=
  spansMeet c.fe.rails k k || (match c.fe.overloadFrom with | some f => f ≤ k | none => false)

/-- Sample `k` ahead of the bandwidth limit, from what the correction gives: the rail of its sign when it was over range or in a leg
overload (R83, R84, R123).  DESIGN CHOICE (log entry 165): a sample given by its voltage sets the over-range bit below code −512 and from
code +512 on. -/
def Cell.railStage (c : Cell) (k : Nat) (y : Int) : Samp → Int
  | .corrected v => satS 16 v
  | .raw x ovr neg => if ovr then railValue (0 ≤ x) else if c.inOverload k then railValue (!neg) else y
  | .ideal uv =>
    let f := c.frontAt k
    let code := 65536 * uv - f.dac * rangeUv f.range
    if code < -32768 * rangeUv f.range || 32768 * (rangeUv f.range : Int) ≤ code then railValue (0 ≤ code)
    else if c.inOverload k then railValue (0 ≤ uv) else y

/-- Corrected sample `k` from the 47 samples about it (R88, R90); one given as the consumers get it stands. -/
def Cell.limitStage (c : Cell) (k : Nat) (w : List Int) : Samp → Int
  | .corrected v => satS 16 v
  | _ =>
    match (c.frontAt k).bandwidth with
    | 0 => coef w 23
    | b => satS 16 (rneShift (dotI (bandwidthTaps (c.get K.SampleRateApplied) b) w) 32)

/-- The corrected stream from sample `first` on. -/
def Cell.corrected (c : Cell) (first : Nat) (samps : List Samp) : List Int :=
  let ks := List.range' first samps.length
  let gained := List.zipWith c.gainStage ks samps
  let timed := List.zipWith c.timingStage ks (windows 4 gained)
  let code := List.zipWith c.bandwidthStage ks (windows 3 timed)
  let railed := List.zipWith (fun k p => c.railStage k p.1 p.2) ks (code.zip samps)
  List.zipWith (fun k p => c.limitStage k p.1 p.2) ks ((windows 23 railed).zip samps)

end Sys2Proof.Machine
end

