-- ==== Sys2Proof/Machine/Filter.lean ====
section
/-! DEFINITION. The filter engine (R147 to R168): stage arithmetic, the output grid, flags, coefficient banks, swaps and cross-fades,
lane restarts. -/

namespace Sys2Proof.Machine

/-! Values (R148 to R151) -/

/-- Shift right, round with halves to even, saturate; and whether it saturated (R148). -/
def stageShift (x : Int) (s : Nat) : Int × Bool :=
  let v := rneShift x s
  (satS 16 v, v < -32768 || 32767 < v)

/-- `n` I32 values of a block. -/
def i32List (bs : List Byte) : Nat → List Int
  | 0 => []
  | n + 1 => sgn 32 (leNat (bs.take 4)) :: i32List (bs.drop 4) n

/-- Every coefficient of a block is an 18-bit signed value (R148). -/
def coefsOk (bs : List Byte) : Bool := (i32List bs (bs.length / 4)).all (fun v => -131072 ≤ v && v ≤ 131071)

def i32Bytes (xs : List Int) : List Byte := xs.flatMap (fun x => leBytes 4 (raw 32 x))

/-- The reset content of Stage1Coefs (R149). -/
def stage1Default : List Byte := i32Bytes (List.replicate 15 0 ++ [65536] ++ List.replicate 16 0)

/-- The settings in force at sample `k`. -/
def settingAt : List FilterSet → Nat → FilterSet
  | [], _ => ⟨0, true, i32List stage1Default 32, 16, [16, 16, 16, 16], [17, 17, 17, 17]⟩
  | s :: ss, k => if s.start ≤ k then s else settingAt ss k

/-- Stage-1 outputs `k` to `k + n - 1`, each with its saturation, from the corrected samples of `w`, which begins at sample k − 16
(R149). -/
def stage1Run (ss : List FilterSet) (k : Nat) : Nat → List Int → List (Int × Bool)
  | 0, _ => []
  | n + 1, w =>
    let s := settingAt ss k
    let y := if s.bypass then (coef w 16, false) else stageShift (dotI s.coefs.reverse w) s.shift1
    y :: stage1Run ss (k + 1) n (w.drop 1)

/-- The values of a list that begins at index `first`, from index `lo` on; indices before the list read 0. -/
def fromIndex (lo : Int) (first : Nat) (xs : List Int) : List Int :=
  if lo < first then List.replicate ((first : Int) - lo).toNat 0 ++ xs else xs.drop (lo - first).toNat

/-! The output grid (R150 to R152) -/

/-- Taps behind one stage-2 output, and the distance h of its reference sample; with Decimation 1 stage 2 is bypassed (R150). -/
def LanePlan.span2 (p : LanePlan) : Nat := if 2 ≤ p.decim then p.taps else 1
def LanePlan.half (p : LanePlan) : Nat := if 2 ≤ p.decim then (p.taps - 1) / 2 else 0
/-- Stage-1 outputs per lane output. -/
def LanePlan.step (p : LanePlan) : Nat := p.decim * p.boxcar
/-- Values per lane output (R151). -/
def LanePlan.values (p : LanePlan) : Nat := if p.mode = 1 ∨ p.mode = 3 then 2 else 1
/-- Outputs marked at a restart or a swap without a fade (R164). -/
def LanePlan.settle (p : LanePlan) : Nat := if 2 ≤ p.decim ∧ p.mode ≠ 1 then ceilDiv (p.taps - 1) p.decim else 0

/-- Reference sample of stage-2 output `q`: m_q = n_q − h (R150). -/
def LaneSeq.refOf (s : LaneSeq) (q : Nat) : Int := (s.n0 + q * s.plan.decim : Nat) - (s.plan.half : Int)

/-- Reference sample of lane output `p` (R151); the grid of sequences that begin near sample 0 may reach before it. -/
def LaneSeq.outRef (s : LaneSeq) (p : Nat) : Int :=
  if s.plan.mode = 1 then (s.n0 + p * s.plan.step : Nat) else s.refOf (p * s.plan.boxcar)

/-- The stage-1 outputs lane output `p` is made of, last one included: its whole block or interval (R151, R164). -/
def LaneSeq.block (s : LaneSeq) (p : Nat) : Int × Nat :=
  if s.plan.mode = 1 then ((s.n0 + p * s.plan.step : Nat), s.n0 + (p + 1) * s.plan.step - 1)
  else ((s.n0 + p * s.plan.step : Nat) - ((s.plan.span2 - 1 : Nat) : Int), s.n0 + p * s.plan.step + (s.plan.boxcar - 1) * s.plan.decim)

/-- The stage-1 outputs behind stage-2 output `q` (R150). -/
def LaneSeq.tapsOf (s : LaneSeq) (q : Nat) : Int × Nat :=
  ((s.n0 + q * s.plan.decim : Nat) - ((s.plan.span2 - 1 : Nat) : Int), s.n0 + q * s.plan.decim)

/-- The stage-1 outputs behind a whole block or interval, as intervals: one when those of neighbouring stage-2 outputs meet (R151). -/
def LaneSeq.blockInputs (s : LaneSeq) (p : Nat) : List (Int × Nat) :=
  if s.plan.mode = 1 ∨ s.plan.decim ≤ s.plan.span2 then [s.block p]
  else (List.range s.plan.boxcar).map (fun i => s.tapsOf (p * s.plan.boxcar + i))

/-- The stage-1 outputs in the span of lane output `p`: in sample mode those of its first stage-2 output only (R152). -/
def LaneSeq.spanInputs (s : LaneSeq) (p : Nat) : List (Int × Nat) :=
  if s.plan.mode = 0 then [s.tapsOf (p * s.plan.boxcar)] else s.blockInputs p

/-- An interval of stage-1 outputs, cut where Stage1Bypass may change, each part with the setting it has (R165). -/
def bypassPieces : List FilterSet → Nat → Nat → List (Nat × Nat × Bool)
  | [], lo, hi => [(lo, hi, true)]
  | s :: ss, lo, hi =>
    if hi < s.start then bypassPieces ss lo hi
    else (max lo s.start, hi, s.bypass) :: if lo < s.start then bypassPieces ss lo (s.start - 1) else []

/-- Corrected samples behind an interval of stage-1 outputs; inputs before n0 do not count (R149, R150). -/
def Cell.samplesOf (c : Cell) (n0 : Nat) (x : Int × Nat) : List Span :=
  let lo := max n0 x.1.toNat
  if x.2 < lo then [] else
  (bypassPieces c.flt.settings lo x.2).map (fun p => if p.2.2 then ⟨p.1, p.2.1⟩ else ⟨p.1 - 16, p.2.1 + 15⟩)

/-- The span of lane output `p` in corrected samples (R152). -/
def Cell.spanOf (c : Cell) (s : LaneSeq) (p : Nat) : List Span := (s.spanInputs p).flatMap (c.samplesOf s.n0)

/-- The newest corrected sample in the span of output `p` of a sequence (R155). -/
def Cell.newestOf (c : Cell) (s : LaneSeq) (p : Nat) : Nat := (c.spanOf s p).foldl (fun a x => max a x.hi) 0

/-- Output `p` belongs to a sequence: its span holds only inputs before the sequence's end (R152). -/
def Cell.inSeq (c : Cell) (s : LaneSeq) (p : Nat) : Bool := match s.stop with | some e => c.newestOf s p < e | none => true

/-- The delivery cycle of output `p` on lane `k` (R155). -/
def Cell.deliveryCc (c : Cell) (k : Nat) (s : LaneSeq) (p : Nat) : Nat := c.newestOf s p / 128 + 19 + 4 * k

/-! One lane output -/

/-- The coefficients of stage-2 output `q`, and while a fade runs the old ones with the weight W (R160). -/
def coefsAt : List BankRun → Nat → List Int × Option (List Int × Nat)
  | [], _ => ([], none)
  | r :: rs, q =>
    if r.startQ ≤ q then
      if q < r.startQ + r.fade then (r.coefs, some ((coefsAt rs (r.startQ - 1)).1, (q + 1 - r.startQ) * 65536 / r.fade))
      else (r.coefs, none)
    else coefsAt rs q

/-- Stage-2 output `q` from the window of stage-1 outputs whose last is n_q: its value and how many results saturated (R150, R160). -/
def stage2 (p : LanePlan) (runs : List BankRun) (shift q : Nat) (window : List Int) : Int × Nat :=
  if p.decim < 2 then (coef window 0, 0) else
  let (new, old) := coefsAt runs q
  let y (cs : List Int) : Int × Bool := stageShift (dotI (cs.take p.taps).reverse window) shift
  let (a, sa) := y new
  match old with
  | none => (a, b2n sa)
  | some (cs, wt) =>
    let (b, sb) := y cs
    (rneDiv (b * (65536 - wt) + a * wt) 65536, b2n sa + b2n sb)

/-- Outputs `q` to `q + n - 1` of stage 2 from the stage-1 outputs that begin at n_q − T + 1. -/
def stage2Run (c : Cell) (k : Nat) (s : LaneSeq) (q : Nat) : Nat → List Int → List (Int × Nat)
  | 0, _ => []
  | n + 1, ys =>
    let shift := ((settingAt c.flt.settings (s.refOf q).toNat).shift2[k]?).getD 16
    stage2 s.plan s.runs shift q (ys.take s.plan.span2) :: stage2Run c k s (q + 1) n (ys.drop s.plan.decim)

def minI (xs : List Int) : Int := xs.foldl min (coef xs 0)
def maxI (xs : List Int) : Int := xs.foldl max (coef xs 0)

/-- A lane output: its values, its reference sample, its flags, and whether stage 3 saturated. -/
structure LaneOut where
  vals : List Int
  ref : Int
  uns : Bool
  ovr : Bool
  sat3 : Nat
deriving DecidableEq, Repr

/-- Some stage-2 output from `q` on, `n` of them, lies in the marked beginning of a bank run (R164). -/
def runsMark (p : LanePlan) (runs : List BankRun) (q n : Nat) : Bool :=
  runs.any (fun r => r.mark && q < r.startQ + p.settle && r.startQ < q + n)

/-- Some stage-1 output of an interval is unsettled (R164): marked itself, or with an unsettled corrected sample in its span.
Samples before the first of the present stretch on fcc do not exist and count as unsettled. -/
def Cell.stage1Unsettled (c : Cell) (n0 : Nat) (x : Int × Nat) : Bool :=
  spansMeet c.flt.marks (max n0 x.1.toNat) x.2 ||
  (c.samplesOf n0 x).any (fun y => spansMeet c.fe.unsettled y.lo y.hi || y.lo < 128 * c.clk.fccStart)

/-- Samples on either side of one that its correction and bandwidth limit reach: 23, 4 and 3 (R88, R123); none for samples given as the
consumers get them. -/
def sampReach (samps : List Samp) : Nat :=
  if samps.all (fun x => match x with | .corrected _ => true | _ => false) then 0 else 30

/-- The saturated stage-1 outputs among those that the corrected samples given from `first` on let the cell compute, from `satFrom` on
(R147 to R149): all that have their span, with what its correction reaches, in the list, or that begin with the present stretch on fcc.
The others count with a later list. -/
def Cell.stage1Saturated (c : Cell) (first : Nat) (samps : List Samp) : Nat × Nat :=
  let n0 := 128 * c.clk.fccStart
  let lo := max c.flt.satFrom (if first ≤ n0 then n0 else first + 16 + sampReach samps)
  let hi := first + samps.length - 15 - sampReach samps
  let ys := stage1Run c.flt.settings lo (hi - lo) (fromIndex ((lo : Int) - 16) first (c.corrected first samps))
  ((ys.filter (·.2)).length, max c.flt.satFrom hi)

/-- Stage 1 runs on the corrected samples given, whatever lanes there are; foreground calibration feeds no consumer (R127, R147). -/
def Cell.countStage1 (c : Cell) (first : Nat) (samps : List Samp) : Cell :=
  if c.get K.FgCalState = 1 then c else
  let r := c.stage1Saturated first samps
  (Cell.add32 { c with flt := { c.flt with satFrom := r.2 } } K.Stage1SatCount r.1)

/-- Output `p` of a sequence of lane `k`, from corrected samples given from sample `first` on (R148 to R153, R164). -/
def Cell.laneOutput (c : Cell) (k : Nat) (s : LaneSeq) (p first : Nat) (samps : List Samp) : LaneOut :=
  let (blo, bhi) := s.block p
  let lo := max (s.n0 : Int) blo
  let count := (bhi + 1 - lo).toNat
  let ys := stage1Run c.flt.settings lo.toNat count (fromIndex (lo - 16) first (c.corrected first samps))
  let vals1 := List.replicate (lo - blo).toNat 0 ++ ys.map (·.1)
  let q := p * s.plan.boxcar
  let v2 := if s.plan.mode = 1 then [] else (stage2Run c k s q s.plan.boxcar vals1).map (·.1)
  let shift3 := ((settingAt c.flt.settings (s.outRef p).toNat).shift3[k]?).getD 17
  let rl : Int := rneDiv 131072 s.plan.boxcar
  let (hi, s3) := stageShift (rl * sumMap id v2) shift3
  let out := match s.plan.mode with
    | 0 => [coef v2 0]
    | 1 => [minI vals1, maxI vals1]
    | 2 => [hi]
    | _ => [minI v2, maxI v2]
  { vals := out
    ref := s.outRef p
    uns := (s.blockInputs p).any (c.stage1Unsettled s.n0) || (s.plan.mode != 1 && runsMark s.plan s.runs q s.plan.boxcar)
    ovr := (c.spanOf s p).any (fun x => c.overIn x.lo x.hi)
    sat3 := if s.plan.mode = 2 ∧ s3 then 1 else 0 }

/-- The stage-2 outputs from `counted` on that exist once output `p` is handed on: in sample mode only the first of its block, since the
others lie behind its span (R152). -/
def LaneSeq.dueWith (s : LaneSeq) (p : Nat) : Nat :=
  if s.plan.mode = 0 then p * s.plan.boxcar + 1 else (p + 1) * s.plan.boxcar

/-- The stage-2 outputs of an ended sequence behind its last lane output: those of the unfinished block whose inputs all lie before the end
(R148, R152). -/
def Cell.tailDue (c : Cell) (s : LaneSeq) : Nat :=
  match s.stop with
  | none => s.counted
  | some e =>
    let before (q : Nat) : Bool := (c.samplesOf s.n0 (s.tapsOf q)).all (fun x => x.hi < e)
    let qs := List.range' s.counted ((s.next + 1) * s.plan.boxcar - s.counted)
    s.counted + (qs.takeWhile before).length

/-- Results of stage 2 that saturate among its outputs from `counted` to `upTo`, from corrected samples given from `first` on (R148,
R160); none where stage 2 is not used. -/
def Cell.stage2Saturated (c : Cell) (k : Nat) (s : LaneSeq) (upTo first : Nat) (samps : List Samp) : Nat :=
  if s.plan.mode = 1 ∨ s.plan.decim < 2 then 0 else
  let begin' := (s.tapsOf s.counted).1
  let lo := max (s.n0 : Int) begin'
  let count := (((s.tapsOf (upTo - 1)).2 : Int) + 1 - lo).toNat
  let ys := stage1Run c.flt.settings lo.toNat count (fromIndex (lo - 16) first (c.corrected first samps))
  let vals1 := List.replicate (lo - begin').toNat 0 ++ ys.map (·.1)
  ((stage2Run c k s s.counted (upTo - s.counted) vals1).map (·.2)).foldl (· + ·) 0

/-! Lanes -/

def Cell.lane (c : Cell) (k : Fin 4) : Lane := c.flt.lanes.get k
def Cell.setLane (c : Cell) (k : Fin 4) (l : Lane) : Cell := { c with flt := { c.flt with lanes := c.flt.lanes.set k l } }

/-- The sequence that runs. -/
def Lane.running (l : Lane) : Option LaneSeq :=
  match l.seqs.getLast? with
  | some s => if s.stop.isNone then some s else none
  | none => none

def Lane.setRunning (l : Lane) (s : LaneSeq) : Lane := { l with seqs := l.seqs.dropLast ++ [s] }

/-- The key of a lane's entry. -/
def laneKey (key : Nat) (k : Fin 4) : Nat := key + 0x100 * k.val

def Cell.bankCoefs (c : Cell) (k : Fin 4) (b : Nat) : List Int :=
  i32List (c.dom (laneKey (if b = 0 then K.Stage2Bank0 else K.Stage2Bank1) k) []) 512

/-- A latched request is discarded (R162). -/
def Cell.discardLatch (c : Cell) (k : Fin 4) : Cell :=
  let l := c.lane k
  if l.latch.isNone then c else
  ((c.setLane k { l with latch := none }).put (laneKey K.SwapDeferred k) 0).inc32 (laneKey K.LatchDiscarded k)

/-- A running fade ends (R160, R162). -/
def Cell.endFade (c : Cell) (k : Fin 4) : Cell :=
  (c.setLane k { c.lane k with fadeEnd := none }).put (laneKey K.FadeActive k) 0

/-- The running sequence ends before sample `n0` (R152). -/
def Cell.stopLane (c : Cell) (k : Fin 4) (n0 : Nat) : Cell :=
  let l := c.lane k
  match l.running with
  | none => c
  | some s => c.setLane k (l.setRunning { s with stop := some n0 })

/-- A lane restart at n0 under a plan (R163): the old sequence ends, a fade ends with its new bank, a latch is discarded. -/
def Cell.restartLane (c : Cell) (k : Fin 4) (p : LanePlan) (n0 : Nat) : Cell :=
  let c := ((c.stopLane k n0).discardLatch k).endFade k
  let l := c.lane k
  let s : LaneSeq := ⟨p, n0, 0, [⟨0, 0, c.bankCoefs k (c.get (laneKey K.LaneActiveBank k)), true⟩], none, 0⟩
  (c.setLane k { l with seqs := l.seqs ++ [s], stopped := false, plan := some p }).put (laneKey K.LastRestartSample k) n0

/-- An image swap disables the lane (R162). -/
def Cell.disableLane (c : Cell) (k : Fin 4) (n0 : Nat) : Cell :=
  let c := ((c.stopLane k n0).discardLatch k).endFade k
  c.setLane k { c.lane k with stopped := false, plan := none }

def otherBank (b : Nat) : Nat := 1 - b

/-- The other bank becomes active: a swap has started (R159). -/
def Cell.toggleBank (c : Cell) (k : Fin 4) : Cell :=
  (c.put (laneKey K.LaneActiveBank k) (otherBank (c.get (laneKey K.LaneActiveBank k)))).inc32 (laneKey K.SwapCount k)

/-- A swap starts with stage-2 output `q` and fade length `len` (R159 to R161); in peak-detect mode it only toggles.  DESIGN CHOICE (log
entry 130): LastSwapReference is then the reference sample n_q − h that stage-2 output `q` would have. -/
def Cell.startSwap (c : Cell) (k : Fin 4) (s : LaneSeq) (q len : Nat) : Cell :=
  let c := (c.toggleBank k).put (laneKey K.LastSwapReference k) (s.refOf q).toNat
  if s.plan.mode = 1 then c else
  let coefs := c.bankCoefs k (c.get (laneKey K.LaneActiveBank k))
  let l := c.lane k
  let l := l.setRunning { s with runs := ⟨q, len, coefs, len == 0⟩ :: s.runs }
  if len = 0 then c.setLane k l
  else (c.setLane k { l with fadeEnd := some (q + len) }).put (laneKey K.FadeActive k) 1

/-- The first stage-2 output whose reference sample is `s0` or later. -/
def LaneSeq.firstQ (s : LaneSeq) (s0 : Nat) : Nat := ceilDiv (s0 + s.plan.half - s.n0) s.plan.decim

/-- FadeReserve becomes 0 while a fade runs: the new bank serves alone from S0', marked as for fade length 0 (R162). -/
def Cell.cutFade (c : Cell) (k : Fin 4) (s0 : Nat) : Cell :=
  let l := c.lane k
  match l.fadeEnd, l.running with
  | some _, some s =>
    let c := (c.discardLatch k).endFade k
    let q := max (match s.runs with | r :: _ => r.startQ | [] => 0) (s.firstQ s0)
    let coefs := match s.runs with | r :: _ => r.coefs | [] => []
    let l := c.lane k
    c.setLane k (l.setRunning { s with runs := ⟨q, 0, coefs, true⟩ :: s.runs })
  | _, _ => c

/-- The grid of a plan is the same (R163). -/
def LanePlan.sameGrid (a b : LanePlan) : Bool :=
  a.decim == b.decim && a.taps == b.taps && a.boxcar == b.boxcar && a.mode == b.mode

/-- The plan an image gives lane `k`: an entry whose enable flag is set (R57). -/
def planOf (m : Option Image) (k : Fin 4) : Option LanePlan :=
  match m with
  | none => none
  | some m => m.enabledLane k.val

/-- An image swap meets lane `k`; true when it restarted (R162, R163). -/
def Cell.swapLane (c : Cell) (k : Fin 4) (s0 : Nat) : Cell × Bool :=
  let l := c.lane k
  match planOf c.exe.active k with
  | none => (if l.plan.isSome then c.disableLane k s0 else c, false)
  | some p =>
    match l.plan, l.running with
    | some old, some s =>
      if old.sameGrid p then
        let c := if p.fade = 0 && old.fade != 0 then c.cutFade k s0 else c
        let s := ((c.lane k).running).getD s
        (c.setLane k { (c.lane k).setRunning { s with plan := p } with plan := some p }, false)
      else (c.restartLane k p s0, true)
    | _, _ => (c.restartLane k p s0, true)

/-- MacReserved of the active plan (R154). -/
def macReserved (m : Option Image) : Nat :=
  match m with
  | none => 0
  | some m => (List.range 4).foldl (fun a k => match m.enabledLane k with | some p => a + p.mac + p.fade | none => a) 0

def allLanes : List (Fin 4) := [0, 1, 2, 3]

/-- R166 step 1: the image swap, with the lanes it restarted. -/
def Cell.swapLanes (c : Cell) (s0 : Nat) : Cell × List (Fin 4) :=
  let c := c.put K.MacReserved (macReserved c.exe.active)
  allLanes.foldl (fun a k => let r := a.1.swapLane k s0; (r.1, if r.2 then k :: a.2 else a.2)) (c, [])

/-- The settings a lane output can still reach: those from sample `h` on, and the ones in force there. -/
def keepSettings (h : Nat) : List FilterSet → List FilterSet
  | [] => []
  | s :: ss => if s.start ≤ h then [s] else s :: keepSettings h ss

/-- R166 step 2: the committed filter settings apply from S0' on (R165), with the marks of R164. -/
def Cell.applyFilter (c : Cell) (s0 : Nat) (coefs : List Byte) : Cell :=
  let old := settingAt c.flt.settings s0
  let per (key : Nat) : List Nat := allLanes.map (fun k => c.swath (laneKey key k))
  let new : FilterSet := ⟨s0, c.swath K.Stage1Bypass != 0, i32List coefs 32, c.swath K.Stage1Shift, per K.Stage2Shift, per K.Stage3Shift⟩
  if { new with start := old.start } = old then c else
  let marks := if !new.bypass && (old.bypass || new.coefs != old.coefs) then keepSpans c.now c.flt.marks ++ [⟨s0, s0 + 30⟩]
               else c.flt.marks
  { c with flt := { c.flt with settings := new :: keepSettings (128 * c.now - 2097152) c.flt.settings, marks := marks } }

/-- R166 step 3: a bank swap request sampled at the boundary (R159, R162). -/
def Cell.takeSwap (c : Cell) (k : Fin 4) (s0 : Nat) (restarted : Bool) : Cell :=
  let c := c.put (laneKey K.SwapWaiting k) 0
  match (c.lane k).plan, (c.lane k).running with
  | some p, some s =>
    let len := if p.fade = 0 then 0 else c.swath (laneKey K.FadeLength k)
    if restarted then
      let c := (c.toggleBank k).put (laneKey K.LastSwapReference k) (s.refOf 0).toNat
      let coefs := c.bankCoefs k (c.get (laneKey K.LaneActiveBank k))
      c.setLane k ((c.lane k).setRunning { s with runs := [⟨0, 0, coefs, true⟩] })
    else if (c.lane k).fadeEnd.isSome then
      ((c.setLane k { c.lane k with latch := some len }).put (laneKey K.SwapDeferred k) 1).inc32 (laneKey K.SwapDeferredCount k)
    else c.startSwap k s (s.firstQ s0) len
  | _, _ => c.toggleBank k

def Cell.takeSwaps (c : Cell) (s0 : Nat) (waiting restarted : List (Fin 4)) : Cell :=
  waiting.foldl (fun c k => c.takeSwap k s0 (restarted.contains k)) c

/-- The lanes whose request waits for the boundary. -/
def Cell.waitingSwaps (c : Cell) : List (Fin 4) := allLanes.filter (fun k => c.flag (laneKey K.SwapWaiting k))

/-- A switch to the bypass clock begins: the lanes use no sample from `z` on (R112); a fade ends at the restart that follows (R162). -/
def Cell.cutLanes (c : Cell) (z : Nat) : Cell := allLanes.foldl (fun c k => c.stopLane k z) c

/-- The enabled lanes stand on the bypass clock (R168). -/
def Cell.stopLanes (c : Cell) : Cell :=
  allLanes.foldl (fun c k => if (c.lane k).plan.isSome then c.setLane k { c.lane k with stopped := true } else c) c

/-- Every enabled lane restarts at the first sample on fcc (R163). -/
def Cell.restartLanes (c : Cell) (n0 : Nat) : Cell :=
  allLanes.foldl (fun c k => match (c.lane k).plan with | some p => c.restartLane k p n0 | none => c) c

/-! Commands -/

/-- STAGE2_BANK_WRITE (R157): an access error while the bank may not be written, counted; a value error for a wrong length or value. -/
def bankKey (k : Fin 4) (b : Fin 2) : Nat := laneKey (if b = 0 then K.Stage2Bank0 else K.Stage2Bank1) k

def Cell.writeBank (c : Cell) (k : Fin 4) (b : Fin 2) (data : List Byte) : Cell × Nat :=
  let busy := (c.lane k).plan.isSome && (c.get (laneKey K.LaneActiveBank k) == b.val || (c.lane k).fadeEnd.isSome ||
    c.flag (laneKey K.SwapWaiting k) || (c.lane k).latch.isSome)
  if 2048 < data.length then (c, abortTooLong)
  else if busy then (c.inc32 (laneKey K.BankWriteRefused k), abortState)
  else if data.length ≠ 2048 || !coefsOk data then (c, abortValue) else (c.putDom (bankKey k b) data, 0)

def execStage2BankWrite (n : CellNo) (w : When) (p : Port) (k : Fin 4) (b : Fin 2) (data : List Byte) (s : State) : Out :=
  onCellRecord s n w p (bankKey k b) (fun _ c => c.writeBank k b data)

/-- BANK_SWAP_REQUEST (R158): the request waits for its boundary, unless one waits or is latched already, or a fade length is active
without a reserve. -/
def execBankSwapRequest (n : CellNo) (w : When) (p : Port) (k : Fin 4) (s : State) : Out :=
  onCellPort s n w p (laneKey K.BankSwapRequest k) (fun _ c =>
    let noReserve := match (c.lane k).plan with | some pl => pl.fade = 0 && c.swath (laneKey K.FadeLength k) ≠ 0 | none => false
    if c.flag (laneKey K.SwapWaiting k) || (c.lane k).latch.isSome || noReserve then .error abortState
    else .ok (c.put (laneKey K.SwapWaiting k) 1).lateStage)

/-- The samples the lane has had of a sequence lie below this index: all to the present cc, or to the sequence's end (R112). -/
def Cell.laneReach (c : Cell) (s : LaneSeq) : Nat := s.stop.getD (128 * (c.now + 1))

/-- FADE_END: the reference sample of fade output N has come; the old bank is not used any more (R160). -/
def execFadeEnd (n : CellNo) (w : When) (k : Fin 4) (s : State) : Out :=
  onCell s n w (fun _ c =>
    match (c.lane k).fadeEnd, (c.lane k).seqs.getLast? with
    | some e, some sq => if sq.refOf (e - 1) < c.laneReach sq then c.endFade k else c
    | _, _ => c)

/-- DEFERRED_SWAP_START: the latched swap starts with the output after the fade (R159, R160). -/
def execDeferredSwapStart (n : CellNo) (w : When) (k : Fin 4) (s : State) : Out :=
  onCell s n w (fun _ c =>
    match (c.lane k).latch, (c.lane k).seqs.getLast?, (c.lane k).fadeEnd with
    | some len, some sq, none =>
      let q := match sq.runs with | r :: _ => r.startQ + r.fade | [] => 0
      if sq.refOf q < c.laneReach sq then
        let c := (c.setLane k { c.lane k with latch := none }).put (laneKey K.SwapDeferred k) 0
        c.startSwap k sq q len
      else c
    | _, _, _ => c)

/-- FILTER_COUNT_CLEAR (R167). -/
def execFilterCountClear (n : CellNo) (w : When) (p : Port) (s : State) : Out :=
  onCellPort s n w p K.FilterCountClear (fun _ c =>
    let c := c.put K.Stage1SatCount 0
    .ok (allLanes.foldl (fun c k =>
      ((((c.put (laneKey K.Stage2SatCount k) 0).put (laneKey K.Stage3SatCount k) 0).put (laneKey K.UnsettledCount k) 0).put
        (laneKey K.BankWriteRefused k) 0).put (laneKey K.LatchDiscarded k) 0) c))

/-- LaneState (R168). -/
def Cell.laneState (c : Cell) (k : Fin 4) : Nat :=
  let l := c.lane k
  if l.plan.isNone then 0 else if l.stopped then 3 else if l.fadeEnd.isSome then 2 else 1

/-- FadeRemaining: N − q for the newest output q whose reference sample has come (R160). -/
def Cell.fadeRemaining (c : Cell) (k : Fin 4) : Nat :=
  match (c.lane k).fadeEnd, (c.lane k).seqs.getLast? with
  | some e, some s =>
    let done := (c.laneReach s + s.plan.half - s.n0 + s.plan.decim - 1) / s.plan.decim
    let start := match s.runs with | r :: _ => r.startQ | [] => 0
    e - max start (min done e)
  | _, _ => 0

end Sys2Proof.Machine
end

