-- ==== Sys2Proof/Machine/Memory.lean ====
section
/-! DEFINITION. Memory tiers as canonical byte lists, the stook and its symbol code (R244, R289 to R291). -/

namespace Sys2Proof.Machine

/-! Bytes -/

/-- The byte at an address; an unlisted address reads 0. -/
def memGet (m : Memory) (a : Nat) : Byte := (kvFind a m).getD 0

/-- Addresses rise and no entry is 0. -/
def Memory.wf : Memory → Bool
  | [] => true
  | [e] => e.2 != 0
  | e :: f :: m => e.2 != 0 && e.1 < f.1 && Memory.wf (f :: m)

/-- Write one byte; writing 0 removes the entry. -/
def memPut (a : Nat) (b : Byte) : Memory → Memory
  | [] => if b = 0 then [] else [(a, b)]
  | e :: m =>
    if a < e.1 then (if b = 0 then e :: m else (a, b) :: e :: m)
    else if a = e.1 then (if b = 0 then m else (a, b) :: m)
    else e :: memPut a b m

/-- `n` bytes from an address. -/
def memBytes (m : Memory) (a : Nat) : Nat → List Byte
  | 0 => []
  | n + 1 => memGet m a :: memBytes m (a + 1) n

/-- Write bytes from an address on. -/
def memPutBytes (a : Nat) : List Byte → Memory → Memory
  | [], m => m
  | b :: bs, m => memPutBytes (a + 1) bs (memPut a b m)

/-- Every address from `lo` to below `hi` reads 0. -/
def memClear (lo hi : Nat) (m : Memory) : Memory := m.filter (fun e => e.1 < lo || hi ≤ e.1)

/-! Stooks of a tier -/

/-- The 144 bits of stook `s`. -/
def stookAt (m : Memory) (s : Nat) : Nat := leNat (memBytes m (18 * s) 18)
def putStook (s v : Nat) (m : Memory) : Memory := memPutBytes (18 * s) (leBytes 18 v) m

/-- The payload bits [127:0] and the check bits [143:128] (R244). -/
def payload (v : Nat) : Nat := v % 2 ^ 128
def checkBits (v : Nat) : Nat := v / 2 ^ 128 % 2 ^ 16

/-! The symbol code (R289) -/

/-- α times an element of GF(16), with α⁴ = α + 1. -/
def gfAlpha (x : Nat) : Nat := if x < 8 then 2 * x else (2 * x) % 16 ^^^ 3

/-- The product of two elements of GF(16). -/
def gfMul (x y : Nat) : Nat :=
  (if bit y 0 then x else 0) ^^^ (if bit y 1 then gfAlpha x else 0) ^^^ (if bit y 2 then gfAlpha (gfAlpha x) else 0) ^^^
  (if bit y 3 then gfAlpha (gfAlpha (gfAlpha x)) else 0)

/-- The inverse of an element that is not 0: its 14th power. -/
def gfInv (x : Nat) : Nat :=
  let x2 := gfMul x x
  let x4 := gfMul x2 x2
  let x8 := gfMul x4 x4
  gfMul x8 (gfMul x4 x2)

/-- λ = α³. -/
abbrev gfLambda : Nat := 8

/-- A syndrome, or a column: an element of GF(16)⁴. -/
structure Syn where
  s0 : Nat
  s1 : Nat
  s2 : Nat
  s3 : Nat
deriving DecidableEq

/-- The quadric's last coordinate: a² + ab + λb². -/
def quadric (a b : Nat) : Nat := gfMul a a ^^^ gfMul a b ^^^ gfMul gfLambda (gfMul b b)

/-- The column h_i. -/
def column (i : Nat) : Syn :=
  if i < 32 then
    let a := i % 16
    let b := if i < 16 then 2 else 4
    ⟨1, a, b, quadric a b⟩
  else if i = 32 then ⟨0, 0, 0, 1⟩
  else if i = 33 then ⟨1, 0, 0, 0⟩
  else if i = 34 then ⟨1, 1, 0, 1⟩
  else ⟨1, 0, 1, gfLambda⟩

def Syn.add (x y : Syn) : Syn := ⟨x.s0 ^^^ y.s0, x.s1 ^^^ y.s1, x.s2 ^^^ y.s2, x.s3 ^^^ y.s3⟩
def Syn.scale (e : Nat) (x : Syn) : Syn := ⟨gfMul e x.s0, gfMul e x.s1, gfMul e x.s2, gfMul e x.s3⟩

/-- Symbol `i` of a stook. -/
def symbolOf (v i : Nat) : Nat := v / 16 ^ i % 16

/-- Σ s_i h_i over the symbols below `n`. -/
def syndromeOf (v : Nat) : Nat → Syn
  | 0 => ⟨0, 0, 0, 0⟩
  | n + 1 => (syndromeOf v n).add ((column n).scale (symbolOf v n))

def syndrome (v : Nat) : Syn := syndromeOf v 36

/-- The check symbols that make the syndrome 0. -/
def checkOf (p : Nat) : Nat :=
  let y := syndromeOf p 32
  let s34 := y.s1
  let s35 := y.s2
  let s33 := y.s0 ^^^ s34 ^^^ s35
  let s32 := y.s3 ^^^ s34 ^^^ gfMul gfLambda s35
  s32 + 16 * s33 + 256 * s34 + 4096 * s35

/-- A payload with its check symbols. -/
def encodeStook (p : Nat) : Nat := payload p + checkOf (payload p) * 2 ^ 128

/-- The poison form: the correct check bits XOR 0111h (R290). -/
def poisonStook (p : Nat) : Nat := payload p + (checkOf (payload p) ^^^ 0x0111) * 2 ^ 128

/-- The classification of a read (R291). -/
inductive Decoded where
  | clean (v : Nat)
  | corrected (symbol v : Nat)
  | poisoned (v : Nat)
  | uncorrectable (v : Nat)
deriving DecidableEq

/-- The symbol and error a syndrome names, when it is e h_i (R291). -/
def locate (s : Syn) : Option (Nat × Nat) :=
  if s.s0 = 0 then (if s.s1 = 0 ∧ s.s2 = 0 ∧ s.s3 ≠ 0 then some (32, s.s3) else none) else
  let r := gfInv s.s0
  let a := gfMul s.s1 r
  let b := gfMul s.s2 r
  if gfMul s.s3 r ≠ quadric a b then none
  else if b = 2 then some (a, s.s0)
  else if b = 4 then some (16 + a, s.s0)
  else if b = 0 ∧ a = 0 then some (33, s.s0)
  else if b = 0 ∧ a = 1 then some (34, s.s0)
  else if b = 1 ∧ a = 0 then some (35, s.s0)
  else none

/-- The decoder on a stook as read. -/
def decodeStook (v : Nat) : Decoded :=
  let s := syndrome v
  if s = ⟨0, 0, 0, 0⟩ then .clean v
  else if s = ⟨0, 1, 0, 0⟩ then .poisoned v
  else match locate s with
    | some (i, e) => .corrected i (encodeStook (payload (v ^^^ (e * 16 ^ i))))
    | none => .uncorrectable (poisonStook (payload v))

/-- What the decoder delivers. -/
def Decoded.word : Decoded → Nat
  | .clean v => v
  | .corrected _ v => v
  | .poisoned v => v
  | .uncorrectable v => v

/-- A stook in poison form, or one that just failed. -/
def Decoded.bad : Decoded → Bool
  | .clean _ => false
  | .corrected _ _ => false
  | .poisoned _ => true
  | .uncorrectable _ => true

/-- A stook from 16 payload bytes, and the payload bytes of a stook (R244). -/
def stookOf (bs : List Byte) : Nat := encodeStook (leNat (bs.take 16))
def payloadBytes (v : Nat) : List Byte := leBytes 16 (payload v)

end Sys2Proof.Machine
end

