-- ==== Sys2Proof/Machine/Records.lean ====
section
/-! DEFINITION. Accumulator records: what a recorded trigger and the close of its segment do to the accumulator (R310). -/

namespace Sys2Proof.Machine

/-- The record limit: RecordTarget, or 2^24 while average is enabled and RecordTarget is 0; otherwise none (R310). -/
def Cell.recordLimit (c : Cell) : Option Nat :=
  if c.get K.RecordTarget ≠ 0 then some (c.get K.RecordTarget)
  else if bit (c.get K.AccFunctions) 0 then some (2 ^ 24) else none

/-- A recorded trigger starts a record when the run, the limit and SkipForced allow it (R310). -/
def Cell.startRecord (c : Cell) (t : Trigger) (s e : Nat) : Cell :=
  let room := match c.recordLimit with | some n => c.acc.started < n | none => true
  if c.get K.AccState = 1 && room && (!t.forced || !c.flag K.SkipForced) then
    { c with acc :=
      { c.acc with records := c.acc.records ++ [⟨t.sample, t.frac, s, e, true⟩], started := c.acc.started + 1, lastEnd := some e } }
  else c

/-- The segment of trigger `t` closes at `e` (R229, R310); a freeze at the end of the last record follows it (R318). -/
def Cell.closeRecord (c : Cell) (t : Trigger) (e : Nat) : Cell :=
  let mine (r : AccRec) : Bool := r.isOpen && r.sample == t.sample
  let rs := c.acc.records.map (fun r => if mine r then { r with e := e, isOpen := false } else r)
  let last : Bool := match c.acc.records.getLast? with | some r => mine r && c.acc.lastEnd == some r.e | none => false
  let cut := match c.acc.cut, c.acc.lastEnd with
    | some (x, 1), some y => if last && x = y && c.get K.AccState = 2 && c.get K.AccFreezeMode = 1 then some (e, 1) else some (x, 1)
    | x, _ => x
  { c with acc := { c.acc with records := rs, cut := cut, lastEnd := if last then some e else c.acc.lastEnd } }

end Sys2Proof.Machine
end

