-- ==== Sys2Proof/Machine/Units.lean ====
section
/-! DEFINITION. The condition units (R169 to R184, R230 to R232): crossings, fractions, the eight condition types, the timeline-window
qualifier, and the queue of unit events to the combiner. -/

namespace Sys2Proof.Machine

/-! Stamps (R232) -/

/-- The timeline stamp of the placement (j, f) (R232). -/
def Cell.stampOf (c : Cell) (j f : Nat) : Nat :=
  let l := c.lineOf j
  l.pos j + f * (l.pos (j + 1) - l.pos j) / 256

/-! Configuration -/

/-- A unit's entry among a set of Arm-class values. -/
def unitVal (r : Regs) (key u : Nat) : Nat := regGet (cellDflt (key + 0x100 * u)) (key + 0x100 * u) r

/-- What a unit judges by: its Arm-class values and the levels in use (R175, R203). -/
structure UnitCfg where
  typ : Nat
  aux : Bool
  polarity : Nat
  mode : Nat
  level : Int
  low : Int
  high : Int
  hyst : Int
  widthMode : Nat
  width1 : Nat
  width2 : Nat
  timeout : Nat
  mask : Nat
  value : Nat
  edge : Nat
  qual : Nat
  path : Nat
deriving DecidableEq, Repr

/-- Unit `u` under the levels among `lv` and the Arm-class values `r`. -/
def unitCfgOf (lv r : Regs) (u : Nat) : UnitCfg :=
  let geti (k : Nat) : Int := sgn 16 (regGet (cellDflt k) k lv)
  { typ := unitVal r K.UnitType u, aux := unitVal r K.UnitInput u == 1, polarity := unitVal r K.Polarity u, mode := unitVal r K.Mode u
    level := geti (K.LevelApplied + 0x100 * u), low := geti (K.LevelLowApplied + 0x100 * u)
    high := geti (K.LevelHighApplied + 0x100 * u), 
    hyst := (regGet (cellDflt (K.HysteresisApplied + 0x100 * u)) (K.HysteresisApplied + 0x100 * u) lv : Nat)
    widthMode := unitVal r K.WidthMode u, width1 := unitVal r K.Width1 u, width2 := unitVal r K.Width2 u
    timeout := unitVal r K.Timeout u, mask := unitVal r K.LogicMask u, value := unitVal r K.LogicValue u
    edge := unitVal r K.LogicEdge u, qual := unitVal r K.AnalogQualifier u
    path := regGet 0 (K.PlacementPath + u) r }

/-- Unit `u` under the Arm-class values `r` and the levels in use now. -/
def Cell.unitCfg (c : Cell) (r : Regs) (u : Nat) : UnitCfg := unitCfgOf c.regs r u

/-- The levels that judge sample `k` (R203). -/
def Cell.levelsAt (c : Cell) (k : Nat) : Regs := ((settingBefore LevelSet.until' c.trg.levels k).map LevelSet.regs).getD c.regs

/-- The Arm-class values that hold at sample `k` (R205). -/
def Cell.armAt (c : Cell) (k : Nat) : Regs := ((settingBefore ArmSet.until' c.trg.arms k).map ArmSet.regs).getD c.arm

/-- What unit `u` judges sample `k` by. -/
def Cell.cfgAt (c : Cell) (u k : Nat) : UnitCfg := unitCfgOf (c.levelsAt k) (c.armAt k) u

/-- What a unit's input is: none, the corrected stream, the auxiliary comparator, the logic samples or symbols (R169). -/
inductive UnitKind where
  | off
  | analog
  | aux
  | logic
  | serial
deriving DecidableEq, Repr

def UnitCfg.kind (g : UnitCfg) : UnitKind :=
  if g.typ = 0 then .off else if g.aux then .aux else if g.typ = 7 then .logic else if g.typ = 8 then .serial else .analog

/-- The unit's Arm-class values differ between two arms (R205). -/
def unitDiffers (a b : Regs) (u : Nat) : Bool :=
  [K.UnitType, K.UnitInput, K.Polarity, K.Mode, K.WidthMode, K.Width1, K.Width2, K.Timeout, K.LogicMask, K.LogicValue, K.LogicEdge,
   K.AnalogQualifier, K.QualWindow, K.QualSense].any (fun k => unitVal a k u != unitVal b k u) ||
  regGet 0 (K.PlacementPath + u) a != regGet 0 (K.PlacementPath + u) b

/-- A cleared unit that goes on with sample `pos` (R172). -/
def clearedUnit (pos : Nat) : UnitSt :=
  ⟨pos, none, ⟨false, false⟩, ⟨false, false⟩, ⟨false, false⟩, none, none, none, none, false, false, none, none, false, 0, none⟩

/-- A unit that clears its state at sample `pos` and keeps note of its last event. -/
def UnitSt.clearAt (s : UnitSt) (pos : Nat) : UnitSt := { clearedUnit pos with lastEvent := s.lastEvent, lin := s.lin }

/-! Crossings (R174, R230) -/

/-- The crossing of level `l` between two samples, if any: rising or falling; and the flags after it (R174). -/
def crossing (l h : Int) (fl : LevelFlags) (x0 x1 : Int) : Option Bool × LevelFlags :=
  let rising := x0 < l && l ≤ x1 && fl.rise
  let falling := l ≤ x0 && x1 < l && fl.fall
  (if rising then some true else if falling then some false else none,
   ⟨(fl.rise && !rising) || x1 < l - h, (fl.fall && !falling) || l + h ≤ x1⟩)

/-- The flags after a sample that follows a state clear. -/
def firstFlags (l h x : Int) : LevelFlags := ⟨x < l - h, l + h ≤ x⟩

/-- The fraction of a crossing of level `l` between x(j) and x(j + 1) (R230). -/
def crossFrac (l x0 x1 : Int) : Nat :=
  if x1 = x0 then 0 else min 255 (256 * (l - x0).natAbs / (x1 - x0).natAbs)

/-- The width test of R176. -/
def UnitCfg.widthOk (g : UnitCfg) (d : Nat) : Bool :=
  match g.widthMode with
  | 0 => d < g.width1
  | 1 => g.width1 ≤ d
  | 2 => g.width1 ≤ d && d < g.width2
  | _ => d < g.width1 || g.width2 ≤ d

def polarityTakes (pol : Nat) (rising : Bool) : Bool := pol == 2 || (pol == 0) == rising

/-- A measurement that began at `s` ends at `p` and passes the width test. -/
def UnitCfg.ends (g : UnitCfg) (s : Option Nat) (p : Nat) : Bool := match s with | some q => g.widthOk (p - q) | none => false

/-! One crossing of Level, for EDGE, PULSE_WIDTH and TIMEOUT; the unit and the event positions it yields -/

/-- PULSE_WIDTH (R175, R177): the latest crossing starts, the opposite one ends. -/
def pulseCross (g : UnitCfg) (s : UnitSt) (rising : Bool) (p : Nat) : UnitSt × List Nat :=
  if rising then
    ({ s with posStart := some p, negStart := none }, if g.polarity != 0 && g.ends s.negStart p then [p] else [])
  else
    ({ s with negStart := some p, posStart := none }, if g.polarity != 1 && g.ends s.posStart p then [p] else [])

/-- The timeout position P, while the unit may fire (R181). -/
def timeoutPos (g : UnitCfg) (s : UnitSt) : Option Nat :=
  match s.p0 with
  | some p0 => if !s.fired && (g.mode == 2 || (g.mode == 0) == s.isHigh) then some (p0 + g.timeout) else none
  | none => none

/-- TIMEOUT meets a crossing at position `p`: a timeout before it fires (R181). -/
def timeoutCross (g : UnitCfg) (s : UnitSt) (rising : Bool) (p : Nat) : UnitSt × List Nat :=
  ({ s with p0 := some p, isHigh := rising, fired := false },
   match timeoutPos g s with | some t => if t < p then [t] else [] | none => [])

/-- TIMEOUT has seen every sample to `k` without a further crossing: it fires when its deciding sample has come (R181). -/
def timeoutReach (g : UnitCfg) (s : UnitSt) (k : Nat) : UnitSt × List Nat :=
  match timeoutPos g s with
  | some t => if t / 256 + 1 ≤ k then ({ s with fired := true }, [t]) else (s, [])
  | none => (s, [])

def levelCross (g : UnitCfg) (s : UnitSt) (rising : Bool) (p : Nat) : UnitSt × List Nat :=
  match g.typ with
  | 1 => (s, if polarityTakes g.polarity rising then [p] else [])
  | 2 => pulseCross g s rising p
  | 6 => timeoutCross g s rising p
  | _ => (s, [])

/-! Two-level types (R175, R177 to R180) -/

/-- A crossing of one of the two levels. -/
structure Cross2 where
  isHigh : Bool
  rising : Bool
  p : Nat
deriving DecidableEq, Repr

/-- RUNT: a start at the near level, voided by the far level, judged at the return (R175). -/
def runtCross (g : UnitCfg) (s : UnitSt) (x : Cross2) : UnitSt × List Nat :=
  let passes (st : Option Nat) : Bool := st.isSome && (g.mode == 0 || g.ends st x.p)
  match x.isHigh, x.rising with
  | false, true => ({ s with posStart := some x.p }, [])
  | true, true => ({ s with posStart := none, negStart := none }, if g.polarity != 0 && passes s.negStart then [x.p] else [])
  | true, false => ({ s with negStart := some x.p }, [])
  | false, false => ({ s with posStart := none, negStart := none }, if g.polarity != 1 && passes s.posStart then [x.p] else [])

/-- SLEW: the first level starts, its opposite crossing ends the wait, the second level is judged (R175, R179).  DESIGN CHOICE (log entry
158): the first crossing of the second level uses the start up, so a further one measures nothing until the first level is crossed again. -/
def slewCross (g : UnitCfg) (s : UnitSt) (x : Cross2) : UnitSt × List Nat :=
  match x.isHigh, x.rising with
  | false, true => ({ s with posStart := some x.p }, [])
  | true, true => ({ s with posStart := none, negStart := none }, if g.polarity != 1 && g.ends s.posStart x.p then [x.p] else [])
  | true, false => ({ s with negStart := some x.p }, [])
  | false, false => ({ s with negStart := none, posStart := none }, if g.polarity != 0 && g.ends s.negStart x.p then [x.p] else [])

/-- WINDOW: enters and exits; in mode 2 the latest enter serves one exit (R175, R180). -/
def windowCross (g : UnitCfg) (s : UnitSt) (x : Cross2) : UnitSt × List Nat :=
  if x.isHigh != x.rising then
    ({ s with enter := some x.p }, if g.mode == 0 then [x.p] else [])
  else
    ({ s with enter := none }, if g.mode == 1 || (g.mode == 2 && g.ends s.enter x.p) then [x.p] else [])

def twoLevelCross (g : UnitCfg) (s : UnitSt) (x : Cross2) : UnitSt × List Nat :=
  match g.typ with
  | 3 => runtCross g s x
  | 4 => windowCross g s x
  | 5 => slewCross g s x
  | _ => (s, [])

/-- The crossings of a two-level type between two samples, in the order the signal makes them. -/
def crossings2 (g : UnitCfg) (s : UnitSt) (k : Nat) (x0 x1 : Int) : List Cross2 × LevelFlags × LevelFlags :=
  let (a, fa) := crossing g.low g.hyst s.low x0 x1
  let (b, fb) := crossing g.high g.hyst s.high x0 x1
  let la := match a with | some r => [⟨false, r, 256 * (k - 1) + crossFrac g.low x0 x1⟩] | none => []
  let lb := match b with | some r => [⟨true, r, 256 * (k - 1) + crossFrac g.high x0 x1⟩] | none => []
  (if x0 < x1 then la ++ lb else lb ++ la, fa, fb)

def feedCrossings (g : UnitCfg) : List Cross2 → UnitSt → UnitSt × List Nat
  | [], s => (s, [])
  | x :: xs, s =>
    let (s, es) := twoLevelCross g s x
    let (s, fs) := feedCrossings g xs s
    (s, es ++ fs)

/-! Analog feed -/

/-- Corrected samples `k` to `k + n - 1`, all of value `x` (R174 to R181). -/
def analogRun (g : UnitCfg) (s : UnitSt) (x : Int) (n : Nat) : UnitSt × List Nat :=
  if n = 0 then (s, []) else
  let k := s.pos
  let s' : UnitSt := { s with pos := k + n, last := some x }
  let (s', es) : UnitSt × List Nat := match s.last with
    | none =>
      ({ s' with level := firstFlags g.level g.hyst x, low := firstFlags g.low g.hyst x, high := firstFlags g.high g.hyst x,
                 p0 := some (256 * k), isHigh := g.level ≤ x, fired := false }, [])
    | some x0 =>
      if 3 ≤ g.typ && g.typ ≤ 5 then
        let (xs, fa, fb) := crossings2 g s k x0 x
        let r := feedCrossings g xs { s' with low := fa, high := fb }
        if g.typ = 4 && g.mode = 1 then (r.1, r.2.drop (r.2.length - 1)) else (r.1, r.2.take 1)
      else
        let (cr, fl) := crossing g.level g.hyst s.level x0 x
        let s' := { s' with level := fl }
        match cr with
        | some r => levelCross g s' r (256 * (k - 1) + crossFrac g.level x0 x)
        | none => (s', [])
  if g.typ = 6 then
    let (s', fs) := timeoutReach g s' (k + n - 1)
    (s', es ++ fs)
  else (s', es)

/-- The first sample after `k` from which other levels or the values of another arm hold. -/
def Cell.cutAfter (c : Cell) (k : Nat) : Option Nat :=
  ((c.trg.arms.map ArmSet.until' ++ c.trg.levels.map LevelSet.until').filter (fun x => k < x)).min?

/-- An arm starts at sample `a` that gives unit `u` other values of the same kind: the unit clears there (R205). -/
def Cell.clearsAt (c : Cell) (u a : Nat) : Bool :=
  c.trg.arms.any (fun x => x.until' == a && (c.unitCfg x.regs u).kind == (c.unitCfg (c.armAt a) u).kind &&
    unitDiffers x.regs (c.armAt a) u)

/-- `n` corrected samples of value `x`, each judged by the levels and the arm that hold at it; at the start sample of an arm a unit whose
values changed clears (R203, R205).  The argument is more than the number of cuts. -/
def Cell.analogPieces (c : Cell) (u : Nat) (x : Int) : Nat → Nat → UnitSt → UnitSt × List Nat
  | 0, n, s => analogRun (c.cfgAt u s.pos) s x n
  | f + 1, n, s =>
    let s := if c.clearsAt u s.pos && n != 0 then s.clearAt s.pos else s
    match c.cutAfter s.pos with
    | none => analogRun (c.cfgAt u s.pos) s x n
    | some b =>
      if s.pos + n ≤ b then analogRun (c.cfgAt u s.pos) s x n else
      let r := analogRun (c.cfgAt u s.pos) s x (b - s.pos)
      let q := c.analogPieces u x f (n - (b - s.pos)) r.1
      (q.1, r.2 ++ q.2)

/-- Runs of corrected samples, those below `limit`. -/
def Cell.analogFeed (c : Cell) (u : Nat) (limit : Option Nat) : List (Int × Nat) → UnitSt → UnitSt × List Nat
  | [], s => (s, [])
  | (x, n) :: rest, s =>
    let n := match limit with | some z => min n (z - s.pos) | none => n
    let r := c.analogPieces u x (c.trg.levels.length + c.trg.arms.length + 1) n s
    let q := c.analogFeed u limit rest r.1
    (q.1, r.2 ++ q.2)

/-! Auxiliary feed (R183) -/

/-- Where the TDC, or else the digital path, places an auxiliary edge: position, and whether the TDC placed or missed it (R237). -/
def auxPlace (stamps : List TdcStamp) (e : AuxEdge) : Nat × Bool × Bool :=
  match stamps.find? (fun t => t.aux && t.digital == e.sample) with
  | some t => (256 * t.sample + t.frac, !t.miss, t.miss)
  | none => (256 * e.sample + 128, false, false)

/-- An event of an auxiliary unit: its position, its digital placement sample, and whether it lies at a comparator edge. -/
structure AuxEvent where
  p : Nat
  digital : Nat
  edge : Bool
deriving DecidableEq, Repr

/-- Events of a TIMEOUT unit lie by themselves; those of the other types at the edge `d` (R181, R183). -/
def auxEvents (g : UnitCfg) (d : Nat) (ps : List Nat) : List AuxEvent :=
  ps.map (fun p => if g.typ = 6 then ⟨p, p / 256, false⟩ else ⟨p, d, true⟩)

/-- The unit has seen the comparator up to sample `k` without a further edge (R181). -/
def auxQuiet (g : UnitCfg) (s : UnitSt) (k : Nat) : UnitSt × List AuxEvent :=
  if g.typ = 6 then let r := timeoutReach g s k; (r.1, auxEvents g k r.2) else (s, [])

/-- The unit's input reaches the start sample `a` of an arm, before sample `k`: a unit whose values changed clears there, with the
comparator at `high` (R205). -/
def Cell.auxArmAt (c : Cell) (u : Nat) (high : Bool) (k a : Nat) (s : UnitSt) : UnitSt × List AuxEvent :=
  if !c.clearsAt u a || a < s.pos || k < a then (s, []) else
  let r := auxQuiet (c.cfgAt u (a - 1)) s (a - 1)
  ({ r.1.clearAt a with p0 := some (256 * a), isHigh := high }, if a = 0 then [] else r.2)

/-- The same at the start samples of all arms, in their order. -/
def Cell.auxArm (c : Cell) (u : Nat) (high : Bool) (k : Nat) (s : UnitSt) : UnitSt × List AuxEvent :=
  c.trg.arms.foldr (fun a r => let q := c.auxArmAt u high k a.until' r.1; (q.1, r.2 ++ q.2)) (s, [])

/-- Comparator edges below `limit`, each a crossing at its placement, and no further one before sample `upTo` (R183). -/
def Cell.auxFeed (c : Cell) (u : Nat) (limit : Option Nat) (upTo : Nat) :
    List AuxEdge → UnitSt → UnitSt × List AuxEvent
  | [], s =>
    let k := match limit with | some z => min upTo z | none => upTo
    let r := c.auxArm u (c.flag K.AuxLevel) (k - 1) s
    if k ≤ r.1.pos && s.pos = r.1.pos then r else
    let q := auxQuiet (c.cfgAt u (k - 1)) r.1 (k - 1)
    ({ q.1 with pos := max q.1.pos k }, r.2 ++ q.2)
  | e :: es, s =>
    if (match limit with | some z => decide (z ≤ e.sample) | none => false) then c.auxFeed u limit upTo es s else
    let r := c.auxArm u (!e.rising) e.sample s
    let g := c.cfgAt u e.sample
    let x := levelCross g { r.1 with pos := e.sample + 1 } e.rising (auxPlace c.trg.tdc e).1
    let q := c.auxFeed u limit upTo es x.1
    (q.1, r.2 ++ auxEvents g e.sample x.2 ++ q.2)

/-! Logic feed (R182) -/

/-- Logic sample `w` is true: pattern, edge term and analog qualifier. -/
def logicTrue (g : UnitCfg) (prev : Option Nat) (w : Nat) (x : Int) : Bool :=
  (w &&& g.mask) == (g.value &&& g.mask) &&
  (bit g.edge 7 || match prev with
    | some p => bit p (g.edge % 16) == bit g.edge 4 && bit w (g.edge % 16) != bit g.edge 4
    | none => false) &&
  (match g.qual with | 0 => true | 1 => g.level ≤ x | _ => x < g.level)

/-- One logic sample `w` (R182).  DESIGN CHOICE (log entries 159, 160): samples left out by an analog qualifier are passed over, so the edge
term compares with the last one judged and a true run goes on across them, their number counted in its length; the first sample after a
state clear gives no event, and a pattern that is true there runs from it. -/
def logicStep (g : UnitCfg) (s : UnitSt) (w : Nat) (r : LogicRun) : UnitSt × List Nat :=
  let i := s.pos
  let s' := { s with pos := i + 1, lin := some w }
  if g.qual != 0 && !r.settled then (s', []) else
  let t := logicTrue g s.word w r.sample
  let p := 256 * 16 * i
  let begins := t && !s.wasTrue
  let stops := !t && s.wasTrue
  ({ s' with word := some w, wasTrue := t, trueFrom := if begins then i else s.trueFrom },
   if s.word.isNone then []
   else if g.mode = 0 then (if begins then [p] else [])
   else if stops && (g.mode = 1 || g.widthOk (256 * 16 * (i - s.trueFrom))) then [p] else [])

/-- `n` logic samples of one run, each by the levels and the arm of its analog index (R203, R205). -/
def Cell.logicRun (c : Cell) (u : Nat) (r : LogicRun) : Nat → UnitSt → UnitSt × List Nat
  | 0, s => (s, [])
  | n + 1, s =>
    let s := if c.trg.arms.any (fun a => s.pos = ceilDiv a.until' 16 && c.clearsAt u a.until') then s.clearAt s.pos else s
    let x := logicStep (c.cfgAt u (16 * s.pos)) s (c.logicWord s.pos s.lin r.pins) r
    let q := c.logicRun u r n x.1
    (q.1, x.2 ++ q.2)

/-- Runs of logic samples, those below `limit`. -/
def Cell.logicFeed (c : Cell) (u : Nat) (limit : Option Nat) : List LogicRun → UnitSt → UnitSt × List Nat
  | [], s => (s, [])
  | r :: rest, s =>
    let n := match limit with | some z => min r.n (z - s.pos) | none => r.n
    let x := c.logicRun u r n s
    let q := c.logicFeed u limit rest x.1
    (q.1, x.2 ++ q.2)

/-! Qualifier and queue -/

/-- Unit events lie in the queue by position (R170). -/
def insEvent (e : UnitEvent) : List UnitEvent → List UnitEvent
  | [] => [e]
  | x :: xs => if 256 * e.sample + e.frac < 256 * x.sample + x.frac then e :: x :: xs else x :: insEvent e xs

def Cell.unit (c : Cell) (u : Fin 4) : UnitSt := c.trg.units.get u
def Cell.setUnit (c : Cell) (u : Fin 4) (s : UnitSt) : Cell := { c with trg := { c.trg with units := c.trg.units.set u s } }

/-- The unit as it was before an arm that changed its kind, when it was of kind `k` and has samples before that arm's A still to judge. -/
def Cell.oldUnit (c : Cell) (u : Fin 4) (k : UnitKind) : Option OldUnit :=
  c.trg.old.find? (fun o => o.unit == u.val && o.st.pos < o.until' && (c.unitCfg (c.armAt (o.until' - 1)) u.val).kind == k)

def Cell.setOldUnit (c : Cell) (o : OldUnit) (s : UnitSt) : Cell :=
  { c with trg := { c.trg with old := c.trg.old.map (fun x => if x.unit = o.unit && x.until' = o.until' then { x with st := s } else x) } }

/-- The first sample the condition units may not use: after the last sample of cc 0 of a switch to the bypass clock (R171). -/
def Cell.sampleEnd (c : Cell) : Option Nat := if c.get K.ClockState = 1 then some (128 * (c.clk.faultCc + 1)) else none

/-- A unit event of unit `u` at position `p`, decided by sample `last`: the qualifier discards or counts it, and while the cell is out of
idle it goes to the combiner (R171, R173, R184). -/
def Cell.unitEvent (c : Cell) (u : Fin 4) (p last digital : Nat) (placed miss : Bool) : Cell :=
  let j := p / 256
  let f := p % 256
  let s := c.unit u
  let past := match c.sampleEnd with | some e => e ≤ max j last | none => false
  let was := 256 * c.get (K.LastUnitSample + 0x100 * u.val) + c.get (K.LastUnitFraction + 0x100 * u.val)
  if past || s.lastEvent = some j then c else
  let c := c.setUnit u { s with lastEvent := some j }
  let stamp := c.stampOf j f
  let cfg := c.armAt j
  let w := unitVal cfg K.QualWindow u.val
  let pass := w = 255 || (c.inWindow w stamp == (unitVal cfg K.QualSense u.val == 0))
  if !pass then c.inc32 (K.QualDiscardCount + 0x100 * u.val) else
  let c := ((c.inc64 (K.UnitEventCount + 0x100 * u.val)).put (K.LastUnitSample + 0x100 * u.val) j).put
    (K.LastUnitFraction + 0x100 * u.val) f
  if c.trg.acqs.isEmpty then c else
  { c with trg := { c.trg with queue := insEvent ⟨digital, was, j, f, u.val, stamp, placed, miss⟩ c.trg.queue } }

/-- How far a stamp's placement lies from position `p`. -/
def TdcStamp.off (t : TdcStamp) (p : Nat) : Nat := ((256 * t.sample + t.frac : Nat) - (p : Int)).natAbs

/-- The stamp nearest position `p`, the newest of equals. -/
def nearestStamp (p : Nat) : List TdcStamp → Option TdcStamp
  | [] => none
  | t :: ts => match nearestStamp p ts with
    | some x => if t.off p ≤ x.off p then some t else some x
    | none => some t

/-- The stamp of the TDC nearest a digital placement refines an event of analog-edge mode (R238). -/
def Cell.refine (c : Cell) (g : UnitCfg) (p : Nat) : Nat × Bool × Bool :=
  if g.path ≠ 1 then (p, false, false) else
  match nearestStamp p (c.trg.tdc.filter (fun t => !t.aux && t.digital == p / 256)) with
  | some t => if t.miss then (p, false, true) else (256 * t.sample + t.frac, true, false)
  | none => (p, false, false)

/-- A sample from the one before `j` to the deciding one behind it is unsettled (R172). -/
def Cell.spanUnsettled (c : Cell) (j : Nat) : Bool := spansMeet c.fe.unsettled (j - 1) (j + 1)

/-- Every detected event of an analog unit goes through the qualifier, unless its span holds an unsettled sample (R172). -/
def Cell.emitAnalog (c : Cell) (u : Fin 4) : List Nat → Cell
  | [] => c
  | p :: ps =>
    if c.spanUnsettled (p / 256) then c.emitAnalog u ps else
    let r := c.refine (c.cfgAt u.val (p / 256)) p
    (c.unitEvent u r.1 (p / 256 + 1) (p / 256) r.2.1 r.2.2).emitAnalog u ps

/-- The events of an auxiliary unit, with what the TDC made of their edges (R237). -/
def Cell.emitAux (c : Cell) (u : Fin 4) : List AuxEvent → Cell
  | [] => c
  | e :: es =>
    let r := if e.edge then c.trg.tdc.find? (fun t => t.aux && t.digital == e.digital) else none
    (c.unitEvent u e.p (e.digital + 1) e.digital (r.any (fun t => !t.miss)) (r.any (fun t => t.miss))).emitAux u es

/-- The units run: on fcc, with foreground calibration neither running nor still to run (R171). -/
def Cell.unitsRun (c : Cell) : Bool := c.clk.onFcc && 2 ≤ c.get K.FgCalState

/-- The kind of unit a feed is for. -/
def feedKind : Feed → UnitKind
  | .analog _ => .analog
  | .aux _ _ => .aux
  | .logic _ => .logic

/-- The last logic sample of a feed is the last the samplers took (R102). -/
def Cell.noteLogic (c : Cell) (s : UnitSt) : Cell :=
  match s.lin with
  | some w => { c with fe := { c.fe with logic := some (s.pos - 1, w) } }
  | none => c

/-- Unit `u`, in state `s`, judges a feed below `limit`; `put` keeps its new state. -/
def Cell.judgeFeed (c : Cell) (u : Fin 4) (limit : Option Nat) (s : UnitSt) (put : Cell → UnitSt → Cell) : Feed → Cell
  | .analog runs =>
    let r := c.analogFeed u.val limit runs s
    (put c r.1).emitAnalog u r.2
  | .aux edges upTo =>
    let r := c.auxFeed u.val limit upTo edges s
    (put c r.1).emitAux u r.2
  | .logic runs =>
    let r := c.logicFeed u.val (limit.map (ceilDiv · 16)) runs s
    r.2.foldl (fun c p => c.unitEvent u p (p / 256) (p / 256) false false) ((put c r.1).noteLogic r.1)

/-- A unit judges what it is given, and its events go on (R172 to R184).  Input of a kind it had before an arm goes first to the unit as it
was, up to that arm's start sample (R205); no unit is given a sample behind cc 0 of a switch (R171, R386). -/
def Cell.feedUnit (c : Cell) (u : Fin 4) (fd : Feed) : Cell :=
  let below (z : Nat) : Option Nat := some (match c.sampleEnd with | some e => min z e | none => z)
  match c.oldUnit u (feedKind fd) with
  | some o => c.judgeFeed u (below o.until') o.st (fun c s => c.setOldUnit o s) fd
  | none =>
    if feedKind fd = (c.unitCfg c.arm u.val).kind then c.judgeFeed u c.sampleEnd (c.unit u) (fun c s => c.setUnit u s) fd else c

/-- The input of a feed is there: logic samples are produced in RUN only, and their last words arrive after a fault (R386). -/
def Cell.feeds (c : Cell) (fd : Feed) : Bool := c.unitsRun && (feedKind fd != .logic || c.get K.ClockState ≤ 1)

/-- UNIT_EVENT: unit `u` judges its input up to the deciding sample of its event (R175). -/
def execUnitEvent (n : CellNo) (w : When) (u : Fin 4) (fd : Feed) (s : State) : Out :=
  onCell s n w (fun _ c => if c.feeds fd then c.feedUnit u fd else c)

/-- TIMEOUT_EVENT: a TIMEOUT unit judges its input up to its timeout's deciding sample (R181). -/
def execTimeoutEvent (n : CellNo) (w : When) (u : Fin 4) (fd : Feed) (s : State) : Out :=
  onCell s n w (fun _ c =>
    if c.feeds fd && ((c.unitCfg c.arm u.val).typ = 6 || c.trg.arms.any (fun a => (c.unitCfg a.regs u.val).typ == 6))
    then c.feedUnit u fd else c)

/-- The unit judges corrected samples (R172). -/
def Cell.isAnalogUnit (c : Cell) (u : Fin 4) : Bool := (c.unitCfg c.arm u.val).kind == .analog

/-- A unit as it was before an arm clears over unsettled samples `lo` to `hi`, when it was analog and judges samples from `lo` on (R172). -/
def Cell.clearOld (c : Cell) (lo hi : Nat) (o : OldUnit) : OldUnit :=
  let kind := (c.unitCfg (c.armAt (o.until' - 1)) o.unit).kind
  if kind == .analog && lo < o.until' && o.st.pos ≤ hi then { o with st := o.st.clearAt (hi + 1) } else o

/-- UNSETTLED_SAMPLE_CLEAR: unsettled samples `lo` to `hi` clear every analog unit, counted once per run (R172). -/
def execUnsettledSampleClear (n : CellNo) (w : When) (lo hi : Nat) (s : State) : Out :=
  onCell s n w (fun _ c =>
    if !c.unitsRun || hi < lo || !c.unsettledAt lo || !c.unsettledAt hi then c else
    let fresh : Bool := match c.trg.lastUnsettled with | some k => k + 1 < lo | none => true
    let c := if fresh then c.inc32 K.UnsettledRestarts else c
    let c : Cell := { c with trg := { c.trg with lastUnsettled := some hi, old := c.trg.old.map (c.clearOld lo hi) } }
    ([0, 1, 2, 3] : List (Fin 4)).foldl (fun c u =>
      if c.isAnalogUnit u && (c.unit u).pos ≤ hi then c.setUnit u ((c.unit u).clearAt (hi + 1)) else c) c)

/-- All units, the recovery's history and the unsettled note start cleared at sample `k` (R171). -/
def Cell.startUnits (c : Cell) (k : Nat) : Cell :=
  let c := ([0, 1, 2, 3] : List (Fin 4)).foldl (fun c u =>
    let i := if (c.unitCfg c.arm u.val).typ = 7 then ceilDiv k 16 else k
    let p0 : Option Nat := if (c.unitCfg c.arm u.val).aux then some (256 * k) else none
    c.setUnit u { clearedUnit i with p0 := p0, isHigh := c.flag K.AuxLevel }) c
  { c with trg := { c.trg with old := [], lastUnsettled := none, tdc := [], track := { c.trg.track with blockFrom := k / 128 } } }

/-- The LOGIC units go on with the first logic sample of RUN, at sample `k` (R386). -/
def Cell.startLogic (c : Cell) (k : Nat) : Cell :=
  ([0, 1, 2, 3] : List (Fin 4)).foldl (fun c u =>
    if (c.unitCfg c.arm u.val).kind = .logic then c.setUnit u ((c.unit u).clearAt (ceilDiv k 16)) else c) c

/-- A unit of another kind than before the arm at sample `a` starts cleared there; what it was goes on with the samples before `a`
(R205). -/
def Cell.armUnits (c : Cell) (a : Nat) (before : Regs) : Cell :=
  let c : Cell := { c with trg := { c.trg with old := c.trg.old.filter (fun o => o.st.pos < o.until') } }
  ([0, 1, 2, 3] : List (Fin 4)).foldl (fun c u =>
    let new := c.unitCfg c.arm u.val
    if (c.unitCfg before u.val).kind = new.kind then c else
    let c : Cell := { c with trg := { c.trg with old := c.trg.old ++ [⟨u.val, a, c.unit u⟩] } }
    c.setUnit u { (c.unit u).clearAt (if new.typ = 7 then ceilDiv a 16 else a) with
      p0 := if new.aux then some (256 * a) else none, isHigh := c.flag K.AuxLevel }) c

/-! The TDC path (R236 to R239) -/

/-- The trims in force and the live unit, with the AuxDeskew among the Swath-class values `act`. -/
def Cell.trimsNow (c : Cell) (act : Regs) : TrimSet :=
  ⟨0, c.geti 32 K.AuxSkewTrim, c.geti 32 K.EdgeSkewTrim, swathIn act 32 K.AuxDeskew, c.get K.TdcActiveUnit⟩

/-- The trims and the live unit for an edge at sample `k` (R236, R239). -/
def Cell.trimSetAt (c : Cell) (k : Nat) : TrimSet := (settingBefore TrimSet.until' c.plc.past k).getD (c.trimsNow c.act)

/-- Trim and deskew of a comparator for an edge at sample `k`, in 10 fs (R236). -/
def Cell.trimsAt (c : Cell) (aux : Bool) (k : Nat) : Int :=
  let x := c.trimSetAt k
  if aux then x.aux + x.deskew else x.edge

/-- Where fine code `code` lies in the 50 ps of a coarse step, in 0.5 ps: the accumulated widths of the codes below it, by the histogram of
the unit; with none, the code itself (R239). -/
def fineTime (hist : List Nat) (code : Nat) : Nat :=
  let total := hist.foldl (· + ·) 0
  if total = 0 then code else 100 * (hist.take code).foldl (· + ·) 0 / total

/-- The time the live unit reports for an edge at sample `k`, corrected for linearity, in 0.5 ps (R237, R239). -/
def Cell.tdcTime (c : Cell) (r : TdcReading) (k : Nat) : Int :=
  r.coarse * 100 + fineTime (c.plc.tables.get (Fin.ofNat 2 (c.trimSetAt k).live)) r.fine

/-- The unit in analog-edge mode at sample `k` (R238). -/
def Cell.edgeUnit (c : Cell) (k : Nat) : Option (Fin 4) :=
  ([0, 1, 2, 3] : List (Fin 4)).find? (fun u => let g := c.cfgAt u.val k; g.path == 1 && g.typ == 1 && !g.aux)

/-- A level in 1/64 code as a voltage at the input, with the range and offset applied at sample `k`, in µV (R80, R238). -/
def Cell.levelUv (c : Cell) (k : Nat) (v : Int) : Int :=
  let r := c.rangeDacAt k
  roundAway ((v + r.2) * rangeUv r.1) 65536

/-- The analog-edge comparator may switch at `uv` µV by the level, range and offset of sample `k`: at the unit's level, to the nearest
0.25 mV, plus or minus half the hysteresis (R97, R238). -/
def Cell.edgeSwitches (c : Cell) (k : Nat) (u : Fin 4) (rising : Bool) (uv : Int) : Bool :=
  let g := c.cfgAt u.val k
  let t := roundAway (c.levelUv k g.level) 250 * 250
  let h := roundAway (g.hyst * rangeUv (c.rangeDacAt k).1) 131072
  if rising then t + h ≤ uv else uv ≤ t - h

/-- Some unit judges the auxiliary comparator at sample `k` (R183). -/
def Cell.auxUnitAt (c : Cell) (k : Nat) : Bool := [0, 1, 2, 3].any (fun u => (c.cfgAt u k).kind == .aux)

/-- The comparator can have made this edge: the auxiliary one, or the analog-edge one of a unit, by the level of the edge's sample; in the
hand-over cycle also by the one behind it, and in the first 2 cc of a swath by the one before (R97, R238). -/
def Cell.tdcTakes (c : Cell) (src : TdcSource) (digital : Nat) : Bool :=
  match src with
  | .aux => true
  | .edge rising uv =>
    match c.edgeUnit digital with
    | some u => c.edgeSwitches digital u rising uv || c.edgeSwitches (digital + 128) u rising uv ||
        c.edgeSwitches (digital - 256) u rising uv
    | none => false

/-- Event `e`, still queued at its digital placement, is placed again by the TDC at `p`: it is judged afresh at the new position, and counts
once (R184, R232, R237). -/
def Cell.replace (c : Cell) (e : UnitEvent) (p : Nat) : Cell :=
  let u : Fin 4 := Fin.ofNat 4 e.unit
  let key (k : Nat) : Nat := k + 0x100 * e.unit
  let newest := c.get (key K.LastUnitSample) = e.sample && c.get (key K.LastUnitFraction) = e.frac
  let shown := if newest then e.was else 256 * c.get (key K.LastUnitSample) + c.get (key K.LastUnitFraction)
  let show' (x : Nat) (c : Cell) : Cell := (c.put (key K.LastUnitSample) (x / 256)).put (key K.LastUnitFraction) (x % 256)
  let c : Cell := { c with trg := { c.trg with queue := c.trg.queue.filter (· != e) } }
  let c := show' shown (c.add64 (key K.UnitEventCount) (2 ^ 64 - 1))
  let c := if (c.unit u).lastEvent = some e.sample then c.setUnit u { c.unit u with lastEvent := none } else c
  let c := c.unitEvent u p (e.digital + 1) e.digital true false
  if newest then c else show' shown c

/-- TDC_EDGE: the live unit stamps a comparator edge, which it reads from the sampling instant of sample 128t;
`digital` is its digital placement sample.  Linearity, trim and deskew give the placement; a stamp that disagrees by more than one
sample, or an edge within 4 cc of the one before, of either comparator, falls back to digital placement, and counts where a unit is
placed by it (R237).  A crossing already queued at that digital sample is placed by it. -/
def execTdcEdge (n : CellNo) (w : When) (src : TdcSource) (t : Nat) (r : TdcReading) (digital : Nat) (s : State) : Out :=
  onCell s n w (fun _ c =>
    if !c.tdcTakes src digital then c else
    let aux := src == .aux
    let tenFs := c.tdcTime r digital * 50 + c.trimsAt aux digital
    let p : Int := 32768 * t + 256 * tenFs * (c.fs).1 / (100000000000000 * (c.fs).2 : Nat)
    let dead := match c.trg.lastEdge with | some d => digital < d + 512 | none => false
    let j := p / 256
    let miss := dead || j + 1 < digital || (digital : Int) + 1 < j
    let stamp : TdcStamp := if miss then ⟨aux, digital, digital, 128, true⟩ else ⟨aux, digital, j.toNat, (p % 256).toNat, false⟩
    let c := if miss && (!aux || c.auxUnitAt digital) then c.inc32 K.TdcMissCount else c
    let isMine (e : UnitEvent) : Bool := e.digital == digital && !e.placed && !e.miss &&
      (let g := c.cfgAt e.unit e.digital; g.typ != 6 && (if aux then g.aux else !g.aux && g.path == 1))
    let c : Cell := { c with trg := { c.trg with tdc := (stamp :: c.trg.tdc).take 64, lastEdge := some digital } }
    if miss then { c with trg := { c.trg with queue := c.trg.queue.map (fun e => if isMine e then { e with miss := true } else e) } }
    else (c.trg.queue.filter isMine).foldl (fun c e => c.replace e (256 * stamp.sample + stamp.frac)) c)

end Sys2Proof.Machine
end

