-- ==== Sys2Proof/Machine/Recovery.lean ====
section
/-! DEFINITION. The symbol-clock recovery, the symbol pattern matcher and the level tracker (R185 to R193, R201 to R204). -/

namespace Sys2Proof.Machine

/-! Symbol-clock recovery (R185 to R189) -/

/-- The applied SymbolRate exceeds half the applied Fs (R186). -/
def Cell.cdrTooFast (c : Cell) : Bool := (c.fs).1 < 2 * c.swath K.SymbolRate * (c.fs).2

/-- The recovery runs, with foreground calibration neither running nor still to run (R171, R186). -/
def Cell.cdrRuns (c : Cell) : Bool := c.swath K.CdrEnable != 0 && !c.cdrTooFast && c.unitsRun

/-- The applied loop bandwidth in Hz (R186). -/
def Cell.cdrBandwidth (c : Cell) : Nat := min (c.swath K.CdrLoopBandwidth) (c.swath K.SymbolRate / 1000)

/-- CdrLocked clears; from the locked state this is counted (R188). -/
def Cell.unlockCdr (c : Cell) : Cell :=
  if c.flag K.CdrLocked then (c.put K.CdrLocked 0).inc32 K.CdrLockLossCount else c

/-- CdrState (R188). -/
def Cell.refreshCdr (c : Cell) : Cell :=
  c.put K.CdrState (if c.swath K.CdrEnable = 0 then 0 else if c.cdrTooFast then 4 else if c.flag K.CdrLocked then 2
    else if c.trg.cdr.wasLocked then 3 else 1)

/-- Acquisition starts again: lock clears, the loop, the block counts and the matcher's history start afresh (R185, R188, R189, R191). -/
def Cell.restartCdr (c : Cell) : Cell :=
  let c := (c.unlockCdr).put K.UiCount 0
  Cell.refreshCdr { c with trg := { c.trg with
    cdr := { c.trg.cdr with history := [], good := 0, bad := 0, uis := 0, edges := 0, integrator := 0, blockFrom := 0, edge := none } } }

/-- A boundary meets the recovery: a changed setting restarts it (R185).  `old` holds the values before the commit. -/
def Cell.cdrBoundary (c : Cell) (old : Regs) : Cell :=
  let was (k : Nat) : Nat := regGet (cellDflt k) k old
  let changed := [K.CdrEnable, K.CdrModulation, K.SymbolRate, K.CdrLoopBandwidth, K.CdrDamping, K.CdrPullRange].any
    (fun k => was k != c.swath k)
  let c : Cell := if was K.CdrEnable ≠ c.swath K.CdrEnable
    then { c with trg := { c.trg with cdr := { c.trg.cdr with wasLocked := false } } } else c
  if changed then c.restartCdr else c.refreshCdr

/-! Symbols (R187, R190 to R193) -/

/-- The length of a symbol by the loop's frequency, in 2^-16 sample (R185, R187). -/
def Cell.uiLength (c : Cell) : Nat :=
  6553600000000 * (c.fs).1 / ((c.fs).2 * (c.swath K.SymbolRate * (100000000 + c.trg.cdr.integrator)).toNat)

/-- The recovered boundary at which the next symbol begins, in 2^-16 sample. -/
def Cell.symbolBegins (c : Cell) (x : SymbolIn) : Nat := c.trg.cdr.edge.getD (Config.firstBoundary x.lo)

/-- The decision instant u + 0.5 + CdrSamplePhase/64 of the next symbol, in 2^-16 sample (R187). -/
def Cell.decisionAt (c : Cell) (x : SymbolIn) (phase : Int) : Nat :=
  ((c.symbolBegins x : Int) + (c.uiLength : Int) * (32 + phase) / 64).toNat

/-- An entry of the recovery among the values that hold at a symbol: those before a boundary, or the present ones (R185). -/
def Cell.decideVal (c : Cell) (x : Option LevelSet) (k : Nat) : Nat :=
  match x with
  | some l => regGet (cellDflt k) k l.regs
  | none => if k = K.CdrThresholdsApplied then c.get k else c.swath k

/-- The values before a boundary that decide a symbol: those the sample of its decision instant lies under; none for the present ones. -/
def Cell.decideSet (c : Cell) (x : SymbolIn) : Option LevelSet :=
  settingBefore LevelSet.until' c.trg.levels (c.decisionAt x (c.swathi 8 K.CdrSamplePhase) / 65536)

/-- The symbol value of a decision: the applied thresholds at or below the interpolated value, with the Gray map of PAM4 (R187). -/
def symbolValue (pam4 gray : Bool) (thresholds : Nat) (v : Int) : Nat :=
  let at' (i : Nat) : Nat := b2n (sgn 16 (bits thresholds (16 * i) 16) ≤ v)
  if !pam4 then at' 1 else
  let level := at' 0 + at' 1 + at' 2
  if gray then [0, 1, 3, 2].getD level 0 else level

/-- The stage-1 outputs of a symbol's interpolation span, of outputs given from `first` on. -/
def symbolWindow (x : SymbolIn) (first : Nat) (outs : List Int) : List Int := (outs.drop (x.lo - first)).take (x.hi + 1 - x.lo)

/-- The interpolated value at a symbol's decision instant (R185, R187). -/
def Cell.decisionValue (c : Cell) (first : Nat) (outs : List Int) (x : SymbolIn) : Int :=
  let at' := c.decisionAt x (sgn 8 (c.decideVal (c.decideSet x) K.CdrSamplePhase))
  Config.interpolate (at' - 65536 * x.lo) (symbolWindow x first outs)

/-- The decided value of a symbol (R185, R187). -/
def Cell.decideSymbol (c : Cell) (first : Nat) (outs : List Int) (x : SymbolIn) : Nat :=
  let l := c.decideSet x
  symbolValue (c.swath K.CdrModulation != 0) (c.decideVal l K.GrayDecode != 0) (c.decideVal l K.CdrThresholdsApplied)
    (c.decisionValue first outs x)

/-- What the two phase detectors give at a symbol: of its decision sample against the one before, and of the sample at the boundary between
them (R185). -/
def Cell.loopError (c : Cell) (first : Nat) (outs : List Int) (x : SymbolIn) : Int :=
  match c.trg.cdr.history with
  | [] => 0
  | h :: _ =>
    let v := c.decideSymbol first outs x
    Config.baudDetector c.trg.cdr.value (c.decisionValue first outs x) h v +
      Config.edgeDetector (Config.interpolate (c.symbolBegins x - 65536 * x.lo) (symbolWindow x first outs)) h v

/-- The loop's integrator after a symbol: it moves by what the detectors gave, within the pull range (R185, R186; log entry 131). -/
def Cell.loopAfter (c : Cell) (err : Int) : Int :=
  let lim : Int := 100 * c.swath K.CdrPullRange
  max (-lim) (min lim (c.trg.cdr.integrator + Config.loopMove c.cdrBandwidth (c.swath K.CdrDamping) err))

/-- The recovered boundary that ends a symbol, by the loop's frequency and its proportional path, in 2^-16 sample (R185, R187). -/
def Cell.symbolEnds (c : Cell) (first : Nat) (outs : List Int) (x : SymbolIn) : Nat :=
  ((c.symbolBegins x + c.uiLength : Nat) +
    Config.loopPhase c.cdrBandwidth (c.swath K.CdrDamping) (c.loopError first outs x)).toNat

/-- A symbol is valid unless its interpolation span holds an unsettled stage-1 output (R187). -/
def Cell.symbolValid (c : Cell) (x : SymbolIn) : Bool := !c.stage1Unsettled 0 (x.lo, x.hi)

/-- The history matches the pattern: symbol i of it, 0 the oldest, under its mask (R190, R191). -/
def patternMatches (pattern : List Byte) (len : Nat) (history : List Nat) : Bool :=
  len ≤ history.length && (List.range len).all (fun i =>
    let v := bits (fld pattern 0 64) (2 * i) 2
    let m := bits (fld pattern 64 64) (2 * i) 2
    ((history[len - 1 - i]?).getD 0 ^^^ v) &&& m == 0)

/-- The pattern in force at sample `j` (R190, R205). -/
def Cell.symbolPattern (c : Cell) (j : Nat) : List Byte :=
  ((settingBefore ArmSet.until' c.trg.arms j).map ArmSet.pattern).getD ((kvFind K.SymbolPattern c.armDoms).getD (zeros 128))

/-- The SERIAL unit at sample `j`, if there is one (R192, R205). -/
def Cell.serialUnit (c : Cell) (j : Nat) : Option (Fin 4) :=
  ([0, 1, 2, 3] : List (Fin 4)).find? (fun u => unitVal (c.armAt j) K.UnitType u.val == 8)

/-- The symbols that end at sample `j` match the pattern (R191). -/
def Cell.matchesAt (c : Cell) (j : Nat) : Bool :=
  patternMatches (c.symbolPattern j) (regGet (cellDflt K.SymbolPatternLength) K.SymbolPatternLength (c.armAt j)) c.trg.cdr.history

/-- A match counts, and while the recovery is locked it is an event of the SERIAL unit at the boundary that ends it; output `hi` decides it
(R171, R192, R193). -/
def Cell.symbolMatched (c : Cell) (ends hi : Nat) : Cell :=
  let c := c.inc64 K.SymbolMatchCount
  match c.serialUnit (ends / 65536) with
  | some u => if c.flag K.CdrLocked then c.unitEvent u (ends / 256) hi (ends / 65536) false false else c
  | none => c

/-- The recovery and the matcher take a symbol: an invalid one empties the history, a valid one counts and moves the loop (R185 to R191).
None reaches behind cc 0 of a switch to the bypass clock (R112, R171). -/
def Cell.takeSymbol (first : Nat) (outs : List Int) (c : Cell) (x : SymbolIn) : Cell :=
  let r := c.trg.cdr
  if c.sampleEnd.any (· ≤ x.hi) then c else
  if !c.symbolValid x then
    { c with trg := { c.trg with cdr := { r with history := [], uis := r.uis + 1, edge := some (c.symbolBegins x + c.uiLength) } } } else
  let v := c.decideSymbol first outs x
  let ends := c.symbolEnds first outs x
  let moved := match r.history with | h :: _ => h != v | [] => false
  let r := { r with history := (v :: r.history).take 256, uis := r.uis + 1, edges := r.edges + b2n moved, edge := some ends
                    integrator := c.loopAfter (c.loopError first outs x), value := c.decisionValue first outs x }
  let c := Cell.inc64 { c with trg := { c.trg with cdr := r } } K.UiCount
  if c.matchesAt (ends / 65536) then c.symbolMatched ends x.hi else c

def Cell.takeSymbols (c : Cell) (xs : List SymbolIn) (first : Nat) (outs : List Int) : Cell :=
  xs.foldl (Cell.takeSymbol first outs) c

/-- SYMBOL_MATCH: the matcher takes symbols of the stage-1 outputs from `first` on, up to one at which the pattern matches
(R191 to R193). -/
def execSymbolMatch (n : CellNo) (w : When) (symbols : List SymbolIn) (first : Nat) (outs : List Int) (s : State) : Out :=
  onCell s n w (fun _ c => if c.cdrRuns then c.takeSymbols symbols first outs else c)

/-- The running block passes the tests of R188: the integrator moved by less than CdrLockPpm, and at least 1/32 of its boundaries carry a
transition. -/
def Cell.blockPasses (c : Cell) : Bool :=
  (c.trg.cdr.integrator - c.trg.cdr.blockFrom).natAbs < 100 * c.swath K.CdrLockPpm && 128 ≤ c.trg.cdr.edges

/-- A block of 4,096 UI is over: it passes or fails, and lock is judged (R188, R189). -/
def Cell.endCdrBlock (c : Cell) (g : Glob) : Cell :=
  let pass := c.blockPasses
  let r := c.trg.cdr
  let r := { r with uis := r.uis - 4096, edges := 0, blockFrom := r.integrator }
  let r := if pass then { r with good := min 255 (r.good + 1), bad := 0 } else { r with good := 0, bad := min 2 (r.bad + 1) }
  let c := Cell.puti { c with trg := { c.trg with cdr := r } } 32 K.CdrFrequencyOffset r.integrator
  if pass && !c.flag K.CdrLocked && c.swath K.CdrLockBlocks ≤ r.good then
    Cell.refreshCdr { c.put K.CdrLocked 1 with trg := { c.trg with cdr := { r with wasLocked := true } } }
  else if !pass && r.bad = 2 && c.flag K.CdrLocked then
    let c := (c.unlockCdr).refreshCdr
    if c.source = 2 && c.srcLost g 2 then c.loseSource else c
  else c

/-- CDR_BLOCK_END: the recovery takes the rest of a block's symbols, `last` behind them (R185, R188). -/
def execCdrBlockEnd (n : CellNo) (w : When) (symbols : List SymbolIn) (first : Nat) (outs : List Int) (last : SymbolIn) (s : State) :
    Out :=
  onCell s n w (fun g c =>
    if !c.cdrRuns then c else
    let c := c.takeSymbols (symbols ++ [last]) first outs
    if c.trg.cdr.uis < 4096 then c else c.endCdrBlock g)

/-! Level tracking (R201 to R204) -/

/-- A histogram as (code, how many). -/
abbrev Histogram := List (Int × Nat)

def histCount (h : Histogram) : Nat := h.foldl (fun a e => a + e.2) 0

/-- The histogram of a block: its settled samples that are not over range, at 1-code resolution (R201).  DESIGN CHOICE (log entry 132): to
the nearest code, halves to even. -/
def trackHistogram (xs : List TrackRun) : Histogram :=
  (xs.filter (fun x => !x.unsettled && !x.overRange)).map (fun x => (rneDiv x.value 64, x.n))

/-- The mean of a histogram in 1/64 code.  DESIGN CHOICE (log entry 132): rounded to the nearest, halves to even, as each estimate after its
smoothing step; a midpoint is rounded down. -/
def histMean (h : Histogram) : Int := rneDiv (sumMap (fun e => 64 * e.1 * e.2) h) (max 1 (histCount h))

/-- The median of a histogram in 1/64 code: the first code with at least half of the samples at or below it. -/
def histMedian (h : Histogram) : Int :=
  match h.find? (fun e => histCount h ≤ 2 * histCount (h.filter (fun x => x.1 ≤ e.1)) &&
      (h.all (fun y => !(y.1 < e.1 && histCount h ≤ 2 * histCount (h.filter (fun x => x.1 ≤ y.1)))))) with
  | some e => 64 * e.1
  | none => 0

/-- The PAM4 clusters between base and top, initialised at equal spacing, and their means; a cluster with no sample keeps its centre
(R201). -/
def pamMeans (h : Histogram) (base top : Int) : List (Int × Nat) :=
  let edge (i : Int) : Int := 6 * base + (2 * i + 1) * (top - base)
  ([0, 1, 2, 3] : List Int).map (fun i =>
    let part := h.filter (fun e => (i = 0 || edge (i - 1) ≤ 6 * 64 * e.1) && (i = 3 || 6 * 64 * e.1 < edge i))
    (if part.isEmpty then base + i * (top - base) / 3 else histMean part, histCount part))

/-- A split at `mid` (in 1/64 code): the levels, unless the amplitude or an outer cluster is too small (R201). -/
def splitLevels (h : Histogram) (mid : Int) (pam4 : Bool) (minAmp : Nat) : Option TrackLevels :=
  let low := h.filter (fun e => 64 * e.1 < mid)
  let high := h.filter (fun e => mid ≤ 64 * e.1)
  let base := histMean low
  let top := histMean high
  let total := histCount h
  let pam := pamMeans h base top
  let outer := if pam4 then (match pam with | [a, _, _, d] => (a.2, d.2) | _ => (0, 0)) else (histCount low, histCount high)
  if low.isEmpty || high.isEmpty || top - base < minAmp || 64 * outer.1 < total || 64 * outer.2 < total then none
  else some ⟨base, top, if pam4 then pam.map (·.1) else []⟩

/-- Some unit or threshold tracks (R204). -/
def Cell.trackOn (c : Cell) : Bool :=
  (List.range 4).any (fun u => c.swath (K.TrackEnable + 0x100 * u) != 0) || c.swath K.CdrThresholdMode != 0

/-- A tracker that starts with cc `t`. -/
def freshTracking (t : Nat) : Tracking := ⟨none, false, 0, (none, false), none, none, t⟩

/-- TrackState (R204). -/
def Cell.refreshTrack (c : Cell) : Cell :=
  c.put K.TrackState (if !c.trackOn then 0 else if c.trg.track.held then 3 else if c.trg.track.est.isNone then 1 else 2)

def packI16 (xs : List Int) : Nat := leNat (xs.flatMap (fun x => leBytes 2 (raw 16 x)))

/-- The tracker's reported levels. -/
def Cell.showTrack (c : Cell) (t : TrackLevels) : Cell :=
  let c := (c.puti 16 K.TrackBase t.base).puti 16 K.TrackTop t.top
  if t.pam.isEmpty then c else c.put K.TrackPam4Levels (packI16 t.pam)

/-- A block moves each estimate by 2^−shift of the difference (R201). -/
def moveLevels (old new : TrackLevels) (shift : Nat) : TrackLevels :=
  let mv (a b : Int) : Int := a + rneDiv (b - a) (2 ^ shift)
  ⟨mv old.base new.base, mv old.top new.top,
   if old.pam.length = new.pam.length then (old.pam.zip new.pam).map (fun p => mv p.1 p.2) else new.pam⟩

/-- A rejected block counts (R201). -/
def Cell.trackRejected (c : Cell) : Cell := c.inc32 K.TrackBlocksRejected

/-- The estimates after a block: those it moves, or none when it is rejected (R201). -/
def Cell.trackBlock (c : Cell) (h : Histogram) : Option TrackLevels :=
  let old := c.trg.track.est
  let mid := match old with | some t => (t.base + t.top) / 2 | none => histMedian h
  (splitLevels h mid (c.swath K.CdrModulation = 1) (c.swath K.TrackMinAmplitude)).map (fun t =>
    match old with | some o => moveLevels o t (c.swath K.TrackSmoothShift) | none => t)

/-- TRACK_BLOCK_END, in the last cc of a block of 65,536: the corrected samples of the block (R201). -/
def execTrackBlockEnd (n : CellNo) (w : When) (samps : List TrackRun) (s : State) : Out :=
  onCell s n w (fun _ c =>
    let k := c.trg.track
    if !c.unitsRun || !c.trackOn || c.swath K.TrackSource ≠ 0 || c.now + 1 ≠ k.blockFrom + 65536 then c else
    let k : Tracking := { k with endCc := c.now, before := (k.est, k.held), blockFrom := c.now + 1 }
    match c.trackBlock (trackHistogram samps) with
    | none => Cell.refreshTrack ({ c with trg := { c.trg with track := { k with held := true } } } : Cell).trackRejected
    | some t => (Cell.showTrack { c with trg := { c.trg with track := { k with est := some t, held := false } } } t).refreshTrack)

/-- TRACKER_UPDATE's part, in cc −4: the values for the next swath are fixed from the blocks that ended before this cc; after a rejected one
there are none (R203). -/
def Cell.fixTracking (c : Cell) : Cell :=
  let k := c.trg.track
  let x := if k.endCc = c.now then k.before else (k.est, k.held)
  { c with trg := { c.trg with track := { k with next := if x.2 then none else x.1 } } }

/-- `base + floor(amplitude * frac / 65536)` (R203). -/
def trackLevel (t : TrackLevels) (frac : Nat) : Int := satS 16 (t.base + (t.top - t.base) * frac / 65536)

/-- The tracked values that may apply: some were fixed, and no arm holds them (R203). -/
def Cell.trackApplies (c : Cell) : Option TrackLevels :=
  if (c.swath K.TrackHoldArmed != 0 && c.get K.ArmState != 0) then none else c.trg.track.next

/-- The levels of unit `u` for the next swath, with the pair check of R178. -/
def Cell.applyUnitLevels (c : Cell) (u : Nat) : Cell :=
  let k (key : Nat) : Nat := key + 0x100 * u
  let tracks := c.swath (k K.TrackEnable) != 0
  let (lv, lo, hi, hy) : Int × Int × Int × Nat :=
    if !tracks then (c.swathi 16 (k K.Level), c.swathi 16 (k K.LevelLow), c.swathi 16 (k K.LevelHigh), c.swath (k K.Hysteresis)) else
    match c.trackApplies with
    | some t => (trackLevel t (c.swath (k K.TrackLevelFrac)), trackLevel t (c.swath (k K.TrackLowFrac)),
                 trackLevel t (c.swath (k K.TrackHighFrac)), ((t.top - t.base) * c.swath (k K.TrackHystFrac) / 65536).toNat)
    | none => (c.geti 16 (k K.LevelApplied), c.geti 16 (k K.LevelLowApplied), c.geti 16 (k K.LevelHighApplied),
               c.get (k K.HysteresisApplied))
  let typ := unitVal c.arm K.UnitType u
  let held := (typ = 3 || typ = 4 || typ = 5) && hi ≤ lo
  let c := (c.puti 16 (k K.LevelApplied) lv).put (k K.HysteresisApplied) hy
  if held then c.inc32 (k K.LevelPairHeld) else (c.puti 16 (k K.LevelLowApplied) lo).puti 16 (k K.LevelHighApplied) hi

/-- The recovery's thresholds for the next swath: written, or midway between tracked levels (R203). -/
def Cell.applyThresholds (c : Cell) : Cell :=
  let old := c.get K.CdrThresholdsApplied
  let keep (i : Nat) : Int := sgn 16 (bits old (16 * i) 16)
  let xs : List Int :=
    if c.swath K.CdrThresholdMode = 0 then [c.swathi 16 K.CdrThresholdLow, c.swathi 16 K.CdrThresholdMid, c.swathi 16 K.CdrThresholdHigh]
    else match c.trackApplies with
      | some t =>
        if c.swath K.CdrModulation = 0 then [keep 0, (t.base + t.top) / 2, keep 2] else
        (match t.pam with
        | [a, b, d, e] => [(a + b) / 2, (b + d) / 2, (d + e) / 2]
        | _ => [keep 0, keep 1, keep 2])
      | none => [keep 0, keep 1, keep 2]
  c.put K.CdrThresholdsApplied (packI16 xs)

/-- An entry whose value of past swaths still judges samples: levels in use, and what decides symbols (R185, R203). -/
def isLevelEntry (k : Nat) : Bool :=
  (K.LevelApplied / 256 ≤ k / 256 && k / 256 < K.LevelApplied / 256 + 4 && K.LevelApplied % 256 ≤ k % 256 &&
    k % 256 ≤ K.HysteresisApplied % 256) || k == K.CdrThresholdsApplied
def isDecideEntry (k : Nat) : Bool := k == K.CdrSamplePhase || k == K.GrayDecode

/-- The values of those entries, with `act` the Swath-class values in force. -/
def Cell.levelValues (c : Cell) (act : Regs) : Regs :=
  (act.filter (fun e => isDecideEntry e.1)).foldl (fun r e => kvPut e.1 e.2 r) (c.regs.filter (fun e => isLevelEntry e.1))

/-- Levels that were in force before sample `s0` are kept for the samples before it (R185, R203). -/
def Cell.noteLevels (c : Cell) (old : Regs) (s0 : Nat) : Cell :=
  if c.levelValues c.act = old then c
  else { c with trg := { c.trg with levels := ⟨s0, old⟩ :: keepPast LevelSet.until' c.now c.trg.levels } }

/-- The values in use of what tracks now: the levels and hysteresis of each tracking unit, and the thresholds (R203). -/
def Cell.trackedValues (c : Cell) : List Nat :=
  ((List.range 4).filter (fun u => c.swath (K.TrackEnable + 0x100 * u) != 0)).flatMap (fun u =>
    [K.LevelApplied, K.LevelLowApplied, K.LevelHighApplied, K.HysteresisApplied].map (fun k => c.get (k + 0x100 * u))) ++
  (if c.swath K.CdrThresholdMode = 0 then [] else [c.get K.CdrThresholdsApplied])

/-- The trigger engine's part of a boundary, after the committed entries (R203, R204).  `newSwath` counts the swath that starts with
sample `s0`, `old` holds the Swath-class values before. -/
def Cell.levelsBoundary (c : Cell) (newSwath s0 : Nat) (old : Regs) : Cell :=
  let before := c.levelValues old
  let values := if c.trackOn then c.trackApplies else none
  let tracked := c.trackedValues
  let c := [0, 1, 2, 3].foldl (fun c u => c.applyUnitLevels u) c
  let c := c.applyThresholds.noteLevels before s0
  let c := if values.isSome && c.trackedValues != tracked then c.put K.TrackLastUpdateSwath newSwath else c
  let k := c.trg.track
  let k : Tracking := if values.isSome then { k with applied := values } else k
  let k : Tracking := if c.trackOn && c.swath K.TrackSource = 0 && c.get K.TrackState != 0 then k else { k with blockFrom := s0 / 128 }
  Cell.refreshTrack { c with trg := { c.trg with track := if c.trackOn then k else freshTracking (s0 / 128) } }

end Sys2Proof.Machine
end

