-- ==== Sys2Proof/Machine/Accumulate.lean ====
section
/-! DEFINITION. Waveform accumulation (R304 to R328): the rotating subset, the delay store, records, the average, the envelope and the
density maps, runs, cuts and clears, and the statistics. -/

namespace Sys2Proof.Machine

/-- A key of map `m` (R327). -/
def mapKey (k : Nat) (m : Nat) : Nat := k + 0x100 * m

/-- Words of the accumulator, and the delay of R307. -/
abbrev accWords : Nat := 3728268
abbrev accDelay : Nat := 16384

/-! The source and its subset (R305, R306) -/

/-- The plan entry of the source lane, when it is enabled and carries the accumulator flag. -/
def Cell.accPlan (c : Cell) : Option LanePlan :=
  match c.exe.active with
  | none => none
  | some m => match m.enabledLane (c.get K.AccSource - 1) with
    | some p => if p.toAcc then some p else none
    | none => none

/-- The plan delivers pairs (R305). -/
def LanePlan.pairs (p : LanePlan) : Bool := p.mode == 1 || p.mode == 3

/-- The source delivers pairs (R305). -/
def Cell.accPairs (c : Cell) : Bool :=
  c.get K.AccSource != 0 && match c.accPlan with | some p => p.pairs | none => false

/-- Samples from one output of the source to the next (R305). -/
def Cell.accSpacing (c : Cell) : Nat :=
  if c.get K.AccSource = 0 then 1 else match c.accPlan with | some p => p.step | none => 1

/-- The intake stride: the smallest of 1, 2, 4 and 8 with w at most 32 of it (R306). -/
def strideOf (perOut spacing : Nat) : Nat :=
  if 128 * perOut ≤ 32 * spacing then 1 else if 128 * perOut ≤ 64 * spacing then 2 else if 128 * perOut ≤ 128 * spacing then 4 else 8

/-- How the outputs of a source are cut into blocks: the stride, the outputs of a block, and their spacing (R305, R306). -/
structure Intake where
  stride : Nat
  block : Nat
  spacing : Nat
deriving DecidableEq, Repr

def intakeOf (pairs : Bool) (spacing : Nat) : Intake :=
  let per := if pairs then 2 else 1
  ⟨strideOf per spacing, 32 * strideOf per spacing / per, spacing⟩

/-- The intake of the present plan, which IntakeStride and IntakeBlock report (R306). -/
def Cell.intake (c : Cell) : Intake := intakeOf c.accPairs c.accSpacing
def Cell.accStride (c : Cell) : Nat := c.intake.stride
def Cell.accBlock (c : Cell) : Nat := c.intake.block

/-- One step of the 16-bit Fibonacci LFSR of x^16 + x^14 + x^13 + x^11 + 1. -/
def lfsrStep (v : Nat) : Nat :=
  let b := (v ^^^ v / 4 ^^^ v / 8 ^^^ v / 32) % 2
  v / 2 % 32768 + b * 32768

def lfsrRun : Nat → Nat → Nat
  | 0, v => v
  | n + 1, v => lfsrRun n (lfsrStep v)

/-- A group, numbered from a restart, begins: the LFSR advances 8 steps and the group draws from it (R306). -/
def Acc.draw (a : Acc) (g : Nat × Nat) (stride : Nat) : Acc :=
  if a.group = some g then a else
  let v := lfsrRun 8 a.lfsr
  { a with lfsr := v, group := some g, r0 := v % stride, up := !bit v 15 }

/-- Output `q` is taken (R306). -/
def Acc.takes (a : Acc) (q stride block : Nat) : Bool :=
  let p := q / block % stride
  q % stride == (if a.up then a.r0 + p else a.r0 + stride - p) % stride

/-- The line of sample `m` and whether its swath began locked. -/
def Cell.lineAt (c : Cell) (m : Int) : Line × Bool :=
  match c.acc.recent.find? (fun l => (l.1.s0 : Int) ≤ m) with
  | some l => l
  | none => (c.trk.line, c.flag K.TimelineLocked)

/-- The lines of the swaths that hold samples from `h` on. -/
def keepLines (h : Nat) : List (Line × Bool) → List (Line × Bool)
  | [] => []
  | l :: ls => if l.1.s0 ≤ h then [l] else l :: keepLines h ls

/-- The oldest sample whose line is still asked for: a lane value's reference sample, or the start of a segment that may yet close without
a trigger (R229). -/
def Cell.lineHorizon (c : Cell) : Nat :=
  let from' (q : Acq) : Nat := max q.p (128 * (c.now - q.latency) - regGet (cellDflt K.PreTriggerSamples) K.PreTriggerSamples q.cfg)
  c.trg.acqs.foldl (fun a q => min a (from' q)) (128 * c.now - 2097152)

/-- A swath starts with this line (R315). -/
def Cell.noteLine (c : Cell) (l : Line) : Cell :=
  { c with acc := { c.acc with recent := (l, c.flag K.TimelineLocked) :: keepLines c.lineHorizon c.acc.recent } }

/-- A value received now belongs to a clock fault: its span, to `hi`, reaches the first suspect sample of the present one, or its
reference sample lies before the fresh swath of the last (R110, R116, R308). -/
def Cell.suspect (c : Cell) (ref : Int) (hi : Nat) : Bool :=
  (c.clk.clkMark && c.clk.suspectFrom ≤ hi) || ref < c.clk.fresh

/-- A value of the source. -/
structure AccIn where
  ref : Int
  vals : List Int
  uns : Bool
  ovr : Bool
  spanHi : Nat
  /-- reference sample of the first output of its group -/
  groupRef : Int
  /-- the restart its output is counted from, and the grid it lies on -/
  n0 : Nat
  grid : Intake
deriving DecidableEq, Repr

/-- The first output of the group that holds output `q` (R306). -/
def Intake.groupStart (i : Intake) (q : Nat) : Nat := q - q % (i.block * i.stride)

/-- The sequence feeds the accumulator with the output at reference sample `m`: its plan carries the flag, or the swap that takes the
flag lies behind the output (R305, R320). -/
def Cell.feedsAcc (c : Cell) (s : LaneSeq) (m : Int) : Bool :=
  s.plan.toAcc || match c.acc.offFrom with | some x => decide (m < (x : Int)) | none => false

/-- Output `q` of the source as it is received in the present cc, from corrected samples given from `first` on (R305); an output of a
sequence that a swap has ended keeps the plan of its sequence (R152, R318). -/
def Cell.accInput (c : Cell) (q first : Nat) (samps : List Samp) : Option AccIn :=
  if c.get K.AccSource = 0 then
    if q / 128 + 19 ≠ c.now || !c.clk.onFcc || !c.keepsSample q then none else
    match (if first ≤ q then (c.corrected first samps)[q - first]? else none) with
    | some v => some ⟨q, [v], c.unsettledAt q, c.overAt q, q, (intakeOf false 1).groupStart q, 0, intakeOf false 1⟩
    | none => none
  else
    let k : Fin 4 := Fin.ofNat 4 (c.get K.AccSource - 1)
    match (c.lane k).seqs.find? (fun s => c.inSeq s q && c.deliveryCc k.val s q == c.now) with
    | some s =>
      if !c.clk.onFcc || !c.feedsAcc s (s.outRef q) then none else
      let o := c.laneOutput k.val s q first samps
      let grid := intakeOf s.plan.pairs s.plan.step
      some ⟨o.ref, o.vals, o.uns, o.ovr, c.newestOf s q, s.outRef (grid.groupStart q), s.n0, grid⟩
    | none => none

/-- ACC_INTAKE: output `q` of the source is received; the rotating subset takes it, and it enters the delay store (R305 to R307). -/
def execAccIntake (n : CellNo) (w : When) (q first : Nat) (samps : List Samp) (s : State) : Out :=
  onCell s n w (fun _ c =>
    match c.acc.intakeFrom, c.accInput q first samps with
    | some from', some v =>
      if v.groupRef < from' || c.get K.FgCalState = 1 then c else
      let g := v.grid
      let a := c.acc.draw (v.n0, q / g.block / g.stride) g.stride
      let a := if a.takes q g.stride g.block then
          let l := c.lineAt v.ref
          { a with delay := a.delay ++ [⟨c.now, v.ref, v.vals, v.uns, v.ovr, c.suspect v.ref v.spanHi, v.spanHi,
              l.1.pos v.ref.toNat, !l.2, g.spacing⟩] }
        else a
      { c with acc := a }
    | _, _ => c)

/-! Gate and origin (R309, R315) -/

/-- A sample that no value still to be received, or in the delay store, lies before; a bypass period makes the store's values older
than their stay in it (R307). -/
def Cell.accHorizon (c : Cell) : Nat := c.acc.delay.foldl (fun a v => min a v.ref.toNat) (128 * (c.now - 40000))

def Cell.keepGate (c : Cell) : List GateSpan :=
  c.acc.gate.filter (fun g => match g.stop with | some e => c.accHorizon ≤ e | none => true)

/-- ACC_GATE_ON: the gate opens at the instance, sample-exact (R60, R309). -/
def execAccGateOn (n : CellNo) (w : When) (idx : Nat) (s : State) : Out :=
  onEvent s n w idx 9 (fun _ c e =>
    if c.acc.gate.any (fun g => g.stop.isNone) then c
    else { c with acc := { c.acc with gate := c.keepGate ++ [⟨e.first, none⟩] } })

/-- ACC_GATE_OFF: the gate closes at the instance, sample-exact (R60, R309). -/
def execAccGateOff (n : CellNo) (w : When) (idx : Nat) (s : State) : Out :=
  onEvent s n w idx 10 (fun _ c e =>
    { c with acc := { c.acc with gate := c.keepGate.map (fun g => if g.stop.isNone then { g with stop := some e.first } else g) } })

/-- The gate holds a reference sample (R309). -/
def Cell.gateHolds (c : Cell) (m : Int) : Bool :=
  c.get K.AccGateMode == 0 ||
  c.acc.gate.any (fun g => (g.start : Int) ≤ m && match g.stop with | some e => decide (m < (e : Int)) | none => true)

/-- Origins that can still apply: those after the horizon and the one before it. -/
def keepOrigins (h : Nat) : List (Nat × Nat) → List (Nat × Nat)
  | [] => []
  | o :: os => if o.1 ≤ h then [o] else o :: keepOrigins h os

/-- EYE_ORIGIN: the folding origin becomes the position itself (R60, R315). -/
def execEyeOrigin (n : CellNo) (w : When) (idx : Nat) (s : State) : Out :=
  onEvent s n w idx 7 (fun _ c e =>
    let c := c.put K.EyeOrigin e.pos
    { c with acc := { c.acc with origins := (e.first, e.pos) :: keepOrigins c.accHorizon c.acc.origins } })

/-- The origin that applies to a sample (R315). -/
def Cell.originAt (c : Cell) (m : Int) : Nat :=
  match c.acc.origins.find? (fun o => (o.1 : Int) ≤ m) with
  | some o => o.2
  | none => 0

/-! Memory (R304, R322) -/

def setWord (p i v : Nat) : Nat := p - bits p (32 * i) 32 * 2 ^ (32 * i) + v % 2 ^ 32 * 2 ^ (32 * i)
def wordOf (p i : Nat) : Nat := bits p (32 * i) 32

/-- A stook found uncorrectable: POISON pulses, the log is written, and the stook is written back in poison form (R292, R322). -/
def Cell.poisonAcc (c : Cell) (s v : Nat) : Cell :=
  let c := (c.pulse 59).log 0x0801 2 (leBytes 8 s)
  { c with acc := { c.acc with memory := putStook s v c.acc.memory } }

/-- Bits of stook `s` that have flipped. -/
def flipOf (flips : List (Nat × Nat)) (s : Nat) : Nat := ((kvFind s flips).getD 0) % 2 ^ 144

/-- Read stook `s` for an update: its payload, or none when the update is lost (R304, R322). -/
def Cell.accFetch (c : Cell) (flips : List (Nat × Nat)) (s : Nat) : Option Nat × Cell :=
  match decodeStook (stookAt c.acc.memory s ^^^ flipOf flips s) with
  | .clean v => (some (payload v), c)
  | .corrected _ v => (some (payload v), c.inc32 K.AccCorrectedCount)
  | .poisoned _ => (none, c.inc32 K.AccPoisonCount)
  | .uncorrectable v => (none, c.poisonAcc s v)

/-- Stook `s` through the read port, with bit errors `flip`: what is delivered, in poison form when it cannot be corrected (R322). -/
def Cell.accRead (c : Cell) (flip s : Nat) : Decoded × Cell :=
  let d := decodeStook (stookAt c.acc.memory s ^^^ flip % 2 ^ 144)
  match d with
  | .corrected _ _ => (d, c.inc32 K.AccCorrectedCount)
  | .uncorrectable v => (d, c.poisonAcc s v)
  | _ => (d, c)

def Cell.accStore (c : Cell) (s p : Nat) : Cell := { c with acc := { c.acc with memory := putStook s (encodeStook p) c.acc.memory } }

/-! The functions (R311 to R315) -/

/-- A contribution `x` meets the sum and the count of a point; and whether Sat was set (R311). -/
def averageStep (sum : Int) (count : Nat) (x : Int) : Int × Nat × Bool :=
  let n := (bits count 0 25 + 1) % 2 ^ 25
  if bit count 31 then (sum, n + 2 ^ 31, false) else
  let t := satS 32 (sum + x)
  if t = sum + x then (t, n, false) else (t, n + 2 ^ 31, true)

/-- The average takes value `v` into point `i` (R311). -/
def Cell.accAverage (c : Cell) (flips : List (Nat × Nat)) (i : Nat) (v : Int) : Cell :=
  let w := c.get K.AvgBase + 2 * i
  match c.accFetch flips (w / 4) with
  | (none, c) => c
  | (some p, c) =>
    let (sum, count, sat) := averageStep (sgn 32 (wordOf p (w % 4))) (wordOf p (w % 4 + 1)) (rneShift v (c.get K.AvgShift))
    let c := if sat then c.inc32 K.AvgSatCount else c
    c.accStore (w / 4) (setWord (setWord p (w % 4) (raw 32 sum)) (w % 4 + 1) count)

/-- The envelope takes an output into point `i` (R312). -/
def Cell.accEnvelope (c : Cell) (flips : List (Nat × Nat)) (i : Nat) (vals : List Int) : Cell :=
  let w := c.get K.EnvBase + i
  match c.accFetch flips (w / 4) with
  | (none, c) => c
  | (some p, c) =>
    let x := wordOf p (w % 4)
    let lo := min (sgn 16 x) (minI vals)
    let hi := max (sgn 16 (x / 2 ^ 16)) (maxI vals)
    c.accStore (w / 4) (setWord p (w % 4) (raw 16 lo + raw 16 hi * 2 ^ 16))

/-- Column `x` and value `v` enter map `m`; none is off the map (R313). -/
def Cell.accBin (c : Cell) (flips : List (Nat × Nat)) (m : Nat) (x : Int) (v : Int) : Cell × Bool :=
  let cols := c.get (mapKey K.MapColumns m)
  let rows := c.get (mapKey K.MapRows m)
  let y := (v - c.geti 16 (mapKey K.MapAmpBottom m)) * rows / (c.get (mapKey K.MapAmpSpan m) : Int)
  if y < 0 || (rows : Int) ≤ y || x < 0 || (cols : Int) ≤ x then (c.add64 (mapKey K.OffMapCount m) 1, false) else
  let w := c.get (K.Map0Base + m) + y.toNat * cols + x.toNat
  match c.accFetch flips (w / 4) with
  | (none, c) => (c, false)
  | (some p, c) =>
    let old := wordOf p (w % 4)
    if old = 2 ^ 32 - 1 then (c.inc32 (mapKey K.MapSatCount m), true)
    else (c.accStore (w / 4) (setWord p (w % 4) (old + 1)), false)

/-- Every value of an output enters a map in one column (R313). -/
def Cell.accBins (c : Cell) (flips : List (Nat × Nat)) (m : Nat) (x : Int) : List Int → Cell × Bool
  | [] => (c, false)
  | v :: vs =>
    let (c, a) := c.accBin flips m x v
    let (c, b) := c.accBins flips m x vs
    (c, a || b)

/-- The column of a value in a trigger map (R314). -/
def Cell.trigColumn (c : Cell) (m : Nat) (r : AccRec) (ref : Int) : Int :=
  let tau : Int := 256 * (ref - r.sample) - r.frac
  (tau - c.geti 64 (mapKey K.MapTimeStart m)) * c.get (mapKey K.MapColumns m) / (c.get (mapKey K.MapTimeSpan m) : Int)

/-- The phase of a value in the fold of map `m`, in 2^-32 UI, and the fold's length (R315). -/
def Cell.foldPhase (c : Cell) (m : Nat) (v : AccVal) : Nat × Nat :=
  let f : Nat := c.get (mapKey K.MapFoldUi m) * 2 ^ 32
  ((((v.pos : Int) - c.originAt v.ref) % (f : Int)).toNat, f)

def Cell.foldColumn (c : Cell) (m : Nat) (v : AccVal) : Int :=
  let (ph, f) := c.foldPhase m v
  (ph * c.get (mapKey K.MapColumns m) / f : Nat)

def Cell.accOn (c : Cell) (f : Nat) : Bool := bit (c.get K.AccFunctions) f
def Cell.mapFolds (c : Cell) (m : Nat) : Bool := c.get (mapKey K.MapMode m) == 1

/-- The point of a record a value is: the distance of its output from the anchor, in outputs of its own grid (R310). -/
def Cell.pointOf (c : Cell) (r : AccRec) (v : AccVal) : Int :=
  -(((r.sample : Int) + c.geti 64 K.RecordOffset - v.ref) / (v.spacing : Int))

/-- A value enters the record functions of one record; and whether a bin was saturated (R310 to R314). -/
def Cell.applyRecord (c : Cell) (flips : List (Nat × Nat)) (v : AccVal) (r : AccRec) : Cell × Bool :=
  let i := c.pointOf r v
  if i < 0 || (c.get K.RecordPoints : Int) ≤ i || v.ref < r.s || (r.e : Int) ≤ v.ref then (c, false) else
  let c := if c.accOn 0 then (match v.vals with | x :: _ => c.accAverage flips i.toNat x | [] => c) else c
  let c := if c.accOn 1 then c.accEnvelope flips i.toNat v.vals else c
  [0, 1].foldl (fun (a : Cell × Bool) m =>
    if a.1.accOn (2 + m) && !a.1.mapFolds m then
      let (c, sat) := a.1.accBins flips m (a.1.trigColumn m r v.ref) v.vals
      (c, a.2 || sat)
    else a) (c, false)

/-- A value enters the fold maps (R315). -/
def Cell.applyFolds (c : Cell) (flips : List (Nat × Nat)) (v : AccVal) : Cell × Bool :=
  let folds := [0, 1].filter (fun m => c.accOn (2 + m) && c.mapFolds m)
  if folds.isEmpty then (c, false)
  else if v.unlocked then (c.add64 K.UnlockedSkipped v.vals.length, false)
  else folds.foldl (fun (a : Cell × Bool) m =>
    let (c, sat) := a.1.accBins flips m (a.1.foldColumn m v) v.vals
    (c, a.2 || sat)) (c, false)

/-! Statistics (R323) -/

def addCode (k : Int) : List (Int × Nat) → List (Int × Nat)
  | [] => [(k, 1)]
  | e :: es => if e.1 = k then (k, e.2 + 1) :: es else if k < e.1 then (k, 1) :: e :: es else e :: addCode k es

/-- The value enters the statistics histogram (R323). -/
def Cell.statsTakes (c : Cell) (v : AccVal) : Bool :=
  if c.mapFolds 0 && c.source = 2 then
    let (ph, f) := c.foldPhase 0 v
    c.swath K.StatsPhaseLow * f ≤ ph * 65536 && ph * 65536 < c.swath K.StatsPhaseHigh * f
  else true

def Cell.enterStats (c : Cell) (v : AccVal) : Cell :=
  if c.statsTakes v then { c with acc := { c.acc with hist := v.vals.foldl (fun h x => addCode (x / 64) h) c.acc.hist } } else c

/-- ACC_STATS_EVAL, in cc −4 of a swath: the histogram is split as R201 does; what it supplies the tracker takes under TrackSource 1
(R202, R323). -/
def Cell.evalStats (c : Cell) : Cell :=
  let h := c.acc.hist
  let mid := match c.acc.stats with | some t => (t.base + t.top) / 2 | none => histMedian h
  let res := if histCount h < c.swath K.StatsMinValues then none
    else splitLevels h mid (c.swath K.CdrModulation = 1) (c.swath K.TrackMinAmplitude)
  let c := (c.put K.StatsValues (histCount h % 2 ^ 32)).put K.StatsValid (b2n res.isSome)
  let c : Cell := { c with acc := { c.acc with hist := [], stats := if res.isSome then res else c.acc.stats } }
  match res with
  | none => c
  | some t =>
    let c := (c.puti 16 K.StatsBase t.base).puti 16 K.StatsTop t.top
    let c := if t.pam.isEmpty then c else c.put K.StatsPam4Levels (packI16 t.pam)
    if c.swath K.TrackSource = 1 && c.trackOn then
      let c : Cell := { c with trg := { c.trg with track := { c.trg.track with est := some t, held := false } } }
      (c.showTrack t).refreshTrack
    else c

/-! Cuts (R318, R320) -/

/-- A cut at sample `x` for a cause: taken from RUNNING, or when it is earlier; at an equal cut the lowest cause stands (R320). -/
def Cell.accCut (c : Cell) (x cause : Nat) : Cell :=
  let st := c.get K.AccState
  let wins : Bool := match c.acc.cut with
    | some (y, k) => st == 1 || decide (x < y) || (x == y && decide (cause < k))
    | none => true
  if (st = 1 || st = 2) && wins then
    { (c.put K.AccState 2).put K.FreezeCause cause with acc := { c.acc with cut := some (x, cause) } }
  else c

/-- A range or offset change applies at a boundary (R320). -/
def Cell.accRangeCut (c : Cell) (s0 : Nat) : Cell := if bit (c.get K.AccStopMask) 0 then c.accCut s0 2 else c

/-- A clock fault is declared: values whose span reaches its first suspect sample are marked, and the run is cut if so set (R308,
R320). -/
def Cell.accFault (c : Cell) (first : Nat) : Cell :=
  let delay := c.acc.delay.map (fun v => if first ≤ v.spanHi then { v with clk := true } else v)
  let c : Cell := { c with acc := { c.acc with delay := delay } }
  if bit (c.get K.AccStopMask) 2 then c.accCut first 4 else c

/-- An image swap restarts or disables the source lane, or takes the UI source from a fold map (R320).  Where it takes the accumulator
flag, the outputs before S0' still enter. -/
def Cell.accSwap (c : Cell) (restarted : List (Fin 4)) (s0 : Nat) : Cell :=
  let src := c.get K.AccSource
  let off := if c.accPlan.isSome then none else some (c.acc.offFrom.getD s0)
  let c : Cell := { c with acc := { c.acc with offFrom := off } }
  let lane := src != 0 && (c.accPlan.isNone || restarted.any (fun k => k.val + 1 == src))
  let fold := c.source != 2 && [0, 1].any (fun m => c.accOn (2 + m) && c.mapFolds m)
  if lane || fold then c.accCut s0 5 else c

/-- The cycles of the cell jump from `old` to `new`: the delay store is held and a clear goes on (R307, R321). -/
def Cell.accRebase (c : Cell) (old new : Nat) : Cell :=
  { c with acc := { c.acc with clearEnd := new + (c.acc.clearEnd - old) } }

/-- The store is held over `gap` cycles that have no cc (R307). -/
def Cell.accHold (c : Cell) (gap : Nat) : Cell :=
  { c with acc := { c.acc with delay := c.acc.delay.map (fun v => { v with cc := v.cc + gap }) } }

/-! The apply stage (R307, R308, R319) -/

/-- The accumulator enters DONE, and ACC_DONE pulses (R319). -/
def Cell.accDone (c : Cell) : Cell := { (c.put K.AccState 4).pulse 19 with acc := { c.acc with cut := none } }

/-- Records whose segment the apply stage has passed at sample `m` end; the one that reaches the limit ends the run (R310, R319). -/
def Cell.endRecords (c : Cell) (m : Int) : Cell :=
  let ovr := c.acc.records.filter (fun r => !r.isOpen && (r.e : Int) ≤ m)
  if ovr.isEmpty || !(c.get K.AccState = 1 || c.get K.AccState = 2) then c else
  let c : Cell := { c with acc := { c.acc with records := c.acc.records.filter (fun r => r.isOpen || !decide ((r.e : Int) ≤ m)) } }
  let n := c.get K.RecordCount + ovr.length
  let c := c.put K.RecordCount (n % 2 ^ 32)
  match c.recordLimit with
  | some lim => if lim ≤ n then c.accDone else c
  | none => c

/-- The value applies: it updates every enabled function (R307, R310 to R315, R319, R320). -/
def Cell.applyValue (c : Cell) (flips : List (Nat × Nat)) (v : AccVal) : Cell :=
  let (c, sat) := c.acc.records.foldl (fun (a : Cell × Bool) r =>
    let (c, s) := a.1.applyRecord flips v r
    (c, a.2 || s)) (c, false)
  let (c, sat') := c.applyFolds flips v
  let c := c.enterStats v
  let n := c.get K.ValuesTaken + v.vals.length
  let c := c.put K.ValuesTaken (n % 2 ^ 64)
  let next := match c.acc.delay with | x :: _ => x.ref.toNat | [] => (v.ref + 1).toNat
  let c := if (sat || sat') && bit (c.get K.AccStopMask) 1 then c.accCut next 3 else c
  if c.get K.ValueTarget ≠ 0 && c.get K.ValueTarget ≤ n then c.accDone else c

/-- The value lies in the run: at or after its start, before its cut (R317, R318). -/
def Cell.inRun (c : Cell) (m : Int) : Bool :=
  (c.get K.AccState == 1 || c.get K.AccState == 2) && decide ((c.acc.runFrom : Int) ≤ m) &&
  match c.acc.cut with | some (x, _) => decide (m < (x : Int)) | none => true

/-- ACC_APPLY: the oldest value of the delay store reaches the apply stage, 16,384 cc after it was received; it is passed over, or
applied (R307, R308).  `flips` are storage errors of the stooks it reads. -/
def execAccApply (n : CellNo) (w : When) (flips : List (Nat × Nat)) (s : State) : Out :=
  onCell s n w (fun _ c =>
    match c.acc.delay with
    | [] => c
    | v :: vs =>
      if !c.clk.onFcc || c.now < v.cc + accDelay then c else
      let c : Cell := { c with acc := { c.acc with delay := vs } }
      let c := c.endRecords v.ref
      let k := v.vals.length
      if v.uns then c.add64 K.UnsettledSkipped k
      else if v.clk then c.add64 K.ClkSkipped k
      else if v.ovr && c.flag K.SkipOverRange then c.add64 K.OverRangeSkipped k
      else if c.gateHolds v.ref && c.inRun v.ref then c.applyValue flips v
      else c)

/-- ACC_FROZEN: the apply stage has passed the cut; records it cuts count (R318). -/
def execAccFrozen (n : CellNo) (w : When) (s : State) : Out :=
  onCell s n w (fun _ c =>
    match c.acc.cut with
    | some (x, _) =>
      if c.get K.AccState = 2 && c.clk.onFcc && x ≤ 128 * (c.now - accDelay) && c.acc.delay.all (fun v => decide ((x : Int) ≤ v.ref)) then
        let c := (c.endRecords x)
        if c.get K.AccState ≠ 2 then c else
        let c := c.put K.RecordCount ((c.get K.RecordCount + c.acc.records.length) % 2 ^ 32)
        { (c.put K.AccState 3).put K.FreezeSample x with acc := { c.acc with records := [], cut := none } }
      else c
    | none => c)

/-! Commands (R316, R317, R321, R324) -/

/-- The end of `n` words that begin at the next multiple of 4 from `at'`. -/
def alignWord (w : Nat) : Nat := (w + 3) / 4 * 4

structure AccLayout where
  avg : Nat
  env : Nat
  map0 : Nat
  map1 : Nat
  used : Nat
deriving DecidableEq, Repr

/-- The regions of the enabled functions (R316). -/
def Cell.accLayout (c : Cell) : AccLayout :=
  let size (f n : Nat) : Nat := if c.accOn f then n else 0
  let place (used n : Nat) : Nat × Nat := if n = 0 then (0, used) else (alignWord used, alignWord used + n)
  let map (m : Nat) : Nat := size (2 + m) (c.get (mapKey K.MapColumns m) * c.get (mapKey K.MapRows m))
  let (a, u) := place 0 (size 0 (2 * c.get K.RecordPoints))
  let (e, u) := place u (size 1 (c.get K.RecordPoints))
  let (m0, u) := place u (map 0)
  let (m1, u) := place u (map 1)
  ⟨a, e, m0, m1, u⟩

/-- The configuration of map `m` is out of range (R324). -/
def Cell.mapBad (c : Cell) (m : Nat) : Bool :=
  let x := c.get (mapKey K.MapColumns m)
  let y := c.get (mapKey K.MapRows m)
  c.accOn (2 + m) && (x < 16 || 2048 < x || y < 16 || 1024 < y || c.get (mapKey K.MapAmpSpan m) < y ||
    (!c.mapFolds m && c.get (mapKey K.MapTimeSpan m) == 0))

/-- The start check: code and map, 255 for none (R324). -/
def Cell.accCheck (c : Cell) : Option (Nat × Nat) :=
  if 16 ≤ c.get K.AccFunctions then some (1, 255)
  else if c.get K.AccSource ≠ 0 && c.accPlan.isNone then some (2, 255)
  else if c.accOn 0 && c.accPairs then some (3, 255)
  else if c.geti 64 K.RecordOffset < -2000000 then some (4, 255)
  else if c.mapBad 0 then some (5, 0)
  else if c.mapBad 1 then some (5, 1)
  else if c.accOn 2 && c.mapFolds 0 && c.source ≠ 2 then some (6, 0)
  else if c.accOn 3 && c.mapFolds 1 && c.source ≠ 2 then some (6, 1)
  else if accWords < c.accLayout.used then some (7, 255)
  else none

/-- The cc a control write belongs to; on the bypass clock the last one (R317, R318). -/
def Cell.accCc (c : Cell) : Nat := if c.clk.onFcc then c.now else c.clk.tLast.getD 0

/-- RUNNING is entered after a start (R317). -/
def Cell.accEnter (c : Cell) : Cell :=
  let from' := 128 * (c.accCc + 1)
  { c.put K.AccState 1 with acc := { c.acc with runFrom := from', intakeFrom := some from', group := none, starting := false } }

/-- A wipe runs in the cell (R317). -/
def wiping (g : Glob) (n : CellNo) : Bool := g.get (G.WipeState + n.val) == 1 || g.get (G.WipeState + n.val) == 2

/-- AccStart succeeds: layout, seed, counters, and the clear of the regions (R317, R321). -/
def Cell.accBegin (c : Cell) : Cell :=
  let l := c.accLayout
  let c := ((((c.put K.AvgBase l.avg).put K.EnvBase l.env).put K.Map0Base l.map0).put K.Map1Base l.map1).put K.WordsUsed l.used
  let c := ((((c.put K.RecordCount 0).put K.ValuesTaken 0).put K.UnsettledSkipped 0).put K.ClkSkipped 0).put K.OverRangeSkipped 0
  let c := (c.put K.UnlockedSkipped 0).put K.AccConfigError 0
  let map (m base : Nat) : Option (Nat × Nat × Nat) :=
    if c.accOn (2 + m) then some (c.get (mapKey K.MapColumns m), c.get (mapKey K.MapRows m), base) else none
  let laid : AccLaid := ⟨l.env, if c.accOn 1 then c.get K.RecordPoints else 0, map 0 l.map0, map 1 l.map1⟩
  let c : Cell := { c with acc := { c.acc with laid := laid } }
  let c : Cell := { c with acc := { c.acc with lfsr := c.get K.AccLfsrSeed, records := [], started := 0, lastEnd := none, cut := none,
                                               offFrom := none, intakeFrom := none, starting := true,
                                               clearEnd := c.now + ceilDiv l.used 256 } }
  if l.used = 0 then c.accEnter else c.put K.AccState 5

/-- ACC_START (R317, R324): the check that fails is recorded. -/
def execAccStart (n : CellNo) (w : When) (p : Port) (s : State) : Out :=
  onCellRecord s n w p K.AccStart (fun g c =>
    let st := c.get K.AccState
    if !(st = 0 || st = 3 || st = 4) || wiping g n || g.get G.LifeCycleState == 4 then (c, abortState) else
    match c.accCheck with
    | some (code, m) => (c.put K.AccConfigError (code + m * 65536), abortValue)
    | none => (c.accBegin, 0))

/-- ACC_FREEZE (R317, R318). -/
def execAccFreeze (n : CellNo) (w : When) (p : Port) (s : State) : Out :=
  onCellPort s n w p K.AccFreeze (fun _ c =>
    if c.get K.AccState ≠ 1 then .error abortState else
    let here := 128 * (c.accCc + 1)
    .ok (c.accCut (if c.get K.AccFreezeMode = 1 then c.acc.lastEnd.getD here else here) 1))

/-- A target of R319 is reached. -/
def Cell.accTarget (c : Cell) : Bool :=
  (match c.recordLimit with | some n => decide (n ≤ c.get K.RecordCount) | none => false) ||
  (c.get K.ValueTarget != 0 && c.get K.ValueTarget ≤ c.get K.ValuesTaken)

/-- ACC_RESUME (R317). -/
def execAccResume (n : CellNo) (w : When) (p : Port) (s : State) : Out :=
  onCellPort s n w p K.AccResume (fun _ c =>
    if c.get K.AccState = 3 || (c.get K.AccState = 4 && !c.accTarget) then
      .ok { c.put K.AccState 1 with acc := { c.acc with runFrom := 128 * (c.accCc + 1), records := [], lastEnd := none, cut := none } }
    else .error abortState)

/-- ACC_CLEAR: the whole accumulator, 64 stooks per cycle (R317, R321). -/
def execAccClear (n : CellNo) (w : When) (p : Port) (s : State) : Out :=
  onCellPort s n w p K.AccClear (fun g c =>
    let st := c.get K.AccState
    if (st = 0 || st = 3 || st = 4) && !wiping g n then
      .ok { c.put K.AccState 5 with acc := { c.acc with clearEnd := c.now + 14564, starting := false, intakeFrom := none, records := [] } }
    else .error abortState)

/-- The cells of `n` stooks from `s` on, each with content `v`. -/
def fillCells (v s : Nat) : Nat → Memory
  | 0 => []
  | n + 1 => ((List.range 18).zip (leBytes 18 v)).filterMap (fun e => if e.2 = 0 then none else some (18 * s + e.1, e.2)) ++
      fillCells v (s + 1) n

/-- A cleared envelope stook: four points 7FFFh, 8000h (R312). -/
abbrev clearEnvelope : Nat := 0x80007FFF80007FFF80007FFF80007FFF

/-- The last envelope stook may hold fewer than four points. -/
def envelopeTail (n : Nat) : Nat := clearEnvelope % 2 ^ (32 * n)

/-- The memory after the clear of the first `words` words, envelope points where the layout has them; the words of the last stook behind
them keep their content (R316, R321). -/
def Cell.clearedMemory (c : Cell) (words : Nat) : Memory :=
  let last := words / 4
  let kept := 2 ^ (32 * (words % 4))
  let pts := c.acc.laid.points
  let at' := c.acc.laid.env / 4
  let env := fillCells (encodeStook clearEnvelope) at' (pts / 4) ++
    (if pts % 4 = 0 then [] else fillCells (encodeStook (envelopeTail (pts % 4))) (at' + pts / 4) 1)
  let m := env.filter (fun e => e.1 < 18 * ceilDiv words 4) ++ memClear 0 (18 * ceilDiv words 4) c.acc.memory
  if words % 4 = 0 then m else
  putStook last (encodeStook (payload (decodeStook (stookAt c.acc.memory last)).word / kept * kept + payload (stookAt m last) % kept)) m

/-- ACC_CLEAR_DONE: the clear completes; the state returns to IDLE, or a start enters RUNNING (R317, R321). -/
def execAccClearDone (n : CellNo) (w : When) (s : State) : Out :=
  onCell s n w (fun _ c =>
    if c.get K.AccState ≠ 5 || c.now < c.acc.clearEnd then c else
    let m := c.clearedMemory (if c.acc.starting then c.get K.WordsUsed else accWords)
    let c : Cell := { c with acc := { c.acc with memory := m } }
    if c.acc.starting then c.accEnter else c.put K.AccState 0)

/-- ACC_COUNT_CLEAR: every counter of blocks c902h to c905h (R326). -/
def execAccCountClear (n : CellNo) (w : When) (p : Port) (s : State) : Out :=
  onCellPort s n w p K.AccCountClear (fun _ c => .ok (c.clearCounters 0x902 0x905))

end Sys2Proof.Machine
end

