-- ==== Sys2Proof/Machine/Storage.lean ====
section
/-! DEFINITION. Storage of capture streams (R249 to R258): regions, the storage part of the arming check, the pretrigger ring, and what
arming's segments do to the stooks. -/

namespace Sys2Proof.Machine

/-! Stream arithmetic -/

def Stream.per (s : Stream) : Nat := packValues s.plan.packing
def Stream.vpo (s : Stream) : Nat := s.plan.values

/-- Reference sample of value `v` of the stream's lane sequence (R152). -/
def Stream.refOf (s : Stream) (v : Nat) : Int := s.ref0 + (v / s.vpo * s.plan.step : Nat)

/-- The first value whose reference sample is `x` or later. -/
def Stream.atOrAfter (s : Stream) (x : Nat) : Nat :=
  if (x : Int) ≤ s.ref0 then 0 else s.vpo * ceilDiv ((x : Int) - s.ref0).toNat s.plan.step

/-- The value of the output, its minimum for a pair, whose interval contains sample `x` (R152, R247). -/
def Stream.holding (s : Stream) (x : Nat) : Nat := s.atOrAfter (x + 1) - s.vpo

def Packed.last (p : Packed) : Nat := p.firstVal + p.count - 1

def streamKey (key : Nat) (i : Fin 4) : Nat := key + 0x100 * i.val

def Cell.stream (c : Cell) (i : Fin 4) : Stream := c.cap.streams.get i
def Cell.setStream (c : Cell) (i : Fin 4) (s : Stream) : Cell := { c with cap := { c.cap with streams := c.cap.streams.set i s } }


/-! Layout (R250) -/

/-- Stook places of the capture buffer (R249). -/
abbrev capturePlaces : Nat := 3728270

/-- The value an arm takes for an Arm-class entry. -/
def cfgVal (r : Regs) (k : Nat) : Nat := regGet (cellDflt k) k r

/-- The Arm-class values as the dictionary holds them now (R14). -/
def Cell.armValues (c : Cell) : Regs := c.regs.filter (fun e => match cellEntry? e.1 with | some x => x.cls = .arm | none => false)

/-- The first place behind the staging of the live port lanes. -/
def stagingPlaces (m : Image) : Nat := 4096 * (m.lanes.filter (fun l => l.enabled && l.toPort)).length

def allStreams : List (Fin 4) := [0, 1, 2, 3]

def shareOf (cfg : Regs) (i : Fin 4) : Nat := cfgVal cfg (streamKey K.BufferShare i)

/-- Places of stream `i` (R250): its share of U, or its part of the rest by rate. -/
def streamPlaces (m : Image) (cfg : Regs) (i : Fin 4) : Nat :=
  let u := capturePlaces - stagingPlaces m
  if shareOf cfg i ≠ 0 then u * shareOf cfg i / 1024 else
  match m.captureLane i.val with
  | none => 0
  | some l =>
    let capturing := allStreams.filterMap (fun j => (m.captureLane j.val).map (fun p => (j, p)))
    let explicit := (allStreams.map (fun j => u * shareOf cfg j / 1024)).foldl (· + ·) 0
    let sum := sumFrac ((capturing.filter (fun e => shareOf cfg e.1 == 0)).map (fun e => e.2.stookRate))
    (u - explicit) * l.stookRate.1 * sum.2 / (l.stookRate.2 * sum.1)

/-- First place of stream `i`: the regions follow the staging in stream order. -/
def streamBase (m : Image) (cfg : Regs) (i : Fin 4) : Nat :=
  stagingPlaces m + ((allStreams.filter (fun j => j.val < i.val)).map (streamPlaces m cfg)).foldl (· + ·) 0

/-- Stooks per segment (R227), of the pretrigger part (R255), and the ring margin H (R255). -/
def segStooks (l : LanePlan) (samples : Nat) : Nat := ceilDiv (samples * l.values) (l.decim * l.boxcar * packValues l.packing)
def ringMargin (l : LanePlan) : Nat := ceilDiv (40 * l.stookRate.1) l.stookRate.2

/-! The storage check of an arm (R256) -/

def rangesMeet (a b : Nat × Nat) : Bool := a.1 < b.1 + b.2 && b.1 < a.1 + a.2 && a.2 != 0 && b.2 != 0

/-- No two of the listed ranges overlap. -/
def rangesApart : List (Nat × Nat) → Bool
  | [] => true
  | r :: rs => rs.all (fun x => !rangesMeet r x) && rangesApart rs

/-- The checks of one stream. -/
def streamFits (m : Image) (cfg : Regs) (capacity : Nat) (i : Fin 4) (l : LanePlan) : Bool :=
  let mode := cfgVal cfg K.CaptureMode
  let pre := cfgVal cfg K.PreTriggerSamples
  let post := cfgVal cfg K.PostTriggerSamples
  let n := segStooks l (pre + post)
  let np := segStooks l pre
  let h := ringMargin l
  let q := streamPlaces m cfg i
  let a := l.stookRate
  let d : Nat × Nat := (m.slotTotal 1 i.val, 25 * m.patQ)
  let db := cfgVal cfg (streamKey K.DataBase i)
  let ds := cfgVal cfg (streamKey K.DataStooks i)
  let tb := cfgVal cfg (streamKey K.TableBase i)
  let te := cfgVal cfg (streamKey K.TableEntries i)
  -- ceil((N − Np)(1 − d/a)), where d < a
  let backlog := if leFrac a d then 0 else ceilDiv ((n - np) * (a.1 * d.2 - d.1 * a.2)) (a.1 * d.2)
  let gapless := m.clauses.any (fun x => x.kind == 1 && x.subject == i.val)
  (mode != 1 || n + h ≤ q) && (mode != 0 || np + h + backlog ≤ q) &&
  db + ds ≤ capacity && tb + 2 * te ≤ capacity && (mode == 1 || ds != 0) &&
  (mode == 1 || !gapless || leFrac (addFrac a (256, pre + post + 4096)) d)

/-- The storage condition of code 0003h (R227, R256). -/
def storageFits (m : Image) (cfg : Regs) (capacity : Nat) : Bool :=
  let capturing := allStreams.filterMap (fun i => (m.captureLane i.val).map (fun l => (i, l)))
  let burst := cfgVal cfg K.CaptureMode == 1
  let table (i : Fin 4) : Nat × Nat := (cfgVal cfg (streamKey K.TableBase i), 2 * cfgVal cfg (streamKey K.TableEntries i))
  let data (i : Fin 4) : Nat × Nat := (cfgVal cfg (streamKey K.DataBase i), cfgVal cfg (streamKey K.DataStooks i))
  capturing.all (fun e => streamFits m cfg capacity e.1 e.2) &&
  rangesApart (capturing.flatMap (fun e => if burst then [table e.1] else [data e.1, table e.1]))

/-- Memory in self-refresh under R285 starts its wake-up (R286). -/
def Cell.startWake (c : Cell) : Cell :=
  if c.get K.MemState = 3 then { c.put K.MemState 4 with mem := { c.mem with wakeFrom := c.nowNs } } else c

/-! An accepted arm (R250, R264) -/

/-- The stream of an acquisition that starts under image `m`.  Its region is laid out with or without a lane that writes it (R250); the
outputs the lane has handed on already are behind it. -/
def Cell.newStream (c : Cell) (m : Image) (cfg : Regs) (i : Fin 4) : Stream :=
  let empty : Stream := { noStream with base := streamBase m cfg i, places := streamPlaces m cfg i }
  match m.captureLane i.val with
  | none => empty
  | some l =>
    if h : l.lane < 4 then
      match (c.lane ⟨l.lane, h⟩).running with
      | none => empty
      | some s =>
        { empty with
          active := true, lane := l.lane, plan := l, n0 := s.n0, ref0 := s.outRef 0, openFirst := s.next * l.values
          ring := segStooks l (cfgVal cfg K.PreTriggerSamples) + ringMargin l }
    else empty

/-- Leftover stooks of the previous acquisition are lost and logged (R264). -/
def Cell.dropLeftovers (c : Cell) (i : Fin 4) : Cell :=
  let n := (c.stream i).stooks.length
  if n = 0 then c else (c.add64 (streamKey K.StooksLost i) n).log 0x0701 1 (leBytes 8 n ++ leBytes 1 i.val)

def Cell.armStream (m : Image) (cfg : Regs) (c : Cell) (i : Fin 4) : Cell :=
  let c := c.dropLeftovers i
  let s := c.newStream m cfg i
  let c := c.setStream i s
  let c := (c.put (streamKey K.RegionFirstPlace i) s.base).put (streamKey K.RegionPlaces i) s.places
  let c := (c.put (streamKey K.StreamState i) (if s.active then 1 else 0)).put (streamKey K.StooksPacked i) 0
  let c := ((c.put (streamKey K.StooksDrained i) 0).put (streamKey K.EntriesWritten i) 0).put (streamKey K.TableWrapped i) 0
  (c.put (streamKey K.DeepFull i) 0).put (streamKey K.BufferFillPeak i) 0


/-- The port lanes of an image in lane order (R250). -/
def portLanes (m : Image) : List LanePlan :=
  [0, 1, 2, 3].filterMap (fun k => m.lanes.find? (fun l => l.enabled && l.toPort && l.lane == k))

/-- The live stream of a port lane, whose staging is the `i`-th of the buffer. -/
def Cell.newLive (c : Cell) (i : Nat) (l : LanePlan) : Live :=
  if h : l.lane < 4 then
    match (c.lane ⟨l.lane, h⟩).running with
    | none => noLive
    | some s =>
      { noLive with active := true, lane := l.lane, plan := l, n0 := s.n0, ref0 := s.outRef 0, openFirst := s.next * l.values,
                    base := 4096 * i }
  else noLive

def Cell.setLive (c : Cell) (p : Nat) (x : Live) : Cell :=
  if h : p < 4 then { c with prt := { c.prt with live := c.prt.live.set p x } } else c

/-- Live streams of an accepted arm: the staging starts empty (R250, R377). -/
def Cell.armLive (c : Cell) (m : Image) : Cell :=
  let c := [0, 1, 2, 3].foldl (fun c p => c.setLive p noLive) c
  let ls := portLanes m
  ((List.range ls.length).zip ls).foldl (fun c e => c.setLive e.2.portStream (c.newLive e.1 e.2)) c

/-- Storage of an accepted arm at start sample `a`. -/
def Cell.armStorage (c : Cell) (m : Image) (cfg : Regs) (a : Nat) : Cell :=
  let c := (allStreams.foldl (Cell.armStream m cfg) (c.put K.BurstFull 0)).armLive m
  { c with cap := { c.cap with mode := cfgVal cfg K.CaptureMode, cfg := cfg, start := a, stop := none, ended := false,
                               segments := [], drained := [] } }

/-! Segments (R255, R257) -/

def newStore (number : Nat) : SegStore := ⟨number, none, 0, 0, 0, 0, 0, false, false, false⟩

def setStore (x : SegStore) : List SegStore → List SegStore
  | [] => [x]
  | y :: ys => if y.number = x.number then x :: ys else y :: setStore x ys

/-- A placed stook is part of the segment and waits. -/
def SegStore.await (x : SegStore) (p : Packed) : SegStore := { x with waiting := x.waiting + 1, tags := x.tags ||| p.tags }

/-- A stook of values `fv` to `lv` is stored under `ident`: the first sets FirstStook and FirstSlot, the last LastSlot (R261).  `sv` is
the segment's first value and `ev` the value behind its last. -/
def SegStore.store (x : SegStore) (fv lv sv ev ident : Nat) : SegStore :=
  let x := if x.count = 0 then { x with first := some ident, firstSlot := max sv fv - fv, preShort := sv < fv } else x
  { x with count := x.count + 1, lastSlot := min ev (lv + 1) - 1 - fv }

/-- A stook of the segment in burst mode: it stays, under its region-relative place. -/
def SegStore.keep (x : SegStore) (burst : Bool) (base sv ev : Nat) (p : Packed) : SegStore :=
  if burst then { x with tags := x.tags ||| p.tags }.store p.firstVal p.last sv ev (p.place - base) else x.await p

/-- Ring stooks that hold outputs from the segment's first value on join it; the older ones are free (R255). -/
def adoptRing (burst : Bool) (base number sv ev : Nat) : List Packed → SegStore → List Packed × SegStore
  | [], x => ([], x)
  | p :: ps, x =>
    if p.segment.isNone then
      if p.last < sv then adoptRing burst base number sv ev ps x
      else
        let (rs, x) := adoptRing burst base number sv ev ps (x.keep burst base sv ev p)
        ({ p with segment := some number } :: rs, x)
    else
      let (rs, x) := adoptRing burst base number sv ev ps x
      (p :: rs, x)

/-- The drained stooks of a run that hold values from `sv` to below `ev` are part of the segment; `region` is the length of the data
region (R252, R261, stream mode). -/
def runEnter (region per sv ev : Nat) (x : SegStore) (r : StoredRun) : SegStore :=
  let lo := max r.firstVal sv
  let hi := min (r.firstVal + r.n * per) ev
  if hi ≤ lo then x else
  let a := (lo - r.firstVal) / per
  let b := (hi - 1 - r.firstVal) / per
  let x :=
    if x.count ≠ 0 then x
    else { x with first := some ((r.index + a) % region), firstSlot := lo - (r.firstVal + a * per), preShort := sv < lo }
  { x with count := x.count + (b + 1 - a), lastSlot := hi - 1 - (r.firstVal + b * per), tags := x.tags ||| r.tags }

/-- Stooks of stream `i`'s data region. -/
def Cell.dataStooks (c : Cell) (i : Fin 4) : Nat := max 1 (cfgVal c.cap.cfg (streamKey K.DataStooks i))

/-- A segment opens, or closes without a trigger, on one stream (R255, R257): in burst mode it is not stored once the FREE places are
fewer than the ring. -/
def Cell.openStore (number s e : Nat) (c : Cell) (i : Fin 4) : Cell :=
  let st := c.stream i
  if !st.active || st.done then c else
  let sv := st.atOrAfter s
  let ev := st.atOrAfter e
  if c.cap.mode = 2 then
    let x := st.runs.foldl (runEnter (c.dataStooks i) st.per sv ev) (newStore number)
    let x := (st.stooks.filter (fun p => sv ≤ p.last && p.firstVal < ev)).foldl SegStore.await x
    c.setStream i { st with stores := st.stores ++ [x] }
  else
    let kept := (st.stooks.filter (fun p => p.segment.isSome)).length
    if c.cap.mode = 1 && st.places < kept + st.ring then
      let st := { st with
        stooks := st.stooks.filter (fun p => p.segment.isSome)
        stores := st.stores ++ [{ newStore number with cut := true, truncated := true }] }
      (c.setStream i st).put K.BurstFull 1
    else
      let (ps, x) := adoptRing (c.cap.mode == 1) st.base number sv ev st.stooks (newStore number)
      c.setStream i { st with stooks := ps, stores := st.stores ++ [x] }

def setSegment (g : Segment) : List Segment → List Segment
  | [] => [g]
  | h :: hs => if h.number = g.number then g :: hs else h :: setSegment g hs

/-- Arming reports a segment of the newest acquisition: at its trigger, and again at its close (R212, R229). -/
def Cell.reportSegment (c : Cell) (g : Segment) : Cell :=
  let known := c.cap.segments.any (fun h => h.number == g.number)
  let c : Cell := { c with cap := { c.cap with segments := setSegment g c.cap.segments } }
  if known then c else allStreams.foldl (Cell.openStore g.number g.s g.e) c

/-- The segment a value belongs to, among those arming has reported: the latest whose range holds its reference sample. -/
def Cell.segmentOf (c : Cell) (r : Int) : Option Segment := c.cap.segments.find? (fun g => (g.s : Int) ≤ r && r < g.e)

/-- Arming reports the end of the newest acquisition at sample `z` (R228, R251).  The cause goes to the acquisition's last segment, also
when `z` lies in the REARM behind it (R261). -/
def Cell.endStorage (c : Cell) (z cause : Nat) : Cell :=
  let segments := match c.cap.segments.getLast? with
    | some g => c.cap.segments.dropLast ++ [{ g with endCause := cause }]
    | none => []
  { c with cap := { c.cap with stop := some z, ended := true, segments := segments } }

end Sys2Proof.Machine
end

