-- ==== Sys2Proof/Machine/Arming.lean ====
section
/-! DEFINITION. Arming (R211 to R233): requests and refusals, the decision of samples in position order with the combiner, the
sequencer and holdoff (R194 to R200), segments, stops, and the trigger record. -/

namespace Sys2Proof.Machine

/-! Transitions of one acquisition (R214, R215, R228, R229) -/

inductive ArmStep where
  | start
  | idle
  | segment
  | armed
  | rearm
  | prefill
  | auto
  | close
deriving DecidableEq, Repr

def Acq.val (q : Acq) (k : Nat) : Nat := cfgVal q.cfg k
def Acq.pre (q : Acq) : Nat := q.val K.PreTriggerSamples

/-- The end sample of the segment being filled, when its trigger is recorded. -/
def Acq.segEnd (q : Acq) : Nat := match q.trig with | some t => t.sample + q.val K.PostTriggerSamples | none => 0

/-- Order of everything arming does, by sample, then by rank at one sample, then by fraction, then forced before unit. -/
def armKey (sample rank frac kind : Nat) : Nat := ((sample * 8 + rank) * 256 + frac) * 4 + kind

/-- The transitions ahead of an acquisition, with their sample and key. -/
def Acq.ahead (q : Acq) : List (ArmStep × Nat × Nat) :=
  let at' (s : ArmStep) (b rank : Nat) : ArmStep × Nat × Nat := (s, b, armKey b rank 0 0)
  (match q.stop with
   | some (z, 8) => [at' .idle (z - 1) 5]
   | some (z, _) => [at' .idle z 1]
   | none => []) ++
  (match q.phase with
   | .waiting => [at' .start q.a 0]
   | .prefill => [at' .armed (q.p + q.pre) 2]
   | .armed => match q.auto with | some b => [at' .auto b 3] | none => []
   | .postfill =>
     if q.closed then [at' .rearm q.segEnd 2]
     else [at' .close ((match q.stop with | some (z, _) => min q.segEnd z | none => q.segEnd) - 1) 4]
   | .rearm => [at' .prefill (q.segEnd + 4096) 2]) ++
  (match q.stop, q.phase with
   | some (z, _), .prefill => if q.p < z && !q.closed then [at' .close (z - 1) 4] else []
   | some (z, _), .armed => if q.p < z && !q.closed then [at' .close (z - 1) 4] else []
   | _, _ => [])

def firstStep : List (ArmStep × Nat × Nat) → Option (ArmStep × Nat × Nat)
  | [] => none
  | x :: xs => match firstStep xs with
    | some y => if x.2.2 ≤ y.2.2 then some x else some y
    | none => some x

/-- A stop at `z`: the earliest end sample wins, and at equal ones the lowest cause (R228). -/
def Acq.stopAt (q : Acq) (z cause : Nat) : Acq :=
  { q with stop := match q.stop with
      | none => some (z, cause)
      | some (y, d) => if z < y then some (z, cause) else if z = y then some (z, min cause d) else some (y, d) }

def Cell.setHead (c : Cell) (q : Acq) : Cell := { c with trg := { c.trg with acqs := q :: c.trg.acqs.drop 1 } }

/-- The acquisition being decided is the newest. -/
def Cell.soleAcq (c : Cell) : Bool := c.trg.acqs.length == 1

/-- ArmState after a step: PREFILL while a further acquisition waits (R213, R229). -/
def Cell.showState (c : Cell) (code : Nat) : Cell := c.put K.ArmState (if c.soleAcq then code else 1)

/-! The sequencer (R195 to R199) -/

def Cell.showSeq (c : Cell) (q : Acq) : Cell :=
  let c := c.setHead q
  match q.seq with
  | none => (c.put K.SeqState 0).put K.SeqBCount 0
  | some r => (c.put K.SeqState 1).put K.SeqBCount r.bCount

/-- The position at which the running sequence expires by time (R197). -/
def Acq.expiry (q : Acq) : Option Nat :=
  match q.seq with
  | some r => if q.val K.SeqLimitKind = 1 then some (r.stamp + q.val K.SeqTimeLimit) else none
  | none => none

/-- The sequence expires by time when that position lies before `p` (R197). -/
def Cell.expireSeq (c : Cell) (q : Acq) (p : Nat) : Cell × Acq :=
  match q.expiry with
  | some x => if x < p then
      let q := { q with seq := none }
      ((c.inc32 K.SeqExpiredCount).showSeq q, q) else (c, q)
  | none => (c, q)

/-- The placement and mask of a combined event (R194 to R196). -/
structure Combined where
  sample : Nat
  frac : Nat
  stamp : Nat
  mask : Nat
  placed : Bool
  miss : Bool
deriving DecidableEq, Repr

/-- OR mode: the enabled units' events at one position (R194). -/
def Acq.orEvent (q : Acq) (es : List UnitEvent) : Option Combined :=
  match es.filter (fun e => bit (q.val K.SourceEnable) e.unit) with
  | [] => none
  | e :: rest => some ⟨e.sample, e.frac, e.stamp, (e :: rest).foldl (fun m x => setBit m x.unit) 0,
      (e :: rest).any (fun x => x.placed), (e :: rest).any (fun x => x.miss)⟩

/-- Sequence mode: the events at one position in the order C, expiry by time, D, B, A (R195 to R198). -/
def Cell.seqEvents (c : Cell) (q : Acq) (es : List UnitEvent) : Cell × Acq × Option Combined :=
  let has (u : Nat) : Bool := es.any (fun e => e.unit == u) && unitVal q.cfg K.UnitType u != 0
  let stamp := match es with | e :: _ => e.stamp | [] => 0
  let (c, q) := c.expireSeq q stamp
  -- C
  let (c, q) := if q.seq.isSome && has 2 then (c.inc32 K.SeqResetCount, { q with seq := none }) else (c, q)
  -- expiry by time at this very position
  let (c, q) := c.expireSeq q (stamp + 1)
  -- D
  let (c, q) := match q.seq with
    | some r => if has 3 then
        if q.val K.SeqLimitKind = 2 && q.val K.SeqEventLimit ≤ r.dCount + 1 then (c.inc32 K.SeqExpiredCount, { q with seq := none })
        else (c, { q with seq := some { r with dCount := r.dCount + 1 } })
      else (c, q)
    | none => (c, q)
  -- B
  let b := es.find? (fun e => e.unit == 1)
  let (c, q, out) : Cell × Acq × Option Combined := match q.seq, b with
    | some r, some e =>
      if !has 1 then (c, q, none)
      else if e.sample = r.sample && q.val K.SameSampleAdvance = 0 then (c.inc32 K.SameSampleBlocked, q, none)
      else if q.val K.SeqCountN ≤ r.bCount + 1 then
        (c, { q with seq := none },
         some (if e.sample = r.sample then ⟨r.sample, r.frac, r.stamp, 2, e.placed, e.miss⟩
               else ⟨e.sample, e.frac, e.stamp, 2, e.placed, e.miss⟩))
      else (c, { q with seq := some { r with bCount := r.bCount + 1 } }, none)
    | _, _ => (c, q, none)
  -- A
  let q := match es.find? (fun e => e.unit == 0) with
    | some e => if has 0 && (q.seq.isNone || q.val K.SeqRestartOnA != 0)
        then { q with seq := some ⟨e.sample, e.frac, e.stamp, 0, 0⟩ } else q
    | none => q
  (c.showSeq q, q, out)

/-- Holdoff discards a combined event (R200); the second value is the acquisition with the event counted. -/
def Acq.heldOff (q : Acq) (e : Combined) : Bool × Acq :=
  match q.hold with
  | none => (false, q)
  | some h =>
    match q.val K.HoldoffKind with
    | 1 => (h.stamp ≤ e.stamp && e.stamp < h.stamp + q.val K.HoldoffTime * 2 ^ 9, q)
    | 2 => (h.seen + 1 < q.val K.HoldoffEvents, { q with hold := some { h with seen := h.seen + 1 } })
    | _ => (false, q)

/-! Recording (R217, R222, R233) -/

/-- The 32-byte trigger record (R233). -/
def triggerRecord (t : Trigger) (segment : Nat) : List Byte :=
  leBytes 8 t.sample ++ leBytes 1 t.frac ++ leBytes 1 t.mask ++
  leBytes 2 (b2n t.forced + 2 * b2n t.placed + 4 * b2n t.miss) ++ leBytes 12 t.stamp ++ leBytes 4 segment ++ zeros 4

/-- A trigger is recorded in decision cycle `dc` (R215, R217, R222): POSTFILL begins.  A sequence that has expired by then counts before it
returns to WAIT_A (R197, R199). -/
def Cell.recordTrigger (c : Cell) (q : Acq) (t : Trigger) (dc : Nat) : Cell :=
  let s := t.sample - q.pre
  let e := t.sample + q.val K.PostTriggerSamples
  let (c, q) := c.expireSeq q (t.stamp + 1)
  let q := { q with phase := .postfill, trig := some t, closed := false, auto := none, seq := none, hold := some ⟨t.stamp, 0⟩ }
  let c := (c.showSeq q).pulseAt 0 dc
  let c := if t.forced then (c.pulseAt 1 dc).inc32 K.ForcedCount else c
  let c := ((c.put K.TrigSourceMask t.mask).put K.LastTrigSample t.sample).put K.LastTrigFraction t.frac
  let c := (c.putDom K.LastTriggerRecord (triggerRecord t q.segments)).put K.LastTrigStamp t.stamp
  let c := (c.showState 3).startRecord t s e
  if c.soleAcq then c.reportSegment ⟨q.segments, s, e, some t, t.stamp, false, 0⟩ else c

/-- A forced trigger of the present acquisition at sample `j`. -/
def Cell.forcedTrigger (c : Cell) (j : Nat) : Trigger := ⟨j, 0, c.stampOf j 0, 0x10, true, false, false⟩

/-- An unrecorded candidate by the state its sample lies in (R214). -/
def Cell.judge (c : Cell) (q : Acq) (t : Trigger) (dc : Nat) : Cell :=
  match q.phase with
  | .waiting => c
  | .armed => c.recordTrigger q t dc
  | .prefill => if t.forced then c.inc32 K.ForceIgnored else c.inc64 K.PreFillIgnored
  | .postfill => if t.forced then c.inc32 K.ForceIgnored else c.inc64 K.InSegmentIgnored
  | .rearm => if t.forced then c.inc32 K.ForceIgnored else c.inc64 K.RearmMissed

/-! The steps (R215) -/

/-- The run ends: no acquisition is left (R199, R59). -/
def Cell.toIdle (c : Cell) : Cell := (((c.put K.ArmState 0).put K.SeqState 0).put K.SeqBCount 0).idleEvents

/-- The segment in progress closes with its last sample before `e` (R215, R219, R226, R229). -/
def Cell.closeSegment (c : Cell) (q : Acq) (e dc : Nat) : Cell :=
  let q := match q.trig, q.phase with
    | some _, .postfill =>
      if e < q.segEnd then q
      else if q.val K.ArmMode = 0 then q.stopAt e 1
      else if q.val K.SegmentLimit ≠ 0 && q.val K.SegmentLimit ≤ q.segments + 1 then q.stopAt e 2
      else if c.flag K.ThermalHold then q.stopAt e 6 else q
    | _, _ => q
  let last := match q.stop with | some (z, d) => if z = e then d else 0 | none => 0
  let trig : Option Trigger := if q.phase = .postfill then q.trig else none
  let s := match trig with | some t => t.sample - q.pre | none => max q.p (e - q.pre)
  let stamp := match trig with | some t => t.stamp | none => c.posOf s
  let g : Segment := ⟨q.segments, s, e, trig, stamp, true, last⟩
  let c := c.setHead { q with closed := true, segments := q.segments + 1 }
  let c := c.pulseAt 4 dc
  let c := match trig with | some t => c.closeRecord t e | none => c
  if c.soleAcq then (c.put K.SegmentsRecorded ((q.segments + 1) % 2 ^ 32)).reportSegment g else c

/-- The acquisition ends (R215, R228): ACQ_DONE pulses, LastEndCause and AcqCount follow. -/
def Cell.endAcq (c : Cell) (q : Acq) (dc : Nat) : Cell :=
  let (z, cause) := q.stop.getD (0, 0)
  let (c, _) := c.expireSeq q (c.posOf z)
  let c := ((c.put K.LastEndCause cause).inc32 K.AcqCount).pulseAt 3 dc
  let c := if c.soleAcq then c.endStorage z cause else c
  let c : Cell := { c with trg := { c.trg with acqs := c.trg.acqs.drop 1 }, mem := { c.mem with busyNs := c.nowNs } }
  if c.trg.acqs.isEmpty then c.toIdle else ((c.put K.ArmState 1).put K.SeqState 0).put K.SeqBCount 0

/-- A SEGMENT_START marks sample `b` as the first of a segment (R60): while no trigger of the segment in progress is recorded, PREFILL
starts again with P = b (log entry 60). -/
def Cell.startSegment (c : Cell) (q : Acq) (b : Nat) : Cell :=
  let outside := match q.stop with | some (z, _) => decide (z ≤ b) | none => false
  if !(q.phase = .prefill || q.phase = .armed) || q.closed || outside then c
  else (c.setHead { q with phase := .prefill, p := b, auto := none }).showState 1

/-- The next SEGMENT_START mark to be decided, as a transition. -/
def Cell.segmentAhead (c : Cell) : List (ArmStep × Nat × Nat) :=
  match c.trg.segMarks with
  | m :: _ => [(.segment, m, armKey m 2 0 0)]
  | [] => []

/-- One transition of the acquisition being decided, at sample `b`. -/
def Cell.armStep (c : Cell) (q : Acq) (k : ArmStep) (b : Nat) : Cell :=
  let dc := b / 128 + q.latency
  match k with
  | .start => (c.setHead { q with phase := .prefill, p := q.a }).showState 1
  | .segment => ({ c with trg := { c.trg with segMarks := c.trg.segMarks.drop 1 } } : Cell).startSegment q b
  | .idle => c.endAcq q dc
  | .armed =>
    let t := b + ceilDiv (q.val K.AutoTimeout * c.fs.1) (1000000000 * c.fs.2)
    ((c.setHead { q with phase := .armed, auto := if q.val K.ArmMode = 2 then some t else none }).pulseAt 2 dc).showState 2
  | .rearm => (c.setHead { q with phase := .rearm }).showState 4
  | .prefill => (c.setHead { q with phase := .prefill, p := b, closed := false, trig := none }).showState 1
  | .auto => c.recordTrigger q (c.forcedTrigger b) dc
  | .close => c.closeSegment q (b + 1) dc

/-! Deciding (R213, R216, R218) -/

/-- What waits to be judged, at its key: a forced trigger, or the unit events of one position. -/
def Cell.waiting (c : Cell) (upTo : Nat) : Option Nat :=
  let f : Option Nat := match c.trg.forces with | (j, _) :: _ => if j < upTo then some (armKey j 3 0 1) else none | [] => none
  let e : Option Nat := match c.trg.queue with
    | x :: _ => if x.digital < upTo then some (armKey x.sample 3 x.frac 2) else none
    | [] => none
  match f, e with
  | some a, some b => some (min a b)
  | some a, none => some a
  | none, e => e

/-- The combiner forms at most one candidate of the events at one position; it is delivered unless one of the same cc was
(R173, R200). -/
def Cell.combine (c : Cell) (q : Acq) (es : List UnitEvent) : Cell :=
  let j := match es with | e :: _ => e.sample | [] => 0
  let cc := match es with | e :: _ => e.digital / 128 | [] => 0
  let outside := q.phase = .waiting || match q.stop with | some (z, _) => z ≤ j | none => false
  if outside then c else
  let (c, q, out) : Cell × Acq × Option Combined :=
    if q.val K.TriggerMode = 0 then (c, q, q.orEvent es) else c.seqEvents q es
  match out with
  | none => c
  | some e =>
    if c.trg.lastCand = some cc then c.inc64 K.CoalescedCount else
    let (held, q) := q.heldOff e
    let c := c.setHead q
    if held then c.inc64 K.HoldoffSuppressed else
    let c : Cell := { c with trg := { c.trg with lastCand := some cc } }
    (c.inc64 K.CandidatesDelivered).judge q ⟨e.sample, e.frac, e.stamp, e.mask, false, e.placed, e.miss⟩ (cc + q.latency)

/-- A forced trigger at sample `j`: outside the acquisition only a write counts (R216, R221). -/
def Cell.judgeForce (c : Cell) (q : Acq) (j : Nat) (write : Bool) : Cell :=
  let outside := q.phase = .waiting || match q.stop with | some (z, _) => z ≤ j | none => false
  if outside then (if write then c.inc32 K.ForceIgnored else c)
  else c.judge q (c.forcedTrigger j) (j / 128 + q.latency)

/-- Judge what waits first. -/
def Cell.judgeNext (c : Cell) (q : Acq) : Cell :=
  let forceFirst : Bool := match c.trg.forces, c.trg.queue with
    | (j, _) :: _, e :: _ => armKey j 3 0 1 ≤ armKey e.sample 3 e.frac 2
    | _ :: _, [] => true
    | [], _ => false
  match forceFirst, c.trg.forces with
  | true, (j, wr) :: fs => { c with trg := { c.trg with forces := fs } }.judgeForce q j wr
  | _, _ =>
    match c.trg.queue with
    | [] => c
    | e :: _ =>
      let same (x : UnitEvent) : Bool := x.sample == e.sample && x.frac == e.frac
      let es := c.trg.queue.filter same
      { c with trg := { c.trg with queue := c.trg.queue.filter (fun x => !same x) } }.combine q es

/-- Decide every sample before `128 (t + 1)` with `t` the cycle `now` less the latency, in order. -/
def decideLoop (now : Nat) : Nat → Cell → Cell
  | 0, c => c
  | n + 1, c =>
    match c.trg.acqs with
    | [] =>
      let writes := (c.trg.forces.filter (fun f => f.2)).length
      { c with trg := { c.trg with queue := [], forces := [], segMarks := [] } }.add32 K.ForceIgnored writes
    | q :: _ =>
      let upTo := 128 * (now + 1 - q.latency)
      match firstStep (c.segmentAhead ++ q.ahead), c.waiting upTo with
      | none, none => c
      | some (k, b, _), none => if b < upTo then decideLoop now n (c.armStep q k b) else c
      | none, some _ => decideLoop now n (c.judgeNext q)
      | some (k, b, key), some e =>
        if key < e then decideLoop now n (c.armStep q k b) else decideLoop now n (c.judgeNext q)

/-- The sequence of the acquisition being decided expires in the samples decided so far (R197). -/
def Cell.expireNow (c : Cell) (now : Nat) : Cell :=
  match c.trg.acqs with
  | q :: _ => (c.expireSeq q (c.posOf (128 * (now + 1 - q.latency)))).1
  | [] => c

/-- Arming decides all samples whose decision cycle is `now` or earlier (R213).  Every transition takes at least one sample of its
own or changes the state at one, so twelve rounds a sample are enough. -/
def Cell.decideUpTo (c : Cell) (now : Nat) : Cell :=
  if !c.clk.onFcc || c.trg.acqs.isEmpty then c
  else (decideLoop now (1536 * (now + 1)) c).expireNow now

/-- Before arming takes a request in cc t it has decided the cycles before t. -/
def Cell.settleArm (c : Cell) : Cell := c.decideUpTo (c.now - 1)

/-! Commands that only let arming decide up to the present cycle -/

/-- TRIGGER_CANDIDATE: the combiner delivers its candidate, and arming judges it (R173, R213). -/
def execTriggerCandidate (n : CellNo) (w : When) (s : State) : Out := onCell s n w (fun _ c => c.decideUpTo c.now)
/-- ARMED_ENTRY: the sample P + PreTriggerSamples is decided (R215). -/
def execArmedEntry (n : CellNo) (w : When) (s : State) : Out := onCell s n w (fun _ c => c.decideUpTo c.now)
/-- AUTO_TIMEOUT: the forced trigger of Auto mode is decided (R220). -/
def execAutoTimeout (n : CellNo) (w : When) (s : State) : Out := onCell s n w (fun _ c => c.decideUpTo c.now)
/-- SEGMENT_CLOSE: the last sample of the segment is decided (R215, R229), and with it the boundary behind it. -/
def execSegmentClose (n : CellNo) (w : When) (s : State) : Out := onCell s n w (fun _ c => c.decideUpTo c.now)
/-- REARM_END: sample E + 4,096 is decided (R215). -/
def execRearmEnd (n : CellNo) (w : When) (s : State) : Out := onCell s n w (fun _ c => c.decideUpTo c.now)
/-- SEQ_EXPIRY: the time limit of a running sequence passes (R197). -/
def execSeqExpiry (n : CellNo) (w : When) (s : State) : Out := onCell s n w (fun _ c => c.decideUpTo c.now)

/-! The checks of an arm request (R205, R224, R225, R227) -/

/-- A position of an instance of window `i` with this action that has not fired yet and lies at or before `p`. -/
def dueAtOrBefore (i p action : Nat) : List EventEntry → List EventRun → Option Nat
  | e :: es, r :: rs =>
    let rest := dueAtOrBefore i p action es rs
    match r.origin with
    | some o =>
      let x := e.at o r.next
      if e.enabled && e.action == action && e.param == i && e.hasInst r.next && x ≤ p
      then some (match rest with | some y => max x y | none => x) else rest
    | none => rest
  | _, _ => none

/-- Position `p` lies inside window `i`, judged by the positions of the instances whether or not they have fired (R225). -/
def Cell.insideWindow (c : Cell) (i p : Nat) : Bool :=
  let opens := if c.exe.running then dueAtOrBefore i p 3 c.events c.exe.runs else none
  let closes := if c.exe.running then dueAtOrBefore i p 4 c.events c.exe.runs else none
  match opens, closes with
  | some o, some e => e ≤ o
  | some _, none => true
  | none, some _ => false
  | none, none => c.inWindow i p

abbrev allUnits : List Nat := [0, 1, 2, 3]

/-- A configuration error: code and lane or unit. -/
abbrev ArmError := Option (Nat × Nat)

def orElse' (a b : ArmError) : ArmError := match a with | some x => some x | none => b

def firstUnit (code : Nat) (bad : Nat → Bool) : ArmError := (allUnits.find? bad).map (fun u => (code, u))

/-- The arming configuration check (R227). -/
def Cell.armConfigCheck (c : Cell) (m : Image) (r : Regs) : ArmError :=
  let span := cfgVal r K.PreTriggerSamples + cfgVal r K.PostTriggerSamples
  let short (l : Nat) : Bool := match m.enabledLane l with | some p => p.toCapture && segStooks p span < 128 | none => false
  let path (u : Nat) : Bool := regGet 0 (K.PlacementPath + u) r == 1
  let badPath (u : Nat) : Bool := path u &&
    (unitVal r K.UnitType u != 1 || unitVal r K.UnitInput u != 0 || allUnits.any (fun v => v < u && path v))
  orElse' (firstUnit 1 short) (orElse' (firstUnit 2 badPath)
    (if storageFits m r (c.get K.CapacityStooks) then none else some (3, 255)))

/-- LevelLow and LevelHigh of a two-level unit do not lie in order: the committed levels in force, or the fractions of a tracking
unit (R178). -/
def Cell.pairBad (c : Cell) (u : Nat) : Bool :=
  if c.swath (K.TrackEnable + 0x100 * u) ≠ 0
  then c.swath (K.TrackHighFrac + 0x100 * u) ≤ c.swath (K.TrackLowFrac + 0x100 * u)
  else c.swathi 16 (K.LevelHigh + 0x100 * u) ≤ c.swathi 16 (K.LevelLow + 0x100 * u)

/-- The trigger configuration check (R205). -/
def Cell.trigCheck (c : Cell) (r : Regs) : ArmError :=
  let typ (u : Nat) : Nat := unitVal r K.UnitType u
  let sequence := cfgVal r K.TriggerMode = 1
  let noSource := if sequence then typ 0 = 0 || typ 1 = 0
    else !(allUnits.any (fun u => bit (cfgVal r K.SourceEnable) u && typ u != 0))
  let auxBad (u : Nat) : Bool := unitVal r K.UnitInput u == 1 && !([0, 1, 2, 6].contains (typ u))
  let modeBad (u : Nat) : Bool := typ u == 3 && unitVal r K.Mode u == 2
  let pair (u : Nat) : Bool := [3, 4, 5].contains (typ u) && c.pairBad u
  let width (u : Nat) : Bool := 2 ≤ unitVal r K.WidthMode u && unitVal r K.Width2 u ≤ unitVal r K.Width1 u
  let serial (u : Nat) : Bool := typ u == 8 && (c.swath K.CdrEnable == 0 || allUnits.any (fun v => v < u && typ v == 8))
  let limit := sequence && ((cfgVal r K.SeqLimitKind == 1 && cfgVal r K.SeqTimeLimit == 0) ||
    (cfgVal r K.SeqLimitKind == 2 && typ 3 == 0))
  orElse' (if noSource then some (1, 255) else none) (orElse' (firstUnit 2 auxBad) (orElse' (firstUnit 3 modeBad)
    (orElse' (firstUnit 4 pair) (orElse' (firstUnit 5 width) (orElse' (firstUnit 6 serial)
      (orElse' (if limit then some (7, 255) else none)
        (if 2 ^ 40 * 2 ^ 23 < cfgVal r K.HoldoffTime then some (8, 255) else none)))))))

def errorValue (e : ArmError) : Nat := match e with | some (code, u) => code + u * 65536 | none => 0

/-- An acquisition that starts at sample `a` finds the cell idle: there is none, or the one there is ends by a stop at or before
`a` (R224 cause 1, R229). -/
def Cell.idleFor (c : Cell) (a : Nat) : Bool :=
  match c.trg.acqs with
  | [] => true
  | [q] => match q.stop with | some (z, cause) => z ≤ a && cause != 8 | none => false
  | _ => false

/-- The cell with the outcome of its configuration checks, and the cause of refusal, 0 for none (R224). -/
def Cell.refusal (c : Cell) (g : Glob) (n : CellNo) (a : Nat) : Cell × Nat :=
  if !c.idleFor a then (c, 1) else
  match c.exe.active with
  | none => (c, 2)
  | some m =>
    if c.get K.ClockState ≠ 0 then (c, 3)
    else if c.get K.FgCalState = 1 || c.plc.startup then (c, 4)
    else if g.get (G.WipeState + n.val) = 1 || g.get (G.WipeState + n.val) = 2 || g.get G.LifeCycleState = 4 then (c, 5)
    else if c.flag K.ThermalHold then (c, 6)
    else if c.get K.ArmWindow ≤ 3 && !c.insideWindow (c.get K.ArmWindow) (c.posOf a) then (c, 7)
    else
      let r := c.armValues
      let e := c.armConfigCheck m r
      let c := c.put K.ArmConfigError (errorValue e)
      if e.isSome then (c, 8) else
      let e := c.trigCheck r
      (c.put K.TrigConfigError (errorValue e), if e.isSome then 8 else 0)

/-- Any unit has type SERIAL (R173). -/
def anySerial (r : Regs) : Bool := allUnits.any (fun u => unitVal r K.UnitType u == 8)

/-- An accepted request: the acquisition that starts at sample `a` (R211, R223, R286). -/
def Cell.accept (c : Cell) (a : Nat) : Cell :=
  match c.exe.active with
  | none => c
  | some m =>
    let r := c.armValues
    let lat := if anySerial r then 34 else 26
    let stamp := c.posOf a
    let before := c.arm
    let set : ArmSet := ⟨a, before, (kvFind K.SymbolPattern c.armDoms).getD (zeros 128)⟩
    let c : Cell := { c with
      arm := r, armDoms := c.doms
      trg := { c.trg with arms := set :: keepPast ArmSet.until' c.now c.trg.arms, armTaken := some c.now
                          acqs := c.trg.acqs ++ [⟨a, lat, r, none, .waiting, a, none, false, none, 0, none, none⟩] } }
    let c := (((c.put K.ArmSample a).put K.ArmStamp stamp).put K.SegmentsRecorded 0).skipEpoch
    let c := (c.put K.ArmState 1).put K.TriggerLatencyApplied lat
    ((c.armStorage m r a).armEvents stamp (c.posOf (128 * (a / 128 + 4)))).armUnits a before |>.startWake

/-- A request of this cc for start sample `a`, and how it went: 0 accepted or ignored, else the cause (R223, R224). -/
def Cell.armRequest (c : Cell) (g : Glob) (n : CellNo) (a : Nat) : Cell × Nat :=
  let c := c.settleArm
  if c.trg.armTaken = some c.now && c.clk.onFcc then (c.inc32 K.ArmIgnored, 0) else
  let (c, cause) := c.refusal g n a
  if cause = 0 then (c.accept a, 0)
  else ((c.put K.LastArmRefuseCause cause).inc32 K.ArmRefusedCount, cause)

/-- ARM: an instance of the event table requests arming, sample-exact; a refusal counts as a missed event, and under the thermal hold
it is a breach (R60, R71, R224). -/
def execArm (n : CellNo) (w : When) (idx : Nat) (s : State) : Out :=
  onEvent s n w idx 1 (fun g c e =>
    let (c, cause) := c.armRequest g n e.first
    let c := if cause = 0 then c else c.inc32 K.EventsMissed
    if cause = 6 then c.breach 3 else c)

/-- ARM_START_LINE_PULSE: the line ArmStartLine selects is raised in this cc (R223). -/
def execArmStartLinePulse (n : CellNo) (w : When) (s : State) : Out :=
  onCell s n w (fun g c =>
    if c.fab.pulses.contains (c.now, c.get K.ArmStartLine) then (c.armRequest g n (128 * (c.now + 1))).1 else c)

/-- ARM_REQUEST: a write of 1 to ArmRequest.  A refusal counts and is recorded, and the write fails (R223, R224). -/
def execArmRequest (n : CellNo) (w : When) (p : Port) (s : State) : Out :=
  onCellRecord s n w p K.ArmRequest (fun g c =>
    let (c, cause) := c.armRequest g n (128 * (w.cc + 1))
    (c, if cause = 0 then 0 else if cause = 8 then abortValue else abortState))

/-! Stops and forced triggers (R221, R228) -/

/-- Every acquisition not yet back in idle ends at sample `z`, or earlier (R228). -/
def Cell.stopAll (c : Cell) (z cause : Nat) : Cell :=
  let c := c.settleArm
  { c with trg := { c.trg with acqs := c.trg.acqs.map (fun q => q.stopAt z cause) } }

/-- STOP: ends the acquisition in the cc (R60, R228). -/
def execStop (n : CellNo) (w : When) (idx : Nat) (s : State) : Out :=
  onEvent s n w idx 2 (fun _ c _ => c.stopAll (128 * c.now) 3)

/-- STOP_WRITE: a write of 1 to Stop; while idle, and on the bypass clock, it does nothing (R228). -/
def execStopWrite (n : CellNo) (w : When) (p : Port) (s : State) : Out :=
  onCellPort s n w p K.StopAcq (fun _ c => .ok (if c.clk.onFcc then c.stopAll (128 * (c.now + 1)) 4 else c))

/-- STOP_LINE_PULSE: the line StopLine selects is raised in this cc (R228). -/
def execStopLinePulse (n : CellNo) (w : When) (s : State) : Out :=
  onCell s n w (fun _ c =>
    if c.clk.onFcc && c.fab.pulses.contains (c.now, c.get K.StopLine) then c.stopAll (128 * (c.now + 1)) 5 else c)

/-- WINDOW_CLOSE: the window closes at the instance's position (R60); with ArmWindowStop it ends the acquisition armed in it at the
first sample at or after that position (R225). -/
def execWindowClose (n : CellNo) (w : When) (idx : Nat) (s : State) : Out :=
  onEvent s n w idx 4 (fun _ c e =>
    let c := (c.closeWindow e.param e.pos).settleArm
    let mine (q : Acq) : Bool := q.val K.ArmWindow == e.param && q.val K.ArmWindowStop != 0
    { c with trg := { c.trg with acqs := c.trg.acqs.map (fun q => if mine q then q.stopAt e.first 7 else q) } })

def insSample (x : Nat) : List Nat → List Nat
  | [] => [x]
  | y :: ys => if x < y then x :: y :: ys else y :: insSample x ys

/-- SEGMENT_START: a segment starts at the mark, sample-exact, in the decision cycle of its first sample at or after the position (R48,
R60, R213).  DESIGN CHOICE (log entry 60): it starts as R214 has a segment start, in PREFILL. -/
def execSegmentStart (n : CellNo) (w : When) (idx : Nat) (s : State) : Out :=
  onEvent s n w idx 5 (fun _ c e =>
    let c := c.settleArm
    { c with trg := { c.trg with segStart := some (e.sample, e.frac)
                                 segMarks := if c.trg.acqs.isEmpty then [] else insSample e.first c.trg.segMarks } })

def insForce (f : Nat × Bool) : List (Nat × Bool) → List (Nat × Bool)
  | [] => [f]
  | x :: xs => if f.1 < x.1 then f :: x :: xs else x :: insForce f xs

/-- A forced trigger at sample `j` waits for its decision cycle. -/
def Cell.force (c : Cell) (j : Nat) (write : Bool) : Cell :=
  let c := c.settleArm
  if c.trg.acqs.isEmpty || !c.clk.onFcc then (if write then c.inc32 K.ForceIgnored else c)
  else { c with trg := { c.trg with forces := insForce (j, write) c.trg.forces } }

/-- FORCE_TRIGGER: forces at sample 128t (R221). -/
def execForceTrigger (n : CellNo) (w : When) (idx : Nat) (s : State) : Out :=
  onEvent s n w idx 8 (fun _ c _ => c.force (128 * c.now) false)

/-- FORCE_TRIGGER_WRITE: a write of 1 to ForceTrigger forces at sample 128(t + 1), and always succeeds (R221). -/
def execForceTriggerWrite (n : CellNo) (w : When) (p : Port) (s : State) : Out :=
  onCellPort s n w p K.ForceTrigger (fun _ c => .ok (c.force (128 * (c.now + 1)) true))

/-- TRIGGER_COUNT_CLEAR: the counters of blocks c401h to c408h; what was decided before this cc is counted first (R210, R509). -/
def execTriggerCountClear (n : CellNo) (w : When) (p : Port) (s : State) : Out :=
  onCellPort s n w p K.TriggerCountClear (fun _ c => .ok (c.settleArm.clearCounters 0x401 0x408))

/-- ARM_COUNT_CLEAR: the counters of blocks c501h and c503h, but SegmentsRecorded and TdcHitsCollected (R242). -/
def execArmCountClear (n : CellNo) (w : When) (p : Port) (s : State) : Out :=
  onCellPort s n w p K.ArmCountClear (fun _ c =>
    let c := c.settleArm
    let segs := c.get K.SegmentsRecorded
    let hits := c.get K.TdcHitsCollected
    .ok ((((c.clearCounters 0x501 0x501).clearCounters 0x503 0x503).put K.SegmentsRecorded segs).put K.TdcHitsCollected hits))

end Sys2Proof.Machine
end

