-- ==== Sys2Proof/Machine/Crypto.lean ====
section
/-! DEFINITION. ECDSA over P-384 with SHA-384, as the verifier of firmware images and life-cycle tokens uses it (R461, R467).  Curve and
algorithm are those of the published standard the manual names; all arithmetic is on natural numbers below the modulus. -/

namespace Sys2Proof.Machine

/-- The field's modulus, the coefficient b (a is -3), the order of the base point, and the base point. -/
abbrev p384P : Nat := 2 ^ 384 - 2 ^ 128 - 2 ^ 96 + 2 ^ 32 - 1
abbrev p384B : Nat :=
  0xb3312fa7e23ee7e4988e056be3f82d19181d9c6efe8141120314088f5013875ac656398d8a2ed19d2a85c8edd3ec2aef
abbrev p384N : Nat :=
  0xffffffffffffffffffffffffffffffffffffffffffffffffc7634d81f4372ddf581a0db248b0a77aecec196accc52973
abbrev p384Gx : Nat :=
  0xaa87ca22be8b05378eb1c71ef320ad746e1d3b628ba79b9859f741e082542a385502f25dbf55296c3a545e3872760ab7
abbrev p384Gy : Nat :=
  0x3617de4a96262c6f5d9e98bf9292dc29f8f41dbd289a147ce9da3113b5f0b8c00a60b1ce1d7e819d7a431d7c90ea0e5f

/-- A power modulo `m`, with an exponent of at most `fuel` bits. -/
def powMod (m : Nat) : Nat → Nat → Nat → Nat
  | 0, _, _ => 1
  | fuel + 1, a, e =>
    let r := powMod m fuel (a * a % m) (e / 2)
    if e % 2 = 1 then a * r % m else r

/-- The inverse modulo a prime of 384 bits. -/
def invMod (m a : Nat) : Nat := powMod m 384 (a % m) (m - 2)

/-- A difference modulo `m`. -/
def subMod (m a b : Nat) : Nat := (a % m + m - b % m) % m

/-- A point of the curve; `none` is the point at infinity. -/
abbrev EcPoint := Option (Nat × Nat)

/-- The third point of the line of slope `l` through two points, reflected. -/
def ecChord (l x1 y1 x2 : Nat) : Nat × Nat :=
  let x := subMod p384P (l * l) (x1 + x2)
  (x, subMod p384P (l * subMod p384P x1 x) y1)

def ecAdd (a b : EcPoint) : EcPoint :=
  match a, b with
  | none, q => q
  | q, none => q
  | some (x1, y1), some (x2, y2) =>
    if x1 = x2 then
      if (y1 + y2) % p384P = 0 then none
      else some (ecChord (subMod p384P (3 * x1 * x1) 3 * invMod p384P (2 * y1) % p384P) x1 y1 x2)
    else some (ecChord (subMod p384P y2 y1 * invMod p384P (subMod p384P x2 x1) % p384P) x1 y1 x2)

/-- A multiple of a point, by a factor of at most `fuel` bits. -/
def ecMul : Nat → Nat → EcPoint → EcPoint
  | 0, _, _ => none
  | fuel + 1, k, q =>
    let r := ecMul fuel (k / 2) (ecAdd q q)
    if k % 2 = 1 then ecAdd q r else r

/-- The point lies on the curve (R467: "a valid P-384 point"). -/
def onCurve (x y : Nat) : Bool :=
  x < p384P && y < p384P && y * y % p384P == subMod p384P (x * x * x + p384B) (3 * x)

/-- ECDSA verification of the digest of `msg` under the key (x, y): r and s big-endian, 48 bytes each (R461). -/
def ecdsaOk (x y : Nat) (msg sig : List Byte) : Bool :=
  let r := beNat (slice sig 0 48)
  let s := beNat (slice sig 48 48)
  if !onCurve x y || r = 0 || s = 0 || p384N ≤ r || p384N ≤ s || sig.length ≠ 96 then false else
  let w := invMod p384N s
  let u1 := beNat (sha384 msg) * w % p384N
  let u2 := r * w % p384N
  match ecAdd (ecMul 384 u1 (some (p384Gx, p384Gy))) (ecMul 384 u2 (some (x, y))) with
  | none => false
  | some (x', _) => x' % p384N == r

/-- The key an uncompressed point encoding holds: 04h, X, Y (R482). -/
def pointOf (b : List Byte) : Option (Nat × Nat) :=
  let x := beNat (slice b 1 48)
  let y := beNat (slice b 49 48)
  if b.length = 97 && b.head? == some (4 : Byte) && onCurve x y then some (x, y) else none

end Sys2Proof.Machine
end

