-- ==== Sys2Proof/Machine/DeepMem.lean ====
section
/-! DEFINITION. The channels of deep memory (R275 to R283, R289 to R292, R297, R404 to R406): slots, the rotating bank pick, fixed lanes
and open queues, acceptance of reads and writes, the open-slot arbiter, and what a read delivers. -/

namespace Sys2Proof.Machine

/-! Addresses and slots (R49, R54, R275) -/

def channelOf (s : Nat) : Fin 4 := ⟨s % 4, Nat.mod_lt _ (by decide)⟩
def bankOf (s : Nat) : Nat := s / 4 % 16
def chKey (key : Nat) (ch : Fin 4) : Nat := key + 0x100 * ch.val

def Cell.capacity (c : Cell) : Nat := c.get K.CapacityStooks

/-- Where a stook lies in the devices. -/
structure DeviceAddr where
  channel : Fin 4
  bank : Nat
  column : Nat
  rank : Nat
  row : Nat
deriving DecidableEq, Repr

/-- The device address of stook `s` (R275). -/
def Cell.deviceAddr (c : Cell) (s : Nat) : DeviceAddr :=
  let line := s / 4 / 8192
  ⟨channelOf s, bankOf s, s / 4 / 16 % 512, line / c.get K.RowCountUsed, line % c.get K.RowCountUsed⟩

/-- First cc of a switch to the bypass clock in which the controller neither admits nor issues (R112, R288). -/
def Cell.memCut (c : Cell) : Nat := c.clk.faultCc + 32

/-- The controller goes on in RUN, and in FLUSH up to its cut; the slots of the swath that stopped go on with it. -/
def Cell.memRuns (c : Cell) : Bool := c.get K.ClockState == 0 || (c.get K.ClockState == 1 && c.now < c.memCut)

/-- The first memory cycle of the swath that begins at offset `off` or later: 36 cycles in 25 cc (R49). -/
def firstCycle (off : Nat) : Nat := ceilDiv (36 * off) 25

/-- The memory cycle of a slot within the swath, when the present cc has that cycle (R49). -/
def Cell.slotCycle (c : Cell) (a : SlotAt) : Option Nat :=
  let m := firstCycle c.swathOff + a.sub
  if (c.exe.running || c.get K.ClockState = 1) && c.memRuns && m < firstCycle (c.swathOff + 1) then some m else none

/-- Memory cycles counted without a break from swath to swath. -/
def Cell.absCycle (c : Cell) (m : Nat) : Nat := 36 * (c.trk.startCc / 25) + m

/-- The memory cycles of the present cc: the first, and the first of the next. -/
def Cell.cycleFrom (c : Cell) : Nat := c.absCycle (firstCycle c.swathOff)
def Cell.cycleTo (c : Cell) : Nat := c.absCycle (firstCycle (c.swathOff + 1))

/-- The first memory cycle of the present stretch in RUN. -/
def Cell.runCycle (c : Cell) : Nat := 36 * (c.clk.fresh / 128 / 25)

/-- The first cycle that lies behind what the channels may issue by now. -/
def Cell.issueTo (c : Cell) : Nat :=
  if c.get K.ClockState = 1 then min c.cycleTo (c.absCycle (firstCycle (c.memCut - c.trk.startCc))) else c.cycleTo

/-- The slot byte in force (R54); every slot is open under the idle schedule (R51). -/
def Cell.slotByte (c : Cell) (a : SlotAt) (m : Nat) : Nat :=
  match c.exe.active with
  | none => 0
  | some i => ((i.slots[m / 36 % i.patQ * 144 + a.ch.val * 36 + m % 36]?).getD 0).toNat

def slotTargetOf (b : Nat) : Nat := b / 16 % 8

/-- The memory takes and issues accesses: state 2, or 5 with the healthy channels (R288, R296, R298). -/
def Cell.memServes (c : Cell) : Bool := (c.get K.MemState == 2 || c.get K.MemState == 5) && c.memRuns

def Cell.channelFailed (c : Cell) (ch : Fin 4) : Bool := c.get (chKey K.MemChannelState ch) == 3

/-! The rotating bank pick (R279, R280) -/

def partyIx (p : Party) : Fin 7 :=
  match p with
  | .overlay => 0
  | .cursor => 1
  | .pattern => 2
  | .mover => 3
  | .partner => 4
  | .host => 5
  | .scrub => 6

def allParties : List Party := [.overlay, .cursor, .pattern, .mover, .partner, .host, .scrub]

def Cell.requestsOf (c : Cell) (p : Party) : List OpenReq := c.mem.requests.get (partyIx p)
/-- A party's requests change: to this instant the channels were not idle (R285). -/
def Cell.setRequests (c : Cell) (p : Party) (xs : List OpenReq) : Cell :=
  { c with mem := { c.mem with requests := c.mem.requests.set (partyIx p) xs, busyNs := c.nowNs } }
def Cell.flightsOf (c : Cell) (p : Party) : List Flight := c.mem.flights.get (partyIx p)
def Cell.setFlights (c : Cell) (p : Party) (xs : List Flight) : Cell :=
  { c with mem := { c.mem with flights := c.mem.flights.set (partyIx p) xs } }

/-- A party asks for open accesses. -/
def Cell.ask (c : Cell) (p : Party) (r : OpenReq) : Cell := c.setRequests p (c.requestsOf p ++ [r])

def Cell.banksOf (c : Cell) (ch : Fin 4) : Banks := c.mem.banks.get ch
def Cell.setBanks (c : Cell) (ch : Fin 4) (b : Banks) : Cell := { c with mem := { c.mem with banks := c.mem.banks.set ch b } }

/-- Phase cycles of bank `b` from cycle `lo` to below `hi`. -/
def phases (b lo hi : Nat) : Nat := (hi + 15 - b) / 16 - (lo + 15 - b) / 16

def laneOf (k : Banks) (b : Nat) : List QEntry := (k.fixed[b]?).getD []
def queueOf (k : Banks) (b : Nat) : List QEntry := (k.queues[b]?).getD []

/-- A write to stook `s` is held in the lane or the queue of its bank (R282). -/
def Banks.holdsWrite (k : Banks) (s : Nat) : Bool :=
  (laneOf k (bankOf s) ++ queueOf k (bankOf s)).any (fun e => e.isWrite && e.stook == s)

/-- The first read of stook `s` that has not issued gets its data. -/
def issueFlight (s : Nat) (v : Nat × ReadFrom) : List Flight → List Flight
  | [] => []
  | f :: fs => if f.stook = s && f.data.isNone then { f with data := some v } :: fs else f :: issueFlight s v fs

def issueFixed (s : Nat) : List FixedRead → List FixedRead
  | [] => []
  | f :: fs => if f.stook = s && !f.issued then { f with issued := true } :: fs else f :: issueFixed s fs

/-- An access that has left its lane or queue issues: an open read with the content of its address, which a held write answers; a write
has changed that content at its acceptance, and a fixed read has taken it at its own (R278, R282). -/
def Cell.issue (c : Cell) (e : QEntry) : Cell :=
  if e.isWrite then c else
  match e.party with
  | none => { c with mem := { c.mem with fixedReads := issueFixed e.stook c.mem.fixedReads } }
  | some p =>
    let source : ReadFrom := if (c.banksOf (channelOf e.stook)).holdsWrite e.stook then .held else .device
    c.setFlights p (issueFlight e.stook (stookAt c.mem.memory e.stook, source) (c.flightsOf p))

/-- One phase of bank `b`: the head of the fixed lane issues, or of the open queue (R279). -/
def Cell.issueHead (ch : Fin 4) (b : Nat) (c : Cell) : Cell :=
  let k := c.banksOf ch
  match laneOf k b, queueOf k b with
  | e :: es, _ => (c.setBanks ch { k with fixed := setAt k.fixed b es }).issue e
  | [], e :: es => (c.setBanks ch { k with queues := setAt k.queues b es }).issue e
  | [], [] => c

def Cell.issueHeads (ch : Fin 4) (b : Nat) : Nat → Cell → Cell
  | 0, c => c
  | n + 1, c => Cell.issueHeads ch b n (Cell.issueHead ch b c)

/-- Accesses that bank `b` holds. -/
def heldIn (k : Banks) (b : Nat) : Nat := (laneOf k b).length + (queueOf k b).length

/-- The instant of a memory cycle before the next cc. -/
def Cell.cycleNs (c : Cell) (m : Nat) : Nat := c.nowNs - (c.cycleTo - m) * 3200 * 1000000000 * (c.fs).2 / (36 * (c.fs).1)

/-- Bank `b` runs through its phases from cycle `lo` to below `hi`; its last issue ends what idleness there was (R279, R285). -/
def Cell.runBank (ch : Fin 4) (lo hi : Nat) (c : Cell) (b : Nat) : Cell :=
  let n := min (phases b lo hi) (heldIn (c.banksOf ch) b)
  if n = 0 then c else
  let last := (lo + 15 - b) / 16 * 16 + b + 16 * (n - 1)
  let c := Cell.issueHeads ch b n c
  { c with mem := { c.mem with busyNs := max c.mem.busyNs (c.cycleNs last) } }

def allBanks : List Nat := List.range 16

/-- The channel's pick runs up to memory cycle `m`. -/
def Cell.runChannel (c : Cell) (m : Nat) (ch : Fin 4) : Cell :=
  let lo := (c.banksOf ch).upTo
  if m ≤ lo then c else
  let c := allBanks.foldl (Cell.runBank ch lo m) c
  c.setBanks ch { c.banksOf ch with upTo := m }

def fourChannels : List (Fin 4) := [0, 1, 2, 3]

def Cell.runChannels (c : Cell) (m : Nat) : Cell := fourChannels.foldl (fun c ch => c.runChannel m ch) c

/-- The channels have issued what the cycles up to now let them (R279, R288). -/
def Cell.runMemory (c : Cell) : Cell := if c.get K.ClockState ≤ 1 then c.runChannels c.issueTo else c

/-- Everything held issues, in its order (R288). -/
def Cell.issueHeld (c : Cell) : Cell :=
  fourChannels.foldl (fun c ch => allBanks.foldl (fun c b => Cell.issueHeads ch b (heldIn (c.banksOf ch) b) c) c) c

/-- A fixed access enters the lane of its bank (R280). -/
def Cell.enterLane (c : Cell) (s : Nat) (isWrite : Bool) : Cell :=
  let ch := channelOf s
  let k := c.banksOf ch
  let lane := laneOf k (bankOf s) ++ [⟨none, s, isWrite, false⟩]
  let c := c.setBanks ch { k with fixed := setAt k.fixed (bankOf s) lane }
  if c.get (chKey K.FixedLanePeak ch) < lane.length then c.put (chKey K.FixedLanePeak ch) lane.length else c

/-! In-scan ranges (R297, R344) -/

def Cell.hitsRange (c : Cell) (s i : Nat) : Bool :=
  c.get (K.InScanBase + i) ≤ s && s < c.get (K.InScanBase + i) + c.get (K.InScanLength + i)

/-- A hit on range 0 marks the frame most recently started, one on range 1 or 2 the frame after it; once per frame (R344). -/
def Cell.tear (c : Cell) (next : Bool) : Cell :=
  if (if next then c.mem.tornNext else c.mem.tornNow) then c else
  let c := (c.inc32 K.TornFrameCount).put K.LastTornFrame (c.get K.FrameCount + if next then 1 else 0)
  { c with mem := { c.mem with tornNow := c.mem.tornNow || !next, tornNext := c.mem.tornNext || next } }

/-- A write to stook `s` is compared with the loaded ranges (R297). -/
def Cell.leaseCheck (c : Cell) (s requester : Nat) : Cell :=
  let h0 := c.hitsRange s 0
  let h1 := c.hitsRange s 1 || c.hitsRange s 2
  if !h0 && !h1 then c else
  let c := c.inc32 K.LeaseHitCount
  let c := if c.flag K.LeaseViolation then c else
    ((c.put K.LeaseViolation 1).put K.LeaseViolationStook s).put K.LeaseViolationRequester requester
  let c := if h0 then c.tear false else c
  if h1 then c.tear true else c

/-- The comparison of a write that makes `n` accesses: both halves of a partial write are compared (R297). -/
def Cell.leaseChecks (c : Cell) (s requester : Nat) : Nat → Cell
  | 0 => c
  | n + 1 => (c.leaseCheck s requester).leaseChecks s requester n

/-! Acceptance (R277, R278, R282, R283, R296) -/

def Cell.storeStook (c : Cell) (s v : Nat) : Cell := { c with mem := { c.mem with memory := putStook s v c.mem.memory, busyNs := c.nowNs } }

/-- A flight learns of a write to stook `s`; scrub's counts from its issue on (R283, R294). -/
def Flight.noteWrite (s : Nat) (whole scrub : Bool) (f : Flight) : Flight :=
  if f.stook ≠ s || (scrub && f.data.isNone) then f else { f with rewritten := f.rewritten || whole, touched := true }

/-- A write to stook `s` is accepted: reads under way learn of it, and a write-back of scrub that still waits is cancelled (R294). -/
def Cell.noteWrite (c : Cell) (s : Nat) (whole : Bool) : Cell :=
  let c := allParties.foldl (fun c p => c.setFlights p ((c.flightsOf p).map (Flight.noteWrite s whole (p == .scrub)))) c
  let rs := c.requestsOf .scrub
  let keep := rs.filter (fun r => r.stook != s)
  if keep.length = rs.length then c else (c.setRequests .scrub keep).add32 K.ScrubWritebackCancelled (rs.length - keep.length)

/-- A fixed write cancels the older open writes to its address; a partial one that has not read yet goes whole (R282, R283). -/
def Cell.cancelWrites (c : Cell) (s : Nat) : Cell :=
  let ch := channelOf s
  let k := c.banksOf ch
  let halves (p : Party) : Nat := ((c.flightsOf p).filter (fun f => f.merge && f.stook == s && f.data.isNone)).length
  let c := allParties.foldl (fun c p =>
    if halves p = 0 then c else c.setFlights p ((c.flightsOf p).filter (fun f => !(f.merge && f.stook == s && f.data.isNone)))) c
  -- the read half of a partial write stands right before it
  let rec drop : List QEntry → List QEntry
    | r :: w :: es =>
      if r.merge && r.stook == s then drop es
      else if r.isWrite && r.stook == s then drop (w :: es) else r :: drop (w :: es)
    | [e] => if e.isWrite && e.stook == s then [] else [e]
    | [] => []
  c.setBanks ch { k with queues := setAt k.queues (bankOf s) (drop (queueOf k (bankOf s))) }

/-- A fixed write of a stook: lost when the address is unmapped or its channel has failed. -/
def Cell.fixedWrite (c : Cell) (s v : Nat) : Cell :=
  if c.capacity ≤ s then c.inc32 K.UnmappedAccessCount
  else if c.channelFailed (channelOf s) then c.leaseCheck s 0
  else ((((c.cancelWrites s).enterLane s true).storeStook s v).noteWrite s true).leaseCheck s 0

/-- A poisoned stook that no device delivered. -/
def Cell.lostStook (c : Cell) : Nat × Cell :=
  (poisonStook (Config.lostPayload c.mem.fresh), { c with mem := { c.mem with fresh := c.mem.fresh + 1 } })

/-- FixedReadLatency: 272 + RL, with the read latency in force (R278, R298). -/
def Cell.fixedLatency (c : Cell) : Nat := 272 + c.inForce K.MemReadLatency

/-- A fixed read takes the content of its address as of its slot (R278, R282). -/
def Cell.fixedRead (c : Cell) (m kind target s : Nat) : Cell :=
  let due := m + c.fixedLatency
  let add (c : Cell) (v : Nat) (source : ReadFrom) : Cell :=
    { c with mem := { c.mem with
        fixedReads := c.mem.fixedReads ++ [⟨due, kind, target, s, v, source, source == .nowhere⟩], busyNs := c.nowNs } }
  let lost (c : Cell) : Cell := let r := c.lostStook; add r.2 r.1 .nowhere
  if c.capacity ≤ s then lost (c.inc32 K.UnmappedAccessCount)
  else if c.channelFailed (channelOf s) then lost c
  else
    let source : ReadFrom := if (c.banksOf (channelOf s)).holdsWrite s then .held else .device
    add (c.enterLane s false) (stookAt c.mem.memory s) source

/-- The payload after a write: the enabled bytes in place of the old ones. -/
def mergedPayload (old : Nat) (w : OpenWrite) : Nat :=
  leNat (((List.range 16).zip ((payloadBytes old).zip (payloadBytes w.payload))).map (fun e => if bit w.mask e.1 then e.2.2 else e.2.1))

/-- The content after an open write: enabled bytes merge into the old stook, which stays poisoned unless all are covered (R283). -/
def mergeWrite (old : Nat) (w : OpenWrite) : Nat :=
  let p := mergedPayload old w
  if w.poison || (w.mask % 65536 ≠ 65535 && (decodeStook old).bad) then poisonStook p else encodeStook p

/-! Reading (R291, R292) -/

/-- The classification of a read of stook `s` that came as `v`, with its counts: requester codes of R300. -/
def Cell.checkRead (c : Cell) (s v requester : Nat) : Decoded × Cell :=
  let ch := channelOf s
  let note (c : Cell) (kind symbol : Nat) : Cell :=
    (((c.put K.LastErrorStook s).put K.LastErrorKind kind).put K.LastErrorSymbol symbol).put K.LastErrorRequester requester
  let d := decodeStook v
  match d with
  | .clean _ => (d, c)
  | .corrected i _ => (d, note (c.inc32 (chKey K.MemCorrectedCount ch)) 1 i)
  | .poisoned _ => (d, note (c.inc32 (chKey K.PoisonReadCount ch)) 3 255)
  | .uncorrectable _ =>
    let c := (note (c.inc32 (chKey K.MemUncorrectableCount ch)) 2 255).pulse 59
    (d, (c.breach 2).log 0x0801 2 (leBytes 8 s ++ leBytes 1 ch.val ++ leBytes 1 requester))

/-- What a read delivers: device data with its errors `flip`, the held write's without them, or the lost stook (R277, R282, R291, R296). -/
def Cell.deliver (c : Cell) (s v flip requester : Nat) (source : ReadFrom) : Decoded × Cell :=
  match source with
  | .device => c.checkRead s (v ^^^ flip % 2 ^ 144) requester
  | .held => c.checkRead s v requester
  | .nowhere => (.poisoned v, c)

/-! The open-slot arbiter (R63, R281, R404, R405) -/

def classOf (p : Party) : Nat :=
  match p with
  | .overlay => 0
  | .cursor => 0
  | .pattern => 1
  | .mover => 2
  | .partner => 2
  | .host => 3
  | .scrub => 4

/-- The declaration of a class in the active image. -/
def Cell.declOf (c : Cell) (cls : Nat) : Option OpenDecl :=
  match c.exe.active with
  | none => none
  | some m => m.decls.find? (fun d => d.cls == cls)

/-- First cycle of the service window of length `len` the present cc lies in (R63). -/
def Cell.windowStart (c : Cell) (len : Nat) : Nat := c.trk.startCc + c.swathOff / len * len

/-- Accesses the class has had on the channel in its present window. -/
def Cell.servedNow (c : Cell) (d : OpenDecl) (ch : Fin 4) : Nat :=
  match c.mem.served.find? (fun x => x.cls == d.cls && x.channel == ch.val && x.window == c.windowStart d.windowCc) with
  | some x => x.n
  | none => 0

/-- The class is declared and below MaxStooks on the channel. -/
def Cell.inBudget (c : Cell) (cls : Nat) (ch : Fin 4) : Bool :=
  match c.declOf cls with
  | some d => c.servedNow d ch < d.maxStooks
  | none => false

/-- Queue entries a request needs: a partial write is a read-merge-write pair (R283). -/
def OpenReq.need (r : OpenReq) : Nat := match r.write with | some w => if w.mask % 65536 = 65535 then 1 else 2 | none => 1

/-- The blank frame of a mode switch is sent, which fetches nothing (R342). -/
def Cell.blanks (c : Cell) : Bool := c.get K.RasterState == 3 && c.ras.teNeed == 0

/-- The party's next request, when it is for this channel and its bank's queue has room; the partner's wait outside RUN, the raster's in a
blank frame (R281, R342, R380). -/
def Cell.offer (c : Cell) (ch : Fin 4) (p : Party) : Option OpenReq :=
  if p = .partner && c.get K.ClockState ≠ 0 then none else
  if (p = .overlay || p = .cursor) && c.blanks then none else
  match c.requestsOf p with
  | r :: _ => if channelOf r.stook = ch && (queueOf (c.banksOf ch) (bankOf r.stook)).length + r.need ≤ 8 then some r else none
  | [] => none

/-- The party of a class that is offered first: overlay and cursor by turns, the mover before the partner. -/
def Cell.classParty (c : Cell) (ch : Fin 4) (cls : Nat) : Option Party :=
  let first (ps : List Party) : Option Party := ps.find? (fun p => (c.offer ch p).isSome)
  match cls with
  | 0 => if c.mem.rrRaster = 0 then first [.overlay, .cursor] else first [.cursor, .overlay]
  | 1 => first [.pattern]
  | 2 => first [.mover, .partner]
  | 3 => first [.host]
  | _ => first [.scrub]

def allClasses : List Nat := [0, 1, 2, 3]

/-- Rotate the classes so that the pointer's class comes first. -/
def rotated (ptr : Nat) : List Nat := allClasses.map (fun i => (ptr + i) % 4)

/-- The class an open slot of the channel serves: declared classes within budget in order, then the others by round-robin (R405). -/
def Cell.pickRanked (c : Cell) (ch : Fin 4) : Option Nat :=
  let ready (cls : Nat) : Bool := (c.classParty ch cls).isSome
  match allClasses.find? (fun cls => c.inBudget cls ch && ready cls) with
  | some cls => some cls
  | none => (rotated c.mem.rrClass).find? (fun cls => !c.inBudget cls ch && ready cls)

/-- Scrub, the class numbered 4 here, comes last, and only while it holds the hayward (R63, R405). -/
def Cell.pickClass (c : Cell) (ch : Fin 4) : Option Nat :=
  (c.pickRanked ch).or (if c.get K.HaywardHolder = 4 && (c.offer ch .scrub).isSome then some 4 else none)

/-- The pointers after class `cls` and party `p` won: they move only where several requested (R404). -/
def Cell.movePointers (c : Cell) (ch : Fin 4) (cls : Nat) (p : Party) : Cell :=
  let low (k : Nat) : Bool := !c.inBudget k ch && (c.classParty ch k).isSome
  let contested := !c.inBudget cls ch && allClasses.any (fun k => k != cls && low k)
  let both := cls == 0 && (c.offer ch .overlay).isSome && (c.offer ch .cursor).isSome
  { c with mem := { c.mem with
      rrClass := if contested then (cls + 1) % 4 else c.mem.rrClass
      rrRaster := if both then (if p = .overlay then 1 else 0) else c.mem.rrRaster } }

/-- Charge `n` accesses of the channel to the class's window (R63, R283). -/
def Cell.charge (c : Cell) (ch : Fin 4) (cls n : Nat) : Cell :=
  match c.declOf cls with
  | none => c
  | some d =>
    let w := c.windowStart d.windowCc
    let rest := c.mem.served.filter (fun x => !(x.cls == cls && x.channel == ch.val))
    { c with mem := { c.mem with served := ⟨cls, ch.val, w, c.servedNow d ch + n⟩ :: rest } }

/-- The requester code of a party's writes in the in-scan comparison (R303), and of its reads (R300). -/
def leaseCode (p : Party) : Nat := match p with | .mover => 3 | .host => 4 | _ => 6
def readCode (p : Party) : Nat :=
  match p with
  | .overlay => 1
  | .cursor => 1
  | .pattern => 2
  | .mover => 3
  | .partner => 3
  | .host => 4
  | .scrub => 5

/-- Take the head access off the party's requests. -/
def dropHead : List OpenReq → List OpenReq
  | [] => []
  | r :: rs => if r.count ≤ 1 then rs else { r with stook := r.stook + 1, count := r.count - 1 } :: rs

/-- Admission of the party's head request in this slot (R281 to R283).  A partial write is two entries: its read half, whose data goes to
the merge, and the write.  Its bytes count in the content from here on, as R282 has it of every accepted write. -/
def Cell.admitIt (c : Cell) (ch : Fin 4) (p : Party) (r : OpenReq) : Cell :=
  let s := r.stook
  let c := ((c.movePointers ch (classOf p) p).charge ch (classOf p) r.need).setRequests p (dropHead (c.requestsOf p))
  let enqueue (c : Cell) (e : QEntry) : Cell :=
    let k := c.banksOf ch
    c.setBanks ch { k with queues := setAt k.queues (bankOf s) (queueOf k (bankOf s) ++ [e]) }
  let read (c : Cell) (merge : Bool) : Cell :=
    (enqueue c ⟨some p, s, false, merge⟩).setFlights p (c.flightsOf p ++ [⟨s, r.tag, none, merge, false, false⟩])
  let compared (c : Cell) : Cell := if p = .scrub then c else c.leaseChecks s (leaseCode p) r.need
  match r.write with
  | none =>
    if c.channelFailed ch then
      let (v, c) := c.lostStook
      c.setFlights p (c.flightsOf p ++ [⟨s, r.tag, some (v, .nowhere), false, false, false⟩])
    else read c false
  | some w =>
    if c.channelFailed ch then compared c else
    let whole := r.need = 1
    let c := c.noteWrite s whole
    let c := enqueue (if whole then c else read c true) ⟨some p, s, true, false⟩
    compared (c.storeStook s (mergeWrite (stookAt c.mem.memory s) w))

/-- The oldest admitted read of a party returns its data (R406): what it gives, with the errors `flip` its read met on the way from the
device. -/
def Cell.takeFlight (c : Cell) (p : Party) (flip : Nat) : Option (Flight × Decoded × Cell) :=
  match c.flightsOf p with
  | f :: fs =>
    match f.data with
    | none => none
    | some (v, source) => some (f, (c.setFlights p fs).deliver f.stook v flip (readCode p) source)
  | [] => none

/-- The read half of a partial write has its data: with an old stook that cannot be corrected the merged one is poisoned, unless a later
write covers all of it (R283, R292). -/
def Cell.mergeData (c : Cell) (f : Flight) (d : Decoded) : Cell :=
  if d.bad && !f.rewritten && f.data.any (fun x => x.2 != .nowhere)
  then { c with mem := { c.mem with memory := putStook f.stook (poisonStook (payload (stookAt c.mem.memory f.stook))) c.mem.memory } }
  else c

/-- A fixed read that delivers in this cc: FixedReadLatency cycles after its slot, or late, after a return that it was held over (R278,
R280, R288). -/
def Cell.fixedDue (c : Cell) (f : FixedRead) : Bool :=
  f.due < c.runCycle || (c.cycleFrom ≤ f.due && f.due < c.cycleTo && (f.issued || c.get K.ClockState = 0))

/-- The first fixed read that is due delivers its stook. -/
def Cell.takeFixed (c : Cell) (flip : Nat) : Option (FixedRead × Nat × Cell) :=
  match c.mem.fixedReads.find? c.fixedDue with
  | none => none
  | some f =>
    let c : Cell := { c with mem := { c.mem with fixedReads := c.mem.fixedReads.erase f } }
    let (d, c) := c.deliver f.stook f.data flip 0 f.source
    some (f, d.word, c)

end Sys2Proof.Machine
end

