-- ==== Sys2Proof/Machine/MemControl.lean ====
section
/-! DEFINITION. The life of deep memory (R272 to R274, R284 to R288, R293 to R296): bring-up and capacity, refresh, wake-up, parking,
scrub, retrain and channel failure. -/

namespace Sys2Proof.Machine

/-! Bring-up (R272 to R274) -/

/-- The cause a channel fails bring-up with, or 0: the identity of step 5, the strobes of steps 6 and 8, the margin check of step 10
(R272, R274). -/
def bringUpCause (r : ChannelReport) : Nat :=
  if r.mr1 ≠ 1 || r.rowCount < 2048 || 14563 < r.rowCount then 2
  else if !r.strobes then 1
  else if r.eye < 16 then 3 else 0

def reportRanks (r : ChannelReport) : Nat := if r.rank1 then 2 else 1

/-- The 30 ms refresh window is in use while a device reports more than 85 °C (R284). -/
def Cell.noteHot (c : Cell) : Cell :=
  c.put K.RefreshHot (b2n (fourChannels.any (fun ch => 850 < c.geti 16 (chKey K.DeviceTemp ch))))

/-- What a channel's entries read after bring-up (R302). -/
def Cell.reportChannel (c : Cell) (ch : Fin 4) (r : ChannelReport) : Cell :=
  let c := c.put (chKey K.DeviceIdentity ch) (r.mr0 % 256 + r.mr1 % 256 * 2 ^ 8 + r.rowCount % 2 ^ 14 * 2 ^ 16 + b2n r.rank1 * 2 ^ 30)
  let c := (c.puti 16 (chKey K.DeviceTemp ch) r.temp).puti 16 (chKey K.TrainTemp ch) r.temp
  let c := (c.put (chKey K.WorstEyeWidth ch) r.eye).putDom (chKey K.ReadDeskew ch) r.readTrims
  let c := c.putDom (chKey K.WriteDeskew ch) r.writeTrims
  if bringUpCause r = 0 then c.put (chKey K.MemChannelState ch) 1
  else ((c.put (chKey K.MemChannelState ch) 3).put (chKey K.ChannelFailCause ch) (bringUpCause r)).log 0x0802 2
    (leBytes 1 ch.val ++ leBytes 1 (bringUpCause r))

/-- Scrub is pending while it is enabled and there is a capacity (R293). -/
def Cell.judgeScrub (c : Cell) : Cell :=
  if c.flag K.ScrubEnable && c.capacity != 0 then (if c.flag K.ScrubPending then c else c.setMaint K.ScrubPending 4)
  else (c.put K.ScrubPending 0).endWait 4

def minOver (f : ChannelReport → Nat) : List ChannelReport → Nat
  | [] => 0
  | [r] => f r
  | r :: rs => min (f r) (minOver f rs)

/-- The capacity the four reports fix after step 5 (R273), or none when a channel failed then or later (R274). -/
def Cell.fixCapacity (c : Cell) (rs : List ChannelReport) : Cell :=
  let rows := minOver ChannelReport.rowCount rs
  let ranks := minOver reportRanks rs
  let same := rs.all (fun r => r.rowCount == rows && reportRanks r == ranks)
  let c := if same then c else (c.put K.CapacityMismatch 1).log 0x0805 1 (rs.flatMap (fun r => leBytes 2 r.rowCount))
  if rs.any (fun r => bringUpCause r != 0) then (c.put K.CapacityStooks 0).put K.MemState 5 else
  (((c.put K.RowCountUsed rows).put K.RanksUsed ranks).put K.CapacityStooks (4 * ranks * 16 * 512 * rows)).judgeScrub

/-- MEM_BRING_UP_DONE: steps 5 to 10 are over on all channels, and the memory waits for its wipe (R272 to R274, R470). -/
def execMemBringUpDone (n : CellNo) (w : When) (r0 r1 r2 r3 : ChannelReport) (s : State) : Out :=
  onCell s n w (fun _ c =>
    if c.get K.MemState ≠ 1 || c.get K.ClockState ≠ 4 || !c.clk.onFcc || c.mem.up then c else
    let c := (((c.reportChannel 0 r0).reportChannel 1 r1).reportChannel 2 r2).reportChannel 3 r3
    let c : Cell := { c with mem := { c.mem with retrainNs := w.ns, up := true } }
    (c.fixCapacity [r0, r1, r2, r3]).noteHot)

/-! Refresh (R284) -/

/-- REFRESH: a per-bank refresh in the auxiliary phase takes no slot and changes nothing the part holds (R284). -/
def execRefresh (n : CellNo) (w : When) (s : State) : Out := onCell s n w (fun _ c => c)

/-- RetrainPending for its temperature condition (R295). -/
def Cell.judgeRetrain (c : Cell) : Cell :=
  let far (ch : Fin 4) : Bool :=
    (c.get K.RetrainTempDelta : Int) < (c.geti 16 (chKey K.DeviceTemp ch) - c.geti 16 (chKey K.TrainTemp ch)).natAbs
  if fourChannels.any far && !c.flag K.RetrainPending then c.setMaint K.RetrainPending 0 else c

/-- The devices answer MR4 reads: they are trained, and neither in self-refresh nor on the way out of it. -/
def Cell.polls (c : Cell) : Bool :=
  c.get K.MemState == 2 || c.get K.MemState == 5 || (c.get K.MemState == 1 && c.mem.up)

/-- MR4_POLL: the highest device temperature of each channel in °C sets the refresh window and may ask for a retrain (R284, R295). -/
def execMr4Poll (n : CellNo) (w : When) (t0 t1 t2 t3 : Int) (s : State) : Out :=
  onCell s n w (fun _ c =>
    if !c.polls then c else
    let put (c : Cell) (ch : Fin 4) (t : Int) : Cell := c.puti 16 (chKey K.DeviceTemp ch) (10 * t)
    (put (put (put (put c 0 t0) 1 t1) 2 t2) 3 t3).noteHot.judgeRetrain)

/-! Self-refresh and wake-up (R285 to R288) -/

/-- ChannelState of every channel that has not failed. -/
def Cell.setChannels (c : Cell) (v : Nat) : Cell :=
  fourChannels.foldl (fun c ch => if c.channelFailed ch then c else c.put (chKey K.MemChannelState ch) v) c

/-- MEM_WAKE_WRITE: acts only while the channels are in self-refresh (R286). -/
def execMemWakeWrite (n : CellNo) (w : When) (p : Port) (s : State) : Out :=
  onCellPort s n w p K.MemWake (fun _ c => .ok c.startWake)

/-- Reads of a failed channel that have not been delivered deliver poisoned stooks (R296). -/
def Cell.loseFlights (c : Cell) (ch : Fin 4) (p : Party) : Cell :=
  (c.flightsOf p).foldl (fun c f =>
    if channelOf f.stook = ch then
      let (v, c) := c.lostStook
      c.setFlights p (c.flightsOf p ++ [{ f with data := some (v, .nowhere) }])
    else c.setFlights p (c.flightsOf p ++ [f])) (c.setFlights p [])

/-- A channel is marked failed until the next cell reset (R296). -/
def Cell.failChannel (c : Cell) (ch : Fin 4) (cause : Nat) : Cell :=
  if c.channelFailed ch then c else
  let c := (c.put (chKey K.MemChannelState ch) 3).put (chKey K.ChannelFailCause ch) cause
  let c := allParties.foldl (fun c p => c.loseFlights ch p) c
  let (v, c) := c.lostStook
  let lose (f : FixedRead) : FixedRead := if channelOf f.stook = ch then { f with data := v, source := .nowhere, issued := true } else f
  let c := c.setBanks ch { c.banksOf ch with fixed := List.replicate 16 [], queues := List.replicate 16 [] }
  let c : Cell := { c with mem := { c.mem with fixedReads := c.mem.fixedReads.map lose } }
  (c.breach 4).log 0x0802 2 (leBytes 1 ch.val ++ leBytes 1 cause)

def Cell.anyFailed (c : Cell) : Bool := fourChannels.any c.channelFailed

/-- CHANNEL_FAIL: a strobe is missing in operation, or a retrain finds a DQ with no eye (R296). -/
def execChannelFail (n : CellNo) (w : When) (ch : Fin 4) (atRetrain : Bool) (s : State) : Out :=
  onCell s n w (fun _ c =>
    if c.get K.MemState ≠ 2 && c.get K.MemState ≠ 5 then c else
    (c.runMemory.failChannel ch (if atRetrain then 5 else 4)).put K.MemState 5)

/-- The smallest of a list of eyes, or `d` of none. -/
def narrowest (d : Nat) (eyes : List Nat) : Nat := (eyes.min?).getD d

/-- New trims of a channel, whose reference is its present temperature (R287, R295, R302). -/
def Cell.putTrim (c : Cell) (ch : Fin 4) (readTrims writeTrims : List Byte) : Cell :=
  let c := (c.putDom (chKey K.ReadDeskew ch) readTrims).putDom (chKey K.WriteDeskew ch) writeTrims
  c.put (chKey K.TrainTemp ch) (c.get (chKey K.DeviceTemp ch))

/-- The read trims of a channel. -/
def Cell.readTrims (c : Cell) (ch : Fin 4) : List Byte := c.dom (chKey K.ReadDeskew ch) (zeros 144)

/-- Every trim moved by its offset. -/
def recentred (trims : List Byte) (offsets : List Int) : List Byte :=
  (trims.zip (offsets ++ List.replicate (trims.length - offsets.length) 0)).map (fun e => e.1 + BitVec.ofInt 8 e.2)

/-- Step 3 of the wake-up checks does for the channel: every eye centre lies within 8/64 UI of its trim, and every eye is 16/64 UI wide
(R287). -/
def wakeNear (r : WakeReport) : Bool := r.offsets.all (fun x => x.natAbs ≤ 8) && r.eyes.all (16 ≤ ·)

/-- What the wake-up checks leave of one channel: re-centred trims, those of a full training, or a failure (R287, R296). -/
def Cell.wakeChannel (c : Cell) (ch : Fin 4) (r : WakeReport) : Cell :=
  if c.channelFailed ch then c
  else if r.eyes.any (· == 0) || (!wakeNear r && r.eye < 16) then c.failChannel ch 5
  else if wakeNear r then
    let c := c.putTrim ch (recentred (c.readTrims ch) r.offsets) (c.dom (chKey K.WriteDeskew ch) (zeros 144))
    c.put (chKey K.WorstEyeWidth ch) (narrowest (c.get (chKey K.WorstEyeWidth ch)) r.eyes)
  else (c.putTrim ch r.readTrims r.writeTrims).put (chKey K.WorstEyeWidth ch) r.eye

/-- WAKE_DONE: the wake-up checks end on the channels (R287).  In a return, what was held issues before anything new (R288), and a
deep-memory wipe that a fault cut resumes before the memory reports ready (R471). -/
def execWakeDone (n : CellNo) (w : When) (r : WakeReports) (s : State) : Out :=
  onCell s n w (fun g c =>
    if c.get K.MemState ≠ 4 then c else
    let c := ((((c.setChannels 1).wakeChannel 0 r.ch0).wakeChannel 1 r.ch1).wakeChannel 2 r.ch2).wakeChannel 3 r.ch3
    let c := if c.get K.ClockState = 4 then c.issueHeld else c
    let c := c.put K.LastWakeNs ((c.nowNs - c.mem.wakeFrom) % 2 ^ 32)
    let c : Cell := { c with mem := { c.mem with busyNs := c.nowNs } }
    c.put K.MemState (if g.get (G.WipeState + n.val) = 2 then 1 else if c.anyFailed then 5 else 2))

/-- The memory goes to self-refresh with the switch to the bypass clock: it is trained, and has a capacity. -/
def Cell.parks (c : Cell) : Bool :=
  match c.get K.MemState with
  | 0 => false
  | 1 => c.mem.up
  | _ => c.capacity != 0

/-- The memory parks when the cell goes to the bypass clock (R288): accesses in lanes and queues stay held.  A bring-up in progress is
abandoned and starts again at the next return (R272). -/
def Cell.park (c : Cell) : Cell :=
  let c := c.runMemory
  if c.parks then (c.setChannels 2).put K.MemState 6 else c

/-- The channels of a switch to the bypass clock have entered self-refresh, at its cc 36 (R288). -/
def Cell.parkedEarly (c : Cell) : Bool := c.get K.ClockState == 1 && c.clk.faultCc + 36 ≤ c.now && c.parks

/-- What MemState reads: 5 while any channel is failed (R288, R296, R298). -/
def Cell.memState (c : Cell) : Nat := if c.anyFailed then 5 else if c.parkedEarly then 6 else c.get K.MemState

/-- What ChannelState of a channel reads (R288, R302). -/
def Cell.channelState (c : Cell) (ch : Fin 4) : Nat :=
  if c.parkedEarly && !c.channelFailed ch then 2 else c.get (chKey K.MemChannelState ch)

/-- On the fresh swath the rotating pick goes on from the present cycle, with what was held (R288). -/
def Cell.syncBanks (c : Cell) : Cell :=
  fourChannels.foldl (fun c ch => c.setBanks ch { c.banksOf ch with upTo := c.cycleFrom }) c

/-! Scrub (R293, R294) -/

/-- The pointer moves to the next stook, and a pass ends at the capacity (R293). -/
def Cell.scrubNext (c : Cell) : Cell :=
  let a := c.get K.ScrubPointer
  if a + 1 < c.capacity then c.put K.ScrubPointer (a + 1) else (c.put K.ScrubPointer 0).inc32 K.ScrubPasses

/-- Scrub's read of the stook at its pointer is offered to the channel: what the offer leaves when it is admitted (R293, R405). -/
def Cell.scrubRead (c : Cell) (ch : Fin 4) : Cell :=
  let offered := c.setRequests .scrub (⟨c.get K.ScrubPointer, 1, none, 0⟩ :: c.requestsOf .scrub)
  match offered.offer ch .scrub with
  | none => c
  | some r => (offered.admitIt ch .scrub r).scrubNext

/-- What scrub's data asks for: a corrected stook is written back with all its bytes unchanged, an uncorrectable one in poison form; a
write to the address that came between cancels it (R294). -/
def Cell.scrubData (c : Cell) (f : Flight) (d : Decoded) : Cell :=
  let back (w : OpenWrite) : Cell := if f.touched then c.inc32 K.ScrubWritebackCancelled else c.ask .scrub ⟨f.stook, 1, some w, 0⟩
  match d with
  | .clean _ => c
  | .poisoned _ => c
  | .corrected _ _ => back ⟨0, 0, false⟩
  | .uncorrectable v => back ⟨payload v, 65535, true⟩

/-! Retrain (R295) -/

/-- RETRAIN_REQUEST: a write of 1 sets RetrainPending (R301). -/
def execRetrainRequest (n : CellNo) (w : When) (p : Port) (s : State) : Out :=
  onCellPort s n w p K.RetrainRequest (fun _ c => .ok (if c.flag K.RetrainPending then c else c.setMaint K.RetrainPending 0))

/-- RETRAIN_INTERVAL_EXPIRY: RetrainInterval has passed since the last retrain (R295). -/
def execRetrainIntervalExpiry (n : CellNo) (w : When) (s : State) : Out :=
  onCell s n w (fun _ c =>
    let ms := c.get K.RetrainInterval
    if ms ≠ 0 && c.capacity ≠ 0 && !c.flag K.RetrainPending && c.mem.retrainNs + ms * 1000000 ≤ c.nowNs
    then c.setMaint K.RetrainPending 0 else c)

/-- The eyes a retrain found on one channel, by DQ: those below 24/64 UI count and are logged, one that is gone fails the channel
(R295, R296). -/
def Cell.noteEyes (c : Cell) (ch : Fin 4) (r : RetrainReport) : Cell :=
  let narrow := ((List.range r.eyes.length).zip r.eyes).filter (fun e => e.2 < 24)
  let c := narrow.foldl (fun c e => (c.inc32 K.RetrainMarginLow).log 0x0804 1 (leBytes 1 ch.val ++ leBytes 1 e.1 ++ leBytes 1 e.2))
    (c.put (chKey K.WorstEyeWidth ch) (narrowest (c.get (chKey K.WorstEyeWidth ch)) r.eyes))
  if r.eyes.any (· == 0) then (c.failChannel ch 5).put K.MemState 5 else c

/-- RETRAIN_DONE: a granted retrain has its trims, which wait for the boundary (R295). -/
def execRetrainDone (n : CellNo) (w : When) (r0 r1 r2 r3 : RetrainReport) (s : State) : Out :=
  onCell s n w (fun _ c =>
    if c.get K.HaywardHolder ≠ 0 then c else
    let c := (((c.runMemory.noteEyes 0 r0).noteEyes 1 r1).noteEyes 2 r2).noteEyes 3 r3
    let ts := [r0, r1, r2, r3].map (fun r => (r.readTrims, r.writeTrims))
    Cell.releaseToken { c with mem := { c.mem with retrain := some ts } })

/-- Trims of the channels from `ch` on. -/
def Cell.putTrims (c : Cell) : List (Fin 4) → List (List Byte × List Byte) → Cell
  | ch :: chs, t :: ts => (c.putTrim ch t.1 t.2).putTrims chs ts
  | _, _ => c

/-- What a swath boundary applies of a finished retrain, unless its grant ends in this very hand-over cycle (R295, R415). -/
def Cell.retrainBoundary (c : Cell) (newSwath : Nat) : Cell :=
  match (if c.endsNow 0 then none else c.mem.retrain) with
  | none => c
  | some ts =>
    let c := (((c.putTrims fourChannels ts).inc32 K.RetrainCount).put K.LastRetrainSwath newSwath).put K.RetrainPending 0
    let c : Cell := { c with mem := { c.mem with retrain := none, retrainNs := c.nowNs } }
    (c.endWait 0).log 0x0803 0 (leBytes 2 (c.get K.TrainTemp) ++ leBytes 8 newSwath)

/-- MEM_ERROR_CLEAR: the counters of blocks c801h, c803h, c804h and c806h to c809h (R300). -/
def execMemErrorClear (n : CellNo) (w : When) (p : Port) (s : State) : Out :=
  onCellPort s n w p K.MemErrorClear (fun _ c =>
    .ok ((((c.clearCounters 0x801 0x801).clearCounters 0x803 0x803).clearCounters 0x804 0x804).clearCounters 0x806 0x809))

end Sys2Proof.Machine
end

