-- ==== Sys2Proof/Machine/Placement.lean ====
section
/-! DEFINITION. Skew and TDC calibration (R234 to R240): the start-up placement calibration, skew recalibration, TDC linearity, and what
a swath boundary applies of them. -/

namespace Sys2Proof.Machine

/-- Trims in force from a boundary on, or from the start-up calibration (R234, R243). -/
def Cell.applyTrims (c : Cell) (t : SkewTrims) (temp : Int) : Cell :=
  let c := (c.puti 32 K.AuxSkewTrim t.aux).puti 32 K.EdgeSkewTrim t.edge
  (c.put K.LogicSkewTrim (raw 8 t.logic0 + 256 * raw 8 t.logic1)).puti 16 K.SkewCalTemp temp

/-- The start-up placement calibration begins, directly after foreground calibration (R235). -/
def Cell.startPlacement (c : Cell) : Cell := { c.put K.SkewState 1 with plc := { c.plc with startup := true } }

/-- PLACEMENT_CAL_DONE: skew and the linearity of both TDC units are done, with the histograms of their fine codes (R235, R239). -/
def execPlacementCalDone (n : CellNo) (w : When) (r : PlacementReport) (s : State) : Out :=
  onCell s n w (fun g c =>
    if !c.plc.startup then c else
    let c := ((c.applyTrims r.trims (chipTemp g n)).put K.SkewState 2).puti 16 K.TdcCalTemp (chipTemp g n)
    { c with plc := { c.plc with startup := false, toggledNs := c.nowNs, tables := #v[r.hist0, r.hist1] } })

/-- SKEW_RECAL_DONE: a granted skew recalibration has its trims, which wait for the boundary (R236). -/
def execSkewRecalDone (n : CellNo) (w : When) (t : SkewTrims) (s : State) : Out :=
  onCell s n w (fun _ c =>
    if c.get K.HaywardHolder ≠ 2 then c else
    Cell.releaseToken { c.put K.SkewState 2 with plc := { c.plc with trims := some t } })

/-- Edges in the spare unit's histogram when a running grant has lasted through this cc: 32 per cc, 262,144 at most (R239, R243). -/
def Cell.tdcHits (c : Cell) : Nat :=
  if c.get K.HaywardHolder = 3 then min 262144 (c.get K.TdcHitsCollected + 32 * (c.now + 1 - c.hay.grantStart))
  else c.get K.TdcHitsCollected

/-- TDC_TABLE_COMPLETE: the spare unit's histogram is full, and its counts are the unit's table; a running grant ends, and the unit goes
live at the first boundary after it (R239). -/
def execTdcTableComplete (n : CellNo) (w : TdcTable) (s : State) : Out :=
  onCell s n w.toWhen (fun _ c =>
    if c.tdcHits = 262144 && !c.plc.toggle then
      let c : Cell := { c.put K.TdcHitsCollected 262144 with
        plc := { c.plc with toggle := true, tables := c.plc.tables.set (Fin.ofNat 2 (1 - c.get K.TdcActiveUnit)) w.hist } }
      if c.get K.HaywardHolder = 3 then c.releaseToken else c
    else c)

/-- TDC_CAL_INTERVAL_EXPIRY: TdcCalInterval has passed since the last toggle (R240). -/
def execTdcCalIntervalExpiry (n : CellNo) (w : When) (s : State) : Out :=
  onCell s n w (fun _ c =>
    let ms := c.get K.TdcCalInterval
    if ms ≠ 0 && 2 ≤ c.get K.SkewState && !c.flag K.TdcPending && c.plc.toggledNs + ms * 1000000 ≤ c.nowNs
    then c.setMaint K.TdcPending 3 else c)

/-- The temperature conditions of R236 and R240, judged at every sensor sample once calibrated. -/
def Cell.judgePlacementTemp (c : Cell) (temp : Int) : Cell :=
  if c.get K.SkewState < 2 then c else
  let c := if 50 < (temp - c.geti 16 K.SkewCalTemp).natAbs && !c.flag K.SkewPending then c.setMaint K.SkewPending 2 else c
  if 50 < (temp - c.geti 16 K.TdcCalTemp).natAbs && !c.flag K.TdcPending then c.setMaint K.TdcPending 3 else c

/-- Trims and the live unit that were in force before sample `s0` are kept for the placements of samples before it (R236). -/
def Cell.noteTrims (c : Cell) (old : TrimSet) (s0 : Nat) : Cell :=
  if c.trimsNow c.act = old then c
  else { c with plc := { c.plc with past := { old with until' := s0 } :: keepPast TrimSet.until' c.now c.plc.past } }

/-- Waiting trims apply (R236). -/
def Cell.takeTrims (c : Cell) (temp : Int) : Cell :=
  match (if c.endsNow 2 then none else c.plc.trims) with
  | some t =>
    let c := ((c.applyTrims t temp).inc32 K.SkewCalCount).put K.SkewPending 0
    Cell.endWait { c with plc := { c.plc with trims := none } } 2
  | none => c

/-- The spare unit goes live with its full table (R239). -/
def Cell.takeToggle (c : Cell) (temp : Int) : Cell :=
  if !c.plc.toggle || c.endsNow 3 then c else
  let c := ((c.put K.TdcActiveUnit (1 - c.get K.TdcActiveUnit)).inc32 K.TdcLinCount).puti 16 K.TdcCalTemp temp
  let c := (c.put K.TdcHitsCollected 0).put K.TdcPending 0
  Cell.endWait { c with plc := { c.plc with toggle := false, toggledNs := c.nowNs } } 3

/-- What a swath boundary applies: waiting trims (R236), and the spare unit with its full table (R239).  `old` holds the Swath-class
values before it, `s0` is the first sample behind it. -/
def Cell.placementBoundary (c : Cell) (g : Glob) (n : CellNo) (s0 : Nat) (old : Regs) : Cell :=
  let temp := chipTemp g n
  ((c.takeTrims temp).takeToggle temp).noteTrims (c.trimsNow old) s0

/-- A clock fault, or a range change while skew runs, abandons what a grant was collecting (R236, R240). -/
def Cell.abandonSkew (c : Cell) : Cell := if c.get K.HaywardHolder = 2 then (c.put K.SkewState 2).releaseToken else c
def Cell.abandonTdc (c : Cell) : Cell := c.put K.TdcHitsCollected 0

end Sys2Proof.Machine
end

