-- ==== Sys2Proof/Machine/Boundary.lean ====
section
/-! DEFINITION. The swath boundary: TRACKER_UPDATE in cc -4, staging, commit and the image swap in the hand-over cycle (R44, R67 to R69,
R73 to R75, R511), and the end of foreground calibration, which falls on a boundary. -/

namespace Sys2Proof.Machine

/-! What a commit applies (R14, R73, R119) -/

def isSwath (k : Nat) : Bool := match cellEntry? k with | some x => x.cls = .swath | none => false
def isClockKey (k : Nat) : Bool := k == K.SampleRate || k == K.RefFrequency

/-- The entries whose staged values a commit does not apply: the clock entries, which wait (R119), and the phase window of the
statistics when it is empty (R328). -/
def Cell.keepsOut (c : Cell) (k : Nat) : Bool :=
  isClockKey k || ((k == K.StatsPhaseLow || k == K.StatsPhaseHigh) && c.get K.StatsPhaseHigh ≤ c.get K.StatsPhaseLow)

/-- The staged Swath-class values, with the values in force of the entries that are kept out. -/
def Cell.committedRegs (c : Cell) : Regs :=
  (c.act.filter (fun e => c.keepsOut e.1)).foldl (fun r e => kvPut e.1 e.2 r)
    (c.regs.filter (fun e => isSwath e.1 && !c.keepsOut e.1))

/-- A commit applies: every staged entry but a changed clock entry, which waits for its retune (R73, R119). -/
def Cell.applyCommit (c : Cell) : Cell :=
  let want := (c.get K.SampleRate, c.get K.RefFrequency)
  let wait := if want = (c.swath K.SampleRate, c.swath K.RefFrequency) then none else some want
  let c : Cell := { c with act := c.committedRegs, actDoms := c.doms.filter (fun e => isSwath e.1),
                           clk := { c.clk with retune := wait }, exe := { c.exe with commitCc := some c.now } }
  let c := if wait.isNone then c.put K.RetuneDeferred 0 else c
  (c.put K.LastCommitSwath (wrapAdd 64 (c.get K.SwathCount) 1)).put K.CommitPending 0

/-! The image swap (R69, R75) -/

/-- The achieved rate lies in an image's range, in MS/s (R53, R68). -/
def Image.allows (m : Image) (fs : Nat) : Bool := m.fsMin * 1000000 ≤ fs && fs ≤ m.fsMax * 1000000

/-- Activities that wait and that no window of the new image holds are logged (R65). -/
def Cell.logWindowless (c : Cell) : Cell :=
  [0, 1, 2, 3, 4].foldl (fun c a => if c.maintPending a then c.logNoWindow a else c) c

/-- The banks change places; the former active image becomes the staged one (R69, R75). -/
def Cell.exchange (c : Cell) (m : Image) : Cell :=
  let old := c.exe.active
  let c : Cell := { c with exe := { c.exe with active := some m, staged := old, noWindowLogged := 0,
                                               stagedBytes := (old.map Image.bytes).getD [],
                                               bank := if old.isSome then .verified else .empty },
                           mem := { c.mem with served := [] } }
  let c := (c.put K.ActiveImageBank (1 - c.get K.ActiveImageBank)).put K.ActiveImageId m.id
  let c := (c.put K.StagedImageId ((old.map Image.id).getD 0)).put K.StagedValid (b2n old.isSome)
  ((c.put K.TimelineSource m.source).putDom K.AcceptedClauses (sectBytes m.bytes 5)).logWindowless

/-- A swap sampled at the boundary, once foreground calibration has ended (R127), whose next swath starts with sample `s0`: done
unless Fs has left the image's range (R69); a
running acquisition ends at the boundary (R228). -/
def Cell.swapImage (c : Cell) (s0 : Nat) : Cell × Bool :=
  if !c.flag K.SwapPending || c.get K.FgCalState < 2 then (c, false) else
  let c := c.put K.SwapPending 0
  match c.exe.staged with
  | none => (c, false)
  | some m =>
    if !m.allows (c.get K.SampleRateApplied) then (c.put K.ImageStatus 0x0109, false)
    else ((c.stopAll s0 9).exchange m, true)

/-! The line of the next swath (R44, R46, R511) -/

/-- The first line on a new source: its measured position and rate at S0', with no correction term (R511). -/
def Cell.sourceLine (c : Cell) (s0 : Nat) : Line :=
  let src := c.source
  let off : Int := if src = 3 then 0 else c.trk.offset src * (2 ^ 32 : Nat)
  let at' (p : Int) (r : Nat × Nat) : Line := ⟨s0, (p % (2 ^ 96 : Nat)).toNat, (rate56 r).toNat⟩
  if src = 0 then at' ((s0 * 2 ^ 32 : Nat) + off) (1, 1) else
  match c.trk.measOf src with
  | some m => at' (m.at s0 + off) ((c.programmedRate src).getD (m.num, m.den))
  | none =>
    let r := c.nominalRate src
    at' ((s0 * r.1 * 2 ^ 32 / r.2 : Nat) : Int) r

/-- The line the tracker fixed in cc -4, or fixes now when that cycle brought none (R44). -/
def Cell.nextLineAt (c : Cell) (g : Glob) (s0 : Nat) : Line × Int :=
  match c.trk.nextLine with
  | some l => if l.1.s0 = s0 then l else ({ (c.fixLine g).1 with s0 := s0, t0 := c.pos s0 }, (c.fixLine g).2)
  | none => ({ (c.fixLine g).1 with s0 := s0, t0 := c.pos s0 }, (c.fixLine g).2)

/-- A swap changed the source: lock starts again (R511). -/
def Cell.newSource (c : Cell) (g : Glob) : Cell :=
  let c := (c.put K.TimelineLocked 0).put K.SourceLost (b2n (c.srcLost g c.source))
  { c with trk := { c.trk with inLimit := 0, beyond := 0 } }

/-- The swath that starts with cc `start` begins under line `l` with residual `e`: events passed by a jump, the count, the line
SWATH (R46, R62, R75, R76). -/
def Cell.beginSwath (c : Cell) (start : Nat) (l : Line) (e : Int) (swapped : Bool) : Cell :=
  let c : Cell := { c with trk := { c.trk with line := l, prevLine := c.trk.line, startCc := start, nextLine := none },
                           exe := { c.exe with breachSeen := 0, running := true } }
  let c := (c.puti 64 K.TrackerResidual e).noteLine l
  let c := if swapped then c.startEvents (l.pos l.s0) else c.passEvents (l.pos l.s0)
  ((c.inc64 K.SwathCount).put K.SwathLength c.swathLen).pulseAt 36 start

/-! What applies at a boundary (R73, R166, R203, R236, R295) -/

/-- Front end, filter, correction, trigger levels, recovery and maintenance results at a boundary.  `old` holds the values before the
commit, `waiting` the bank swaps sampled. -/
def Cell.applyBoundary (c : Cell) (g : Glob) (n : CellNo) (s0 : Nat) (old : Regs) (committed swapped : Bool) (waiting : List (Fin 4)) :
    Cell :=
  let newSwath := wrapAdd 64 (c.get K.SwathCount) 1
  let (c, restarted) := if swapped then c.swapLanes s0 else (c, [])
  let range := c.get K.RangeApplied
  let dac := c.geti 16 K.OffsetDacCode
  let front := c.frontNow
  let c := c.notePins s0 old
  let c := c.applyFrontEnd s0 committed
  let changedRange := c.get K.RangeApplied != range
  let c : Cell := if changedRange then (if c.get K.HaywardHolder = 1 then c.abandonRecal 1 else c).abandonSkew.restartBg else c
  let c := if changedRange || c.geti 16 K.OffsetDacCode != dac then c.accRangeCut s0 else c
  let c : Cell := if changedRange || c.geti 16 K.OffsetDacCode != dac || c.get K.BandwidthApplied != front.bandwidth
    then { c with cor := { c.cor with blockFrontEnd := true } } else c
  let c := c.applyFilter s0 ((kvFind K.Stage1Coefs c.actDoms).getD stage1Default)
  let c := c.takeSwaps s0 waiting restarted
  let c := (c.correctionBoundary g n committed newSwath).noteFront front s0
  let c := ((c.levelsBoundary newSwath s0 old).cdrBoundary old).placementBoundary g n s0 old
  let c := c.retrainBoundary newSwath
  if swapped then c.accSwap restarted s0 else c

/-! The switch to the bypass clock, in its cc 0 (R112) -/

/-- What cc 0 of a switch does in any case: FLUSH begins, the swath and any grant end, a foreground calibration is abandoned, and the
lanes use no later sample (R112, R130, R132, R418).  DESIGN CHOICE (log entry 169): a planned retune cuts the running block as a clock fault
does. -/
def Cell.flush (c : Cell) (cause : Nat) (planned : Bool) : Cell :=
  let c := (((c.dropAhead.passedSoFar.abandonRecal 2).abandonSkew.abandonTdc).dropToken).cutLanes (128 * (c.now + 1))
  let c := (c.put K.ClockState 1).put K.LastFaultCause cause
  let c := if c.get K.FgCalState = 1 then c.put K.FgCalState 0 else c
  { c with exe := { c.exe with running := false }, clk := { c.clk with faultCc := c.now, planned := planned },
           cor := { c.cor with blockCut := true } }

/-- The hand-over cycle (R73 to R75).  With a retune due in an idle cell the switch of R112 begins, with no breach, and the executor
ends at the boundary; the swap waits for the fresh swath (R119). -/
def Cell.boundary (c : Cell) (g : Glob) (n : CellNo) : Cell :=
  let s0 := 128 * (c.now + 1)
  let c := c.haywardBoundary
  let waiting := c.waitingSwaps
  let old := c.act
  let committed := c.flag K.CommitPending
  let idle := c.get K.ArmState == 0
  let c := if committed then c.applyCommit else c
  if c.clk.retune.isSome && idle then ((c.applyBoundary g n s0 old committed false waiting).put K.RetuneDeferred 0).flush 4 true else
  let c := if c.clk.retune.isSome then c.put K.RetuneDeferred 1 else c
  let src := c.source
  let (l, e) := c.nextLineAt g s0
  let (c, ticks) := c.loadEpoch
  let (c, swapped) := c.swapImage s0
  let c := c.applyBoundary g n s0 old committed swapped waiting
  let moved := swapped && c.source != src
  let c := (if moved then c.newSource g else c).auxSwath
  let (l, e) := if moved then (c.sourceLine s0, 0) else (l.shift ticks, e)
  c.beginSwath (c.now + 1) l e swapped

/-- SWATH_BOUNDARY, in the hand-over cycle. -/
def execSwathBoundary (n : CellNo) (w : When) (s : State) : Out :=
  onCell s n w (fun g c => if c.exe.running && c.get K.ClockState = 0 && c.now = c.handOver then c.boundary g n else c)

/-- TRACKER_UPDATE, in cc -4 of a swath, with the measurements up to cc -5 (R44, R510); the level tracker fixes its levels there too
(R203). -/
def execTrackerUpdate (n : CellNo) (w : When) (ms : List MeasIn) (s : State) : Out :=
  onCell s n w (fun g c =>
    if c.exe.running && c.get K.ClockState = 0 && c.now + 4 = c.handOver then (c.trackerFix g ms).evalStats.fixTracking else c)

/-- FG_CAL_DONE: foreground calibration ends at the boundary that ends it, in the hand-over cycle before the swath that just began;
the condition units, the recovery and the placement calibration start (R128, R129, R171, R235). -/
def execFgCalDone (n : CellNo) (w : When) (coarse : List Int) (sets : List FgSet) (tone : Option ToneFail) (durUs : Nat) (s : State) :
    Out :=
  onCell s n w (fun g c =>
    if c.get K.FgCalState ≠ 1 || c.now + 1 ≠ c.trk.startCc then c else
    let k := 128 * c.trk.startCc
    ((((c.fgCalDone g n coarse sets tone durUs).legsAfterCal k).startUnits k).restartCdr).startPlacement)

/-! Images (R67 to R69) and commits (R73, R74) -/

/-- IMAGE_STAGED_WRITE: loads the staged bank and starts verification (R67).  DESIGN CHOICE (log entry 164): StagedImageId reads 0 until the
image is verified. -/
def Cell.writeStaged (c : Cell) (data : List Byte) : Except Nat Cell :=
  if c.flag K.SwapPending || c.exe.bank = .verifying then .error abortState else
  .ok { ((c.put K.StagedValid 0).put K.StagedImageId 0) with
        exe := { c.exe with staged := none, stagedBytes := data, bank := .verifying } }

def execImageStagedWrite (n : CellNo) (w : When) (p : Port) (data : List Byte) (s : State) : Out :=
  onCellPort s n w p K.ImageStaged (fun _ c => if 32768 < data.length then .error abortTooLong else c.writeStaged data)

/-- IMAGE_VERIFY_DONE: the checks of R68 in table order; StagedValid on success only. -/
def Cell.verifyStaged (c : Cell) (g : Glob) (n : CellNo) : Cell :=
  let stepping := bits (g.get G.RevisionNumber) 16 16
  let r := verifyImage c.exe.stagedBytes stepping n.val (c.get K.SampleRateApplied)
  let c := c.put K.ImageStatus (statusOf r)
  match r with
  | none =>
    let m := parseImage c.exe.stagedBytes
    { ((c.put K.StagedValid 1).put K.StagedImageId m.id) with exe := { c.exe with staged := some m, bank := .verified } }
  | some _ => { c with exe := { c.exe with bank := .refused } }

/-- SWAP_REQUEST: a write of 1 (R69); late in the hand-over cycle (R74). -/
def Cell.requestSwap (c : Cell) : Except Nat Cell :=
  if !c.flag K.StagedValid then .error abortState else .ok ((c.put K.SwapPending 1).lateStage)

def execSwapRequest (n : CellNo) (w : When) (p : Port) (s : State) : Out :=
  onCellPort s n w p K.SwapRequest (fun _ c => c.requestSwap)

/-- COMMIT: a write of 1 asks for every staged entry to apply at the next boundary (R73, R74). -/
def execCommit (n : CellNo) (w : When) (p : Port) (s : State) : Out :=
  onCellPort s n w p K.Commit (fun _ c => .ok ((c.put K.CommitPending 1).lateStage))

end Sys2Proof.Machine
end

