-- ==== Sys2Proof/Machine/Capture.lean ====
section
/-! DEFINITION. The capture path (R244 to R262): packing lane outputs into stooks, places, release and drain, overflow, and the entries
of the segment tables. -/

namespace Sys2Proof.Machine

/-! The stook of a lane (R245, R246) -/

/-- A lane value as a packing stores it (R246). -/
def reduceValue (packing : Nat) (v : Int) : Int :=
  match packing with
  | 0 => satS 10 (rneShift v 6)
  | 1 => satS 8 (rneShift v 8)
  | _ => v

/-- Bits of a slot, and where the tag lies (R245). -/
def slotBits (packing : Nat) : Nat := match packing with | 0 => 10 | 1 => 8 | _ => 16
def tagAt (packing : Nat) : Nat := if packing = 2 then 112 else 120

def packSlots (w : Nat) : List Int → Nat
  | [] => 0
  | v :: vs => raw w v + 2 ^ w * packSlots w vs

/-- The payload of values and a tag (R245, R248). -/
def packPayload (packing : Nat) (vals : List Int) (tag : Nat) : Nat := packSlots (slotBits packing) vals + tag * 2 ^ tagAt packing

/-- Tag bits set on a payload at its release. -/
def addTag (packing v tag : Nat) : Nat := payload v ||| (tag * 2 ^ tagAt packing)

/-! Places (R249, R252) -/

/-- The first FREE place of the region from the running position on. -/
def freePlace (base q : Nat) (taken : List Packed) : Nat → Nat → Option Nat
  | 0, _ => none
  | n + 1, i =>
    let p := base + i % q
    if taken.any (fun x => x.place == p) then freePlace base q taken n (i + 1) else some i

def Stream.free (s : Stream) : Option Nat :=
  if s.places = 0 then none else freePlace s.base s.places s.stooks (s.stooks.length + 1) s.nextPlace

/-- The segment whose outputs values `fv` to `lv` hold, the latest first (R212, R229). -/
def Cell.segmentFor (c : Cell) (s : Stream) (fv lv : Nat) : Option Segment :=
  c.cap.segments.reverse.find? (fun g => s.atOrAfter g.s ≤ lv && fv < s.atOrAfter g.e)

/-- Update what the stream stores of a segment. -/
def updStore (number : Nat) (f : SegStore → SegStore) : List SegStore → List SegStore
  | [] => []
  | x :: xs => if x.number = number then f x :: xs else x :: updStore number f xs

def storeOf (number : Nat) (xs : List SegStore) : Option SegStore := xs.find? (fun x => x.number == number)

/-- Every segment of a stream-mode acquisition that shares values `fv` to `lv`. -/
def Cell.sharing (c : Cell) (s : Stream) (fv lv : Nat) : List Segment :=
  c.cap.segments.filter (fun g => s.atOrAfter g.s ≤ lv && fv < s.atOrAfter g.e)

/-- The stook is written into a place and becomes HELD (R252). -/
def Cell.place (c : Cell) (i : Fin 4) (s : Stream) (at' : Nat) (seg : Option Nat) : Cell :=
  let pl := s.base + at' % s.places
  let p : Packed := ⟨pl, s.openFirst, s.openVals.length, s.openTags, .held, seg, s.stored⟩
  let w := encodeStook (packPayload s.plan.packing s.openVals s.openTags)
  let stores : List SegStore :=
    match seg with
    | some n =>
      match c.cap.segments.find? (fun g => g.number == n) with
      | some g => updStore n (fun x => x.keep (c.cap.mode == 1) s.base (s.atOrAfter g.s) (s.atOrAfter g.e) p) s.stores
      | none => s.stores
    | none =>
      if c.cap.mode = 2 then
        (c.sharing s p.firstVal p.last).foldl (fun xs (g : Segment) => updStore g.number (fun x => x.await p) xs) s.stores
              else s.stores
  let s := { s with stooks := s.stooks ++ [p], nextPlace := at' + 1, stored := s.stored + 1, stores := stores }
  let c : Cell := { c.setStream i s with cap := { (c.setStream i s).cap with memory := putStook pl w c.cap.memory } }
  if c.get (streamKey K.BufferFillPeak i) < s.stooks.length then c.put (streamKey K.BufferFillPeak i) s.stooks.length else c

/-- An overflow (R257): counted once, with the line, at the first stook lost. -/
def Cell.overflow (c : Cell) (i : Fin 4) (first : Bool) : Cell :=
  let c := c.inc64 (streamKey K.StooksLost i)
  if first then (c.inc32 (streamKey K.OverflowCount i)).pulse 6 else c

/-- Take the oldest HELD ring stook out, when the ring has its full length or the region is full (R255). -/
def Stream.reclaim (s : Stream) : Stream :=
  let ring := s.stooks.filter (fun p => p.segment.isNone)
  if s.ring ≤ ring.length || s.places ≤ s.stooks.length then
    match ring with
    | r :: _ => { s with stooks := s.stooks.filter (fun p => p.place != r.place) }
    | [] => s
  else s

/-- A closed stook of a segmented or burst acquisition finds its place, or is lost (R255, R257). -/
def Cell.placeSegmented (c : Cell) (i : Fin 4) (s : Stream) : Cell :=
  let lv := s.openFirst + s.openVals.length - 1
  match c.segmentFor s s.openFirst lv with
  | none =>
    let s := s.reclaim
    match s.free with
    | some x => c.place i s x none
    | none => c.setStream i s
  | some g =>
    let cut := match storeOf g.number s.stores with | some x => x.cut | none => false
    let burst := c.cap.mode == 1
    let backlog := (s.stooks.filter (fun p => p.segment.isSome)).length
    let s := if burst && s.places ≤ s.stooks.length then s.reclaim else s
    let full := if burst then s.free.isNone else s.places - s.ring ≤ backlog || s.free.isNone
    if cut || full then
      let c := c.setStream i { s with stores := updStore g.number (fun x => { x with cut := true, truncated := true }) s.stores }
      if burst then c else c.overflow i (!cut)
    else
      match s.free with
      | some x => c.place i s x (some g.number)
      | none => c.setStream i s

/-- A closed stook of a stream-mode acquisition (R257). -/
def Cell.placeStream (c : Cell) (i : Fin 4) (s : Stream) : Cell :=
  match s.free with
  | some x =>
    let s := match s.gap with
      | some g => { s with gap := none, gaps := s.gaps ++ [{ g with next := some s.stored }] }
      | none => s
    c.place i s x none
  | none =>
    let first := s.gap.isNone
    let g : Gap := match s.gap with
      | some g => { g with lost := g.lost + 1 }
      | none => ⟨(s.refOf s.openFirst).toNat, c.posOf (s.refOf s.openFirst).toNat, 1, none⟩
    (c.setStream i { s with gap := some g }).overflow i first

/-- The CLK bit of a stook that is written now (R110, R247). -/
def Cell.clkTag (c : Cell) : Nat := if c.clk.outRun != 0 || c.clk.clkMark then 4 else 0

/-- The open stook is closed (R248): it is placed, and the next one begins behind it. -/
def Cell.closeStook (c : Cell) (i : Fin 4) : Cell :=
  let s := { c.stream i with openTags := (c.stream i).openTags ||| c.clkTag }
  if s.openVals.isEmpty then c else
  let c := c.inc64 (streamKey K.StooksPacked i)
  let c := if c.cap.mode = 2 then c.placeStream i s else c.placeSegmented i s
  let t := c.stream i
  c.setStream i { t with openFirst := s.openFirst + s.openVals.length, openVals := [], openTags := 0 }

/-- The next value the stream's packer takes. -/
def Stream.nextVal (s : Stream) : Nat := s.openFirst + s.openVals.length

/-- A segment ends behind the last value packed (R248, R251). -/
def Cell.atSegmentEnd (c : Cell) (s : Stream) : Bool :=
  c.cap.mode != 2 && c.cap.segments.any (fun g => s.atOrAfter g.e == s.nextVal && s.atOrAfter g.s < s.nextVal)

/-- One value of the stream's lane. -/
def Cell.packValue (c : Cell) (i : Fin 4) (tags : Nat) (v : Int) : Cell :=
  let s := c.stream i
  let r := s.refOf s.nextVal
  let before : Bool := decide (r < c.cap.start)
  let past : Bool := match c.cap.stop with | some z => decide ((z : Int) ≤ r) | none => false
  if past then c
  else if before then c.setStream i { s with openFirst := s.openFirst + 1 }
  else
    let s := { s with openVals := s.openVals ++ [reduceValue s.plan.packing v], openTags := s.openTags ||| tags }
    let c := c.setStream i s
    if s.per ≤ s.openVals.length || c.atSegmentEnd s then c.closeStook i else c

/-- Nothing of the acquisition is left in the buffer and every entry is written (R264). -/
def Stream.spent (s : Stream) : Bool := s.done && s.stooks.isEmpty && s.stores.isEmpty && s.gaps.isEmpty

/-- StreamState 2 becomes 3 with the last stook and entry (R264). -/
def Cell.completeStream (c : Cell) (i : Fin 4) : Cell :=
  if (c.stream i).spent && c.get (streamKey K.StreamState i) = 2 then
    { c.put (streamKey K.StreamState i) 3 with mem := { c.mem with busyNs := c.nowNs } }
  else c

/-- The lane hands on no further output of the stream's sequence. -/
def Cell.laneSpent (c : Cell) (lane n0 : Nat) : Bool :=
  if h : lane < 4 then
    match (c.lane ⟨lane, h⟩).seqs.find? (fun q => q.n0 == n0) with
    | some q => !c.inSeq q q.next
    | none => true
  else true

/-- Once the packer has passed the end sample, the open stook closes and what no segment holds is free (R248, R264). -/
def Cell.finishStream (c : Cell) (i : Fin 4) : Cell :=
  let s := c.stream i
  match c.cap.stop with
  | some z =>
    if s.active && !s.done && (s.atOrAfter z ≤ s.nextVal || c.laneSpent s.lane s.n0) then
      let c := c.closeStook i
      let s := c.stream i
      let keep (p : Packed) : Bool := c.cap.mode == 2 || p.segment.isSome
      let gaps := match s.gap with | some g => s.gaps ++ [{ g with next := some s.stored }] | none => s.gaps
      let c := c.setStream i { s with stooks := s.stooks.filter keep, gap := none, gaps := gaps, done := true }
      (c.put (streamKey K.StreamState i) (if c.cap.mode = 1 then 3 else 2)).completeStream i
    else c
  | none => c

/-! Live port streams (R377) -/

def Live.refOf (x : Live) (v : Nat) : Int := x.ref0 + (v / x.plan.values * x.plan.step : Nat)

/-- A stook of a live stream enters staging, or finds it full and is dropped; a run of drops that ends queues its GAP flit. -/
def Cell.stage (c : Cell) (p : Fin 4) : Cell :=
  let x := { c.prt.live.get p with openTags := (c.prt.live.get p).openTags ||| c.clkTag }
  if x.openVals.isEmpty then c else
  let after := { x with openFirst := x.openFirst + x.openVals.length, openVals := [], openTags := 0, packed := x.packed + 1 }
  if 4096 ≤ x.staged.length then
    let d := match x.drop with | some (f, n) => (f, n + 1) | none => (x.packed, 1)
    (c.setLive p { after with drop := some d }).inc64 (K.LiveStooksLost + 0x100 * p.val)
  else
    let c : Cell := match x.drop with
      | some (f, n) => { c with prt := { c.prt with gaps := c.prt.gaps ++ [(p.val, f, n)] } }
      | none => c
    let pl := x.base + x.nextPlace % 4096
    let w := encodeStook (packPayload x.plan.packing x.openVals x.openTags)
    let l : LiveStook := ⟨pl, x.openFirst, x.openVals.length, x.openTags, c.now, x.packed⟩
    let c := c.setLive p { after with staged := x.staged ++ [l], nextPlace := x.nextPlace + 1, drop := none }
    { c with cap := { c.cap with memory := putStook pl w c.cap.memory } }

def Cell.liveValue (c : Cell) (p : Fin 4) (tags : Nat) (v : Int) : Cell :=
  let x := c.prt.live.get p
  let r := x.refOf (x.openFirst + x.openVals.length)
  let past : Bool := match c.cap.stop with | some z => decide ((z : Int) ≤ r) | none => false
  if past then c
  else if r < c.cap.start then c.setLive p { x with openFirst := x.openFirst + 1 }
  else
    let x := { x with openVals := x.openVals ++ [reduceValue x.plan.packing v], openTags := x.openTags ||| tags }
    let c := c.setLive p x
    if packValues x.plan.packing ≤ x.openVals.length then c.stage p else c

/-- The live stream ends with the packer past Z. -/
def Cell.finishLive (c : Cell) (p : Fin 4) : Cell :=
  let x := c.prt.live.get p
  match c.cap.stop with
  | some z =>
    if x.active && !x.done && ((z : Int) ≤ x.refOf (x.openFirst + x.openVals.length) || c.laneSpent x.lane x.n0) then
      let c := c.stage p
      let y := c.prt.live.get p
      let c : Cell := match y.drop with
        | some (f, n) => { c with prt := { c.prt with gaps := c.prt.gaps ++ [(p.val, f, n)] } }
        | none => c
      c.setLive p { y with done := true, drop := none }
    else c
  | none => c

def Cell.finishAll (c : Cell) : Cell := allStreams.foldl (fun c i => (c.finishStream i).finishLive i) c

/-! STOOK_PACK (R251) -/

/-- The output enters the packer in this cc or may have before: it is delivered, and the decision cycle of its reference sample is
past (R251). -/
def Cell.mayPack (c : Cell) (k : Fin 4) (q : LaneSeq) (p : Nat) : Bool :=
  c.clk.onFcc && c.deliveryCc k.val q p ≤ c.now &&
  (q.outRef p).toNat / 128 + c.get K.TriggerLatencyApplied < c.now

/-- The lane has handed on output `p`. -/
def Lane.advance (l : Lane) (n0 : Nat) : Lane :=
  { l with seqs := l.seqs.map (fun s => if s.n0 = n0 then { s with next := s.next + 1 } else s) }

/-- A sequence of which something is still to come: an output to hand on, stage-2 results to count, or an output another consumer takes
up to its delivery (R155). -/
def Cell.seqLives (c : Cell) (k : Fin 4) (s : LaneSeq) : Bool :=
  c.inSeq s s.next || s.counted < c.tailDue s ||
  match s.stop with
  | none => true
  | some e => c.now ≤ e / 128 + 19 + 4 * k.val

/-- Ended sequences of which nothing is to come are dropped, but for the newest, which a fade may still run on (R160, R162). -/
def Cell.dropSpent (c : Cell) (k : Fin 4) : Cell :=
  let l := c.lane k
  c.setLane k { l with seqs := l.seqs.dropLast.filter (c.seqLives k) ++ l.seqs.getLast?.toList }

/-- The stage-2 results of a sequence up to `upTo` count (R148). -/
def Cell.countStage2 (c : Cell) (k : Fin 4) (q : LaneSeq) (upTo first : Nat) (samps : List Samp) : Cell :=
  let l := c.lane k
  let seqs := l.seqs.map (fun s => if s.n0 = q.n0 then { s with counted := upTo } else s)
  Cell.add32 (c.setLane k { l with seqs := seqs }) (laneKey K.Stage2SatCount k) (c.stage2Saturated k.val q upTo first samps)

/-- STOOK_PACK: the lane's next output enters the packer; `samps` are the corrected samples from `first` on that it is made of, and in
sample mode those of the block before it too.  Saturations and unsettled values count, and each capture stream and live stream of the
lane takes the values (R149, R153, R164, R251).  Of a sequence that ended inside a block no output is left: what stage 2 made of that
block counts (R148, R152). -/
def execStookPack (n : CellNo) (w : When) (k : Fin 4) (first : Nat) (samps : List Samp) (s : State) : Out :=
  onCell s n w (fun _ c =>
    let c := c.countStage1 first samps
    match (c.lane k).seqs.find? (fun q => c.inSeq q q.next || q.counted < c.tailDue q) with
    | none => c.finishAll
    | some q =>
      if !c.inSeq q q.next then ((c.countStage2 k q (c.tailDue q) first samps).dropSpent k).finishAll else
      if !c.mayPack k q q.next then c else
      let o := c.laneOutput k.val q q.next first samps
      let c := (c.countStage2 k q (max q.counted (q.dueWith q.next)) first samps).add32 (laneKey K.Stage3SatCount k) o.sat3
      let c := if o.uns then c.add64 (laneKey K.UnsettledCount k) o.vals.length else c
      let tags := (if o.uns then 32 else 0) + (if o.ovr then 16 else 0)
      let mine (i : Fin 4) : Bool := (c.stream i).active && !(c.stream i).done && (c.stream i).lane == k.val && (c.stream i).n0 == q.n0
      let live (i : Fin 4) : Bool :=
        let x := c.prt.live.get i
        x.active && !x.done && x.lane == k.val && x.n0 == q.n0
      let c := (allStreams.filter mine).foldl (fun c i => o.vals.foldl (fun c v => c.packValue i tags v) c) c
      let c := (allStreams.filter live).foldl (fun c i => o.vals.foldl (fun c v => c.liveValue i tags v) c) c
      ((c.setLane k ((c.lane k).advance q.n0)).dropSpent k).finishAll)

/-! STOOK_QUEUE (R252) -/

/-- The last sample in the interval of a value's output (R152). -/
def Stream.intervalEnd (s : Stream) (v : Nat) : Nat := (s.refOf v + s.plan.step - 1).toNat

/-- The decision cycle of the last sample in the interval of the stook's newest output has passed. -/
def Cell.intervalDecided (c : Cell) (s : Stream) (p : Packed) : Bool :=
  s.intervalEnd p.last / 128 + c.get K.TriggerLatencyApplied < c.now

/-- P of the segment being filled, or of the next one: PREFILL starts behind REARM (R214). -/
def Cell.prefillFrom (c : Cell) : Nat :=
  c.cap.segments.foldl (fun a g => max a (g.e + 4096)) (match c.trg.acqs with | [q] => q.p | _ => c.cap.start)

/-- No trigger can any longer place a HELD stook in a segment: every later segment starts behind it (R212, R214). -/
def Cell.outOfReach (c : Cell) (s : Stream) (p : Packed) : Bool :=
  (s.refOf p.last).toNat <
    max c.prefillFrom (128 * (c.now - c.get K.TriggerLatencyApplied) - cfgVal c.cap.cfg K.PreTriggerSamples)

/-- What the oldest HELD stook that can leave its state becomes. -/
def Cell.queueHeld (c : Cell) (s : Stream) : List Packed → List Packed
  | [] => []
  | p :: ps =>
    if p.state ≠ .held then p :: c.queueHeld s ps
    else if p.segment.isSome || c.cap.mode = 2 then
      if c.intervalDecided s p then { p with state := if c.cap.mode = 1 then .kept else .queued } :: ps else p :: ps
    else if c.outOfReach s p then ps else p :: c.queueHeld s ps

/-- STOOK_QUEUE: a HELD stook of stream `i` becomes QUEUED, KEPT or FREE (R252). -/
def execStookQueue (n : CellNo) (w : When) (p : Fin 4) (s : State) : Out :=
  onCell s n w (fun _ c =>
    if !c.clk.onFcc then c else
    let c := c.finishStream p
    let t := c.stream p
    (c.setStream p { t with stooks := c.queueHeld t t.stooks }).completeStream p)

/-! The drain (R252, R258) and the release bits (R247) -/

/-- The segment holds the trigger whose interval output lies in the stook. -/
def holdsTrigger (s : Stream) (p : Packed) (g : Segment) : Bool :=
  match g.trig with
  | some t => p.firstVal ≤ s.holding t.sample && s.holding t.sample ≤ p.last
  | none => false

def isForced (g : Segment) : Bool := match g.trig with | some t => t.forced | none => false

/-- In stream mode FRC covers the TRG stook and every later one to the segment's last output (R247). -/
def forcedCovers (s : Stream) (p : Packed) (g : Segment) : Bool :=
  match g.trig with
  | some t => t.forced && s.holding t.sample ≤ p.last && p.firstVal < s.atOrAfter g.e
  | none => false

/-- The release bits of a stook, with the trigger fraction of a 16-bit tag (R247): `seq` fills SEQ, `first` says it holds the first
stored output of its segment, or begins a stream-mode acquisition. -/
def Cell.releaseTag (c : Cell) (s : Stream) (p : Packed) (seq : Nat) (first : Bool) : Nat :=
  let mine := match p.segment with
    | some n => c.cap.segments.filter (fun (g : Segment) => g.number == n)
    | none => c.cap.segments
  let trg := mine.find? (holdsTrigger s p)
  let frc := if p.segment.isSome then mine.any isForced else mine.any (forcedCovers s p)
  let frac := match trg with
    | some g => match g.trig with | some t => t.frac | none => 0
    | none => 0
  (if first then 128 else 0) + (if trg.isSome then 64 else 0) + (if frc then 8 else 0) + seq % 4 +
  (if s.plan.packing = 2 then frac * 256 else 0)

/-- No further stook of the segment will be stored: storage has stopped, every stook up to its end is closed, or it holds no output. -/
def Stream.storedWhole (s : Stream) (x : SegStore) (g : Segment) : Bool :=
  s.done || x.cut || s.atOrAfter g.e ≤ max s.openFirst (s.atOrAfter g.s)

/-- The entry that must be written before the drain goes on: a segment whose stored stooks have all been drained, or a gap whose next
stook has been (R260). -/
def Cell.segmentDue (c : Cell) (s : Stream) : Option (SegStore × Segment) :=
  match s.stores with
  | x :: _ =>
    match c.cap.segments.find? (fun g => g.number == x.number) with
    | some g => if g.closed && x.waiting = 0 && s.storedWhole x g then some (x, g) else none
    | none => none
  | [] => none

def Stream.gapDue (s : Stream) : Option Gap :=
  match s.gaps with
  | g :: _ =>
    match g.next with
    | some k => if k < s.taken || (s.done && s.stooks.isEmpty) then some g else none
    | none => none
  | [] => none

/-- The oldest QUEUED stook. -/
def Stream.queuedHead (s : Stream) : Option Packed :=
  match s.stooks with
  | p :: _ => if p.state = .queued then some p else none
  | [] => none

/-- The deep-memory stook the next data stook of stream `i` is written to (R252). -/
def Cell.drainTarget (c : Cell) (i : Fin 4) : Nat :=
  cfgVal c.cap.cfg (streamKey K.DataBase i) + c.get (streamKey K.StooksDrained i) % c.dataStooks i

/-- DataWrap 0 and a full data region: further stooks are dropped (R258). -/
def Cell.deepFullNow (c : Cell) (i : Fin 4) : Bool :=
  cfgVal c.cap.cfg (streamKey K.DataWrap i) == 0 && c.dataStooks i ≤ c.get (streamKey K.StooksDrained i)

/-- Read a place for the drain: corrected, or delivered poisoned with its log entry (R262). -/
def Cell.readPlace (c : Cell) (i : Fin 4) (place flip : Nat) : Decoded × Cell :=
  let d := decodeStook (stookAt c.cap.memory place ^^^ flip % 2 ^ 144)
  match d with
  | .corrected _ _ => (d, c.inc32 (streamKey K.StreamCorrectedCount i))
  | .clean _ => (d, c)
  | _ => (d, ((c.pulse 59).inc32 (streamKey K.StreamPoisonCount i)).log 0x0702 2 (leBytes 4 place ++ leBytes 1 i.val))

/-- A run of drained stooks grows. -/
def addRun (per : Nat) (p : Packed) (idx : Nat) (rs : List StoredRun) : List StoredRun :=
  match rs.getLast? with
  | some r => if r.firstVal + r.n * per = p.firstVal && r.index + r.n = idx && r.tags = p.tags
      then rs.dropLast ++ [{ r with n := r.n + 1 }] else rs ++ [⟨p.firstVal, idx, 1, p.tags⟩]
  | none => [⟨p.firstVal, idx, 1, p.tags⟩]

/-- Every segment the drained stook is part of. -/
def Cell.segmentsOf (c : Cell) (s : Stream) (p : Packed) : List Segment :=
  match p.segment with
  | some n => c.cap.segments.filter (fun g => g.number == n)
  | none => c.sharing s p.firstVal p.last

/-- The books of a stook that leaves the buffer: stored under drain count `idx`, or dropped (R258, R261). -/
def Cell.bookDrained (c : Cell) (i : Fin 4) (p : Packed) (idx : Option Nat) : Cell :=
  let s := c.stream i
  let upd (g : Segment) (x : SegStore) : SegStore :=
    let x := { x with waiting := x.waiting - 1 }
    match idx with
    | some k => x.store p.firstVal p.last (s.atOrAfter g.s) (s.atOrAfter g.e) (k % c.dataStooks i)
    | none => { x with truncated := true }
  let stores := (c.segmentsOf s p).foldl (fun xs (g : Segment) => updStore g.number (upd g) xs) s.stores
  let runs := match idx with | some k => if c.cap.mode = 2 then addRun s.per p k s.runs else s.runs | none => s.runs
  c.setStream i { s with stooks := s.stooks.drop 1, stores := stores, runs := runs, taken := s.taken + 1 }

/-- The word that stream `i` writes for its stook `p`, read from its place as `d`: with its release bits, or in poison form as read (R247,
R262). -/
def Cell.drainWord (c : Cell) (i : Fin 4) (p : Packed) (d : Decoded) : Nat :=
  let st := c.stream i
  let k := c.get (streamKey K.StooksDrained i)
  let isFirst := match p.segment with
    | some g => (match storeOf g st.stores with | some x => x.count == 0 | none => false)
    | none => k == 0
  if d.bad then d.word else encodeStook (addTag st.plan.packing d.word (c.releaseTag st p k isFirst))

/-- A DRAIN_WR slot of stream `i` in this cc whose memory takes the access (R54, R56). -/
def Cell.drainSlot (c : Cell) (i : Fin 4) (a : SlotAt) : Option Nat :=
  match c.slotCycle a with
  | none => none
  | some m =>
    let b := c.slotByte a m
    if c.memServes && slotKind b = 1 && slotTarget b = i.val then some (c.absCycle m) else none

/-- The drain of stream `i` offers a data stook to the channel of the slot. -/
def Cell.drainOffers (c : Cell) (i : Fin 4) (ch : Fin 4) : Bool :=
  let s := c.stream i
  s.active && c.cap.mode != 1 && s.queuedHead.isSome && (c.segmentDue s).isNone && s.gapDue.isNone && channelOf (c.drainTarget i) == ch

/-- STOOK_DRAIN: the oldest QUEUED stook of stream `i` is corrected, tagged and written in a DRAIN_WR slot; `flip` are the errors its
read of the buffer met (R247, R252, R258, R262). -/
def execStookDrain (n : CellNo) (w : When) (j : Fin 4) (a : SlotAt) (flip : Nat) (s : State) : Out :=
  onCell s n w (fun _ c =>
    match c.drainSlot j a with
    | none => c
    | some m =>
      let st := c.stream j
      match (if c.drainOffers j a.ch then st.queuedHead else none) with
      | none => c
      | some p =>
        let c := c.runChannels m
        let k := c.get (streamKey K.StooksDrained j)
        let (d, c) := c.readPlace j p.place flip
        let word := c.drainWord j p d
        if c.deepFullNow j then
          let c := (c.inc64 (streamKey K.DeepFullDropped j)).put (streamKey K.DeepFull j) 1
          (c.bookDrained j p none).completeStream j
        else
          let c := if k ≠ 0 && k % c.dataStooks j = 0 then c.inc32 (streamKey K.DataWrapCount j) else c
          let t := c.drainTarget j
          let c := (c.bookDrained j p (some k)).inc64 (streamKey K.StooksDrained j)
          (c.fixedWrite t word).completeStream j)

/-! Entries (R259 to R261) -/

/-- The fields of an entry (R261). -/
structure TableEntry where
  sample : Nat
  frac : Nat
  mask : Nat
  stamp : Nat
  first : Nat
  count : Nat
  firstSlot : Nat
  lastSlot : Nat
  endCause : Nat
  flags : Nat
deriving DecidableEq, Repr

def TableEntry.bytes (e : TableEntry) : List Byte :=
  leBytes 32 (e.sample % 2 ^ 64 + e.frac % 2 ^ 8 * 2 ^ 64 + e.mask % 2 ^ 8 * 2 ^ 72 + e.stamp % 2 ^ 96 * 2 ^ 80 +
    e.first % 2 ^ 30 * 2 ^ 176 + e.count % 2 ^ 30 * 2 ^ 206 + e.firstSlot % 16 * 2 ^ 236 + e.lastSlot % 16 * 2 ^ 240 +
    e.endCause % 16 * 2 ^ 244 + e.flags % 256 * 2 ^ 248)

/-- Flags of an entry in bits [255:248]: Kind, TrigValid, TdcPlaced, TdcMiss, Truncated, PreShort, Clk, Ovr. -/
def entryFlags (kind valid placed miss truncated preShort clk ovr : Bool) : Nat :=
  b2n kind + 2 * b2n valid + 4 * b2n placed + 8 * b2n miss + 16 * b2n truncated + 32 * b2n preShort + 64 * b2n clk + 128 * b2n ovr

/-- Drain count of the first stook stored from value `sv` on, of which no stook holds an output itself: one that has left the buffer, or
the one that will get the next count; `drained` have left it (R261). -/
def Stream.storedAfter (s : Stream) (drained sv : Nat) : Nat :=
  match s.runs.find? (fun r => sv ≤ r.firstVal) with
  | some r => r.index
  | none => drained + (s.stooks.takeWhile (fun p => p.firstVal < sv)).length

/-- The entry of a closed segment on stream `i`.  A segment in stream mode of which nothing came to be stored lies in a gap, and its first
stook is the one stored after it. -/
def Cell.segmentEntry (c : Cell) (i : Fin 4) (x : SegStore) (g : Segment) : TableEntry :=
  let s := c.stream i
  let clk := bit x.tags 2
  let ovr := bit x.tags 4
  let inGap := x.count == 0 && !x.truncated && s.atOrAfter g.s < s.atOrAfter g.e
  let short := c.cap.mode = 2 && (x.preShort || g.s < c.cap.start || inGap)
  let behind := if c.cap.mode = 2 && inGap then
      s.storedAfter (c.get (streamKey K.StooksDrained i)) (s.atOrAfter g.s) % c.dataStooks i else 0
  match g.trig with
  | some t => ⟨t.sample, t.frac, t.mask, t.stamp, x.first.getD behind, x.count, x.firstSlot, x.lastSlot, g.endCause,
      entryFlags false true t.placed t.miss x.truncated short clk ovr⟩
  | none => ⟨g.s, 0, 0, g.stamp, x.first.getD behind, x.count, x.firstSlot, x.lastSlot, g.endCause,
      entryFlags false false false false x.truncated short clk ovr⟩

/-- The entry of a gap. -/
def Cell.gapEntry (c : Cell) (i : Fin 4) (g : Gap) : TableEntry :=
  ⟨g.sample, 0, 0, g.stamp, (g.next.getD 0) % c.dataStooks i, g.lost, 0, 0, 0,
    entryFlags true false false false false false false false⟩

/-- First stook of the next entry of stream `i` (R259). -/
def Cell.entryStook (c : Cell) (i : Fin 4) : Nat :=
  cfgVal c.cap.cfg (streamKey K.TableBase i) +
  2 * (c.get (streamKey K.EntriesWritten i) % max 1 (cfgVal c.cap.cfg (streamKey K.TableEntries i)))

/-- The first stook of an entry is written, in its slot's cycle (R259, R260). -/
def Cell.beginEntry (c : Cell) (i : Fin 4) (m : Nat) (bs : List Byte) : Cell :=
  let c := c.runChannels m
  (c.setStream i { c.stream i with half := some bs }).fixedWrite (c.entryStook i) (stookOf bs)

/-- The second one follows, and the entry counts. -/
def Cell.endEntry (c : Cell) (i : Fin 4) (m : Nat) (bs : List Byte) : Cell :=
  let c := (c.runChannels m).fixedWrite (c.entryStook i + 1) (stookOf (bs.drop 16))
  let c := c.setStream i { c.stream i with half := none }
  let c := if cfgVal c.cap.cfg (streamKey K.TableEntries i) ≤ c.get (streamKey K.EntriesWritten i)
    then c.put (streamKey K.TableWrapped i) 1 else c
  (c.inc32 (streamKey K.EntriesWritten i)).putDom (streamKey K.LastEntry i) bs

/-- One slot's step of writing an entry: its first stook, or its second with what follows from the entry being complete.  An entry of the
other kind that is half written goes on first. -/
def Cell.entryStep (c : Cell) (i : Fin 4) (m : Nat) (e : TableEntry) (books : Nat → Cell → Cell) : Cell :=
  match (c.stream i).half with
  | none => c.beginEntry i m e.bytes
  | some bs => if bit (leNat bs) 248 = bit e.flags 0 then books (leNat bs / 2 ^ 248) (c.endEntry i m bs) else c

/-- How many streams have written the entry of segment `k`, this one included. -/
def countDrained (k : Nat) : List (Nat × Nat) → List (Nat × Nat)
  | [] => [(k, 1)]
  | e :: es => if e.1 = k then (k, e.2 + 1) :: es else e :: countDrained k es

/-- A slot for the next stook of an entry: of the stream, on the stook's channel. -/
def Cell.entrySlot (c : Cell) (i : Fin 4) (a : SlotAt) : Option Nat :=
  if channelOf (c.entryStook i + b2n (c.stream i).half.isSome) = a.ch then c.drainSlot i a else none

/-- The entry of segment `k` is written on stream `i`, with these flags: SEG_DRAINED pulses with the last stream's (R260). -/
def Cell.entryBooks (i : Fin 4) (k flags : Nat) (c : Cell) : Cell :=
  let st := c.stream i
  let c := c.setStream i { st with stores := st.stores.drop 1 }
  let c := if bit flags 4 then c.inc32 (streamKey K.TruncatedCount i) else c
  let c := if bit flags 5 then c.inc32 (streamKey K.PreShortCount i) else c
  let ds := countDrained k c.cap.drained
  let c : Cell := { c with cap := { c.cap with drained := ds } }
  let streams := (allStreams.filter (fun j => (c.stream j).active)).length
  let all := ds.any (fun d => d.1 == k && streams ≤ d.2)
  let c := if all && c.cap.mode ≠ 1 then c.pulse 5 else c
  c.completeStream i

/-- SEGMENT_ENTRY_WRITE: the first or the second slot of the entry of the oldest segment of stream `i` whose stored stooks have left the
buffer (R260, R261). -/
def execSegmentEntryWrite (n : CellNo) (w : When) (p : Fin 4) (a : SlotAt) (s : State) : Out :=
  onCell s n w (fun _ c =>
    match c.entrySlot p a with
    | none => c
    | some m =>
      match c.segmentDue (c.stream p) with
      | none => c
      | some (x, g) => c.entryStep p m (c.segmentEntry p x g) (Cell.entryBooks p g.number))

/-- GAP_ENTRY_WRITE: the first or the second slot of the entry of a run of dropped stooks (R257, R260). -/
def execGapEntryWrite (n : CellNo) (w : When) (p : Fin 4) (a : SlotAt) (s : State) : Out :=
  onCell s n w (fun _ c =>
    match c.entrySlot p a with
    | none => c
    | some m =>
      let st := c.stream p
      match st.gapDue with
      | none => c
      | some g =>
        c.entryStep p m (c.gapEntry p g) (fun _ c =>
          let st := c.stream p
          (c.setStream p { st with gaps := st.gaps.drop 1 }).completeStream p))

/-- CAPTURE_COUNT_CLEAR: the counters of blocks c700h to c704h, but the acquisition's own (R265). -/
def execCaptureCountClear (n : CellNo) (w : When) (p : Port) (s : State) : Out :=
  onCellPort s n w p K.CaptureCountClear (fun _ c =>
    let keep (c0 : Cell) (c : Cell) (i : Fin 4) : Cell :=
      [K.StooksPacked, K.StooksDrained, K.EntriesWritten, K.BufferFill, K.BufferFillPeak].foldl
        (fun c k => c.put (streamKey k i) (c0.get (streamKey k i))) c
    .ok (allStreams.foldl (keep c) (c.clearCounters 0x700 0x704)))

end Sys2Proof.Machine
end

