-- ==== Sys2Proof/Machine/Transfer.lean ====
section
/-! DEFINITION. What a DMA descriptor means (R357 to R361): its fields and checks, the address walks, the reshuffles, and how bytes
become accesses of the on-die memories. -/

namespace Sys2Proof.Machine

/-! Fields (R357) -/

def parseDescriptor (bs : List Byte) (compat : Bool) : Descriptor :=
  let fl := fld bs 30 1
  { src := fld bs 0 8, dst := fld bs 8 8, length := fld bs 16 4, stride := sgn 32 (fld bs 20 4), next := fld bs 24 2
    srcSpace := bits (fld bs 26 1) 0 4, dstSpace := bits (fld bs 26 1) 4 4, mode := bits (fld bs 27 1) 0 2
    dstSide := bit (fld bs 27 1) 2, reshuffle := bits (fld bs 28 1) 0 4, burst := bits (fld bs 29 1) 0 3
    cyclic := bit fl 0, nextInHost := bit fl 1, fixed := bit fl 2, done := bits fl 3 2, wrap := fld bs 31 1, compat := compat }

def Descriptor.lineLen (d : Descriptor) : Nat := d.length % 65536 + 1
def Descriptor.lines (d : Descriptor) : Nat := d.length / 65536 + 1

/-- Source bytes of the whole descriptor. -/
def Descriptor.total (d : Descriptor) : Nat := if d.mode = 2 then d.lines * d.lineLen else d.length

/-- The source block of a reshuffle, and the bytes a block becomes (R360). -/
def srcBlock (code : Nat) : Nat := if code = 0 then 1 else if code ≤ 3 then 1024 else 256
def dstBlock (code : Nat) : Nat := match code with | 0 => 1 | 1 => 1536 | 2 => 1920 | 3 => 896 | _ => 256

/-- Source bytes of a burst (R355, R360). -/
def Descriptor.burstBytes (d : Descriptor) : Nat := max (64 * 2 ^ d.burst) (srcBlock d.reshuffle)

/-- R361 in native mode. -/
def Descriptor.misaligned (d : Descriptor) : Bool :=
  let off (space a : Nat) : Bool := space ≤ 4 && a % 64 != 0
  !d.compat && (off d.srcSpace d.src || off d.dstSpace d.dst ||
    match d.mode with
    | 2 => d.lineLen % 64 != 0 || d.stride % 64 != 0
    | 3 => false
    | _ => d.length % 64 != 0)

/-- R364 code 2, on the raw bytes for the reserved fields. -/
def Descriptor.invalid (d : Descriptor) (bs : List Byte) : Bool :=
  d.mode == 3 || 8 ≤ fld bs 27 1 || 8 ≤ fld bs 28 1 || 7 ≤ fld bs 29 1 || 32 ≤ fld bs 30 1 ||
  (if d.mode = 1 then d.wrap < 12 || 36 < d.wrap else d.wrap != 0) || (d.mode != 2 && d.stride != 0) ||
  (d.mode != 2 && d.length == 0) || 6 < d.srcSpace || 5 < d.dstSpace ||
  (5 ≤ d.srcSpace && d.src != 0) || (5 ≤ d.dstSpace && d.dst != 0) ||
  (d.reshuffle != 0 && (d.mode != 0 || d.length % srcBlock d.reshuffle != 0)) ||
  (d.fixed && d.srcSpace != 1) || (d.next != 0xFFFF && 2047 < d.next && !d.nextInHost)

/-! Address walks (R359, R360) -/

/-- The address of byte `off` of one side. -/
def Descriptor.walk (d : Descriptor) (dst : Bool) (off : Nat) : Nat :=
  let start := if dst then d.dst else d.src
  if d.mode = 0 || d.dstSide != dst then (start + off) % 2 ^ 64
  else if d.mode = 1 then
    let base := start / 2 ^ d.wrap * 2 ^ d.wrap
    base + (start + off - base) % 2 ^ d.wrap
  else (((start : Int) + (off / d.lineLen : Nat) * d.stride + (off % d.lineLen : Nat)) % (2 ^ 64 : Nat)).toNat

/-- With planes on one side, the place of byte `off` among them: 64 bytes of each plane make a block (R360). -/
def planeOffset (length off : Nat) : Nat := off % 256 / 64 * (length / 4) + off / 256 * 64 + off % 64

def Descriptor.srcAddr (d : Descriptor) (off : Nat) : Nat := d.walk false (if d.reshuffle = 6 then planeOffset d.length off else off)
def Descriptor.dstAddr (d : Descriptor) (off : Nat) : Nat := d.walk true (if d.reshuffle = 7 then planeOffset d.length off else off)

/-- Where the output of source offset `off` begins. -/
def Descriptor.outAt (d : Descriptor) (off : Nat) : Nat := off / srcBlock d.reshuffle * dstBlock d.reshuffle

/-- Byte addresses as runs of consecutive ones: (first, how many). -/
def runsOf : List Nat → List (Nat × Nat)
  | [] => []
  | a :: as =>
    match runsOf as with
    | (b, n) :: rs => if b = a + 1 then (a, n + 1) :: rs else (a, 1) :: (b, n) :: rs
    | [] => [(a, 1)]

/-- A run as stook accesses, widened to whole 64-byte units (R361). -/
def runWants (r : Nat × Nat) : List Want :=
  let lo := r.1 / 64 * 4
  let hi := (r.1 + r.2 + 63) / 64 * 4
  (List.range (hi - lo)).map (fun i =>
    let s := lo + i
    let a := max r.1 (16 * s)
    let b := min (r.1 + r.2) (16 * s + 16)
    if a < b then ⟨s, 16, a - 16 * s, b - a⟩ else ⟨s, 16, 0, 0⟩)

/-- A run as host reads of at most `mrrs` bytes, widened to whole 64-byte units (R358, R361). -/
def hostWants (mrrs : Nat) (r : Nat × Nat) : List Want :=
  let lo := r.1 / 64 * 64
  let hi := (r.1 + r.2 + 63) / 64 * 64
  (List.range (ceilDiv (hi - lo) (max 1 mrrs))).map (fun i =>
    let s := lo + i * mrrs
    let e := min hi (s + mrrs)
    let a := max r.1 s
    let b := min (r.1 + r.2) e
    if a < b then ⟨s, e - s, a - s, b - a⟩ else ⟨s, e - s, 0, 0⟩)

/-! Reshuffles (R360) -/

def i16Bytes (v : Int) : List Byte := leBytes 2 (raw 16 v)

/-- One stook unpacked to I16 values. -/
def unpackStook (code : Nat) (bs : List Byte) : List Byte :=
  let p := leNat bs
  match code with
  | 1 => (List.range 12).flatMap (fun i => i16Bytes (sgn 10 (bits p (10 * i) 10) * 64))
  | 2 => (List.range 15).flatMap (fun i => i16Bytes (sgn 8 (bits p (8 * i) 8) * 256))
  | _ => (List.range 7).flatMap (fun i => i16Bytes (sgn 16 (bits p (16 * i) 16)))

/-- The transposed bit matrix: bit `j` of row `i` becomes bit `i` of row `j`. -/
def transpose (rows : List Nat) (cols : Nat) : List Nat :=
  (List.range cols).map (fun j => ((List.range rows.length).zip rows).foldl (fun a e => a + b2n (bit e.2 j) * 2 ^ e.1) 0)

def wordsToPlanes (bs : List Byte) : List Byte :=
  (transpose ((chunks 2 128 bs).map leNat) 16).flatMap (leBytes 16)

def planesToWords (bs : List Byte) : List Byte :=
  (transpose ((chunks 16 16 bs).map leNat) 128).flatMap (leBytes 2)

/-- Four runs of 64 bytes interleaved byte by byte, and the inverse. -/
def interleave4 (bs : List Byte) : List Byte :=
  (List.range 64).flatMap (fun i => [bs.getD i 0, bs.getD (64 + i) 0, bs.getD (128 + i) 0, bs.getD (192 + i) 0])

def split4 (bs : List Byte) : List Byte :=
  (List.range 4).flatMap (fun c => (List.range 64).map (fun i => bs.getD (4 * i + c) 0))

def reshuffleBlock (code : Nat) (bs : List Byte) : List Byte :=
  match code with
  | 4 => wordsToPlanes bs
  | 5 => planesToWords bs
  | 6 => interleave4 bs
  | 7 => split4 bs
  | _ => (chunks 16 64 bs).flatMap (unpackStook code)

/-- The output of whole source blocks; a block that holds a poisoned stook is poisoned whole (R367). -/
def reshuffle (code : Nat) (got : List (Byte × Bool)) : List (Byte × Bool) :=
  if code = 0 then got else
  (chunks (srcBlock code) got.length got).flatMap (fun blk =>
    (reshuffleBlock code (blk.map (·.1))).map (fun b => (b, blk.any (·.2))))

/-! Stook writes -/

/-- A write of part of a stook. -/
structure StookWrite where
  stook : Nat
  write : OpenWrite
deriving DecidableEq, Repr

/-- Bytes with their addresses as stook writes, in order: consecutive bytes of one stook go together. -/
def stookWrites : List (Nat × Byte × Bool) → List StookWrite
  | [] => []
  | (a, b, bad) :: rest =>
    let one : OpenWrite := ⟨b.toNat * 256 ^ (a % 16), 2 ^ (a % 16), bad⟩
    match rest, stookWrites rest with
    | (a', _) :: _, w :: ws =>
      if a' = a + 1 && a' % 16 ≠ 0 then ⟨w.stook, ⟨one.payload + w.write.payload, one.mask + w.write.mask, bad || w.write.poison⟩⟩ :: ws
      else ⟨a / 16, one⟩ :: w :: ws
    | _, _ => [⟨a / 16, one⟩]

/-- A memory tier after a write of bytes: covered bytes change, and the check symbols are recomputed, also where the stook was in poison
form; a poisoned write leaves that form (R263, R322, R428, R431). -/
def writeTier (m : Memory) (s : Nat) (w : OpenWrite) : Memory :=
  let p := mergedPayload (stookAt m s) w
  putStook s (if w.poison then poisonStook p else encodeStook p) m

/-! The capture buffer as others read and write it (R253, R262, R263) -/

/-- The stream whose region holds a place. -/
def Cell.streamAt (c : Cell) (place : Nat) : Option (Fin 4) :=
  allStreams.find? (fun i => (c.stream i).base ≤ place && place < (c.stream i).base + (c.stream i).places)

/-- A kept stook's place in stream `i`. -/
def Cell.keptAt (c : Cell) (i : Fin 4) (place : Nat) : Option Packed :=
  (c.stream i).stooks.find? (fun p => p.place == place && p.state == .kept)

/-- The word a place shows: a KEPT stook with its release bits (R253). -/
def Cell.shown (c : Cell) (place v : Nat) : Nat :=
  match c.streamAt place with
  | none => v
  | some i =>
    match c.keptAt i place with
    | none => v
    | some p =>
      let s := c.stream i
      let first : Bool := match p.segment with
        | some n => (s.stooks.find? (fun q => q.segment == some n)).any (fun q => q.index == p.index)
        | none => false
      encodeStook (addTag s.plan.packing (payload v) (c.releaseTag s p (place - s.base) first))

/-- POISON pulses and the place is logged, with stream FFh for a place of none. -/
def Cell.poisonNote (c : Cell) (place : Nat) : Cell :=
  (c.pulse 59).log 0x0702 2 (leBytes 4 place ++ leBytes 1 (match c.streamAt place with | some i => i.val | none => 255))

/-- A read of place `place`, with bit errors `flip` (R253, R262, R263). -/
def Cell.readBuffer (c : Cell) (flip place : Nat) : Nat × Bool × Cell :=
  let count (k : Nat) (c : Cell) : Cell := match c.streamAt place with | some i => c.inc32 (streamKey k i) | none => c
  match decodeStook (stookAt c.cap.memory place ^^^ flip % 2 ^ 144) with
  | .clean v => (c.shown place v, false, c)
  | .corrected _ v => (c.shown place v, false, count K.StreamCorrectedCount c)
  | .poisoned v => (v, true, count K.StreamPoisonCount (c.poisonNote place))
  | .uncorrectable v => (v, true, count K.StreamPoisonCount (c.poisonNote place))

/-- A read of stook `i` of the descriptor SRAM, with bit errors `flip`; one that fails correction pulses POISON (R32, R289). -/
def Cell.readSram (c : Cell) (flip i : Nat) : Decoded × Cell :=
  match decodeStook (stookAt c.dma.sram i ^^^ flip % 2 ^ 144) with
  | .uncorrectable v => (.uncorrectable v, c.pulse 59)
  | d => (d, c)

/-- A write to the capture buffer is accepted while the cell is idle; otherwise it is dropped and counted (R263). -/
def Cell.writeBuffer (c : Cell) (w : StookWrite) : Option Cell :=
  if c.get K.ArmState = 0 then some { c with cap := { c.cap with memory := writeTier c.cap.memory w.stook w.write } } else none

/-- A write to the accumulator is accepted in IDLE, FROZEN and DONE (R322). -/
def Cell.writeAcc (c : Cell) (w : StookWrite) : Option Cell :=
  let st := c.get K.AccState
  if st = 0 || st = 3 || st = 4 then some { c with acc := { c.acc with memory := writeTier c.acc.memory w.stook w.write } } else none

end Sys2Proof.Machine
end

