-- ==== Sys2Proof/Machine/Mover.lean ====
section
/-! DEFINITION. The DMA mover (R352 to R367, R381, R382): requests, the owner, descriptors, bursts and their accesses, completion and
aborts. -/

namespace Sys2Proof.Machine

def Cell.chan (c : Cell) (k : Fin 8) : Chan := c.dma.chans.get k
def Cell.setChan (c : Cell) (k : Fin 8) (x : Chan) : Cell := { c with dma := { c.dma with chans := c.dma.chans.set k x } }
def chanKey (key : Nat) (k : Fin 8) : Nat := key + 0x100 * k.val
def Cell.chanState (c : Cell) (k : Fin 8) : Nat := c.get (chanKey K.DmaChannelState k)
def Cell.setChanState (c : Cell) (k : Fin 8) (v : Nat) : Cell := c.put (chanKey K.DmaChannelState k) v
def allChans : List (Fin 8) := [0, 1, 2, 3, 4, 5, 6, 7]

/-- The tag of a channel's open accesses. -/
def Chan.tag (x : Chan) (k : Fin 8) : Nat := k.val + 8 * x.epoch

/-- The channel owns the mover. -/
def Cell.owns (c : Cell) (k : Fin 8) : Bool := c.get K.MoverOwner == k.val

/-- PendingRequests follows the queue of requests. -/
def Cell.showPending (c : Cell) (k : Fin 8) : Cell := c.put (chanKey K.PendingRequests k) (c.chan k).seen.length

/-- The host port can hand a TLP of its own to the link: the link is up, bus mastering is enabled, the power state is D0. -/
def hostUp (g : Glob) : Bool := g.get G.LinkSpeed != 0 && g.hst.busMaster && !g.hst.d3hot

/-! Requests (R353) -/

/-- The number of the present request cycle: requests seen in one cc have the same (R354). -/
def Cell.requestStamp (c : Cell) : Nat := if c.dma.stampCc = some c.now then c.dma.stamp else c.dma.stamp + 1

/-- The channel sees a pulse of its request line. -/
def Cell.takeRequest (c : Cell) (k : Fin 8) : Cell :=
  let x := c.chan k
  let st := c.chanState k
  let stamp := c.requestStamp
  let c : Cell := { c with dma := { c.dma with stamp := stamp, stampCc := some c.now } }
  let c := c.setChan k { x with reqCc := some c.now }
  if st = 0 || st = 4 then c.inc32 (chanKey K.RequestsIgnored k)
  else if 65535 ≤ x.seen.length then c.inc32 (chanKey K.RequestOverflow k)
  else (c.setChan k { x with reqCc := some c.now, seen := x.seen ++ [stamp] }).showPending k

/-- DMA_REQUEST: a pulse of the cycle before on RequestLine (R31, R353). -/
def execDmaRequest (n : CellNo) (w : When) (k : Fin 8) (s : State) : Out :=
  onCell s n w (fun _ c =>
    let line := c.get (chanKey K.RequestLine k)
    if c.sees line && (c.chan k).reqCc != some c.now && line < 64 then c.takeRequest k else c)

/-! The owner (R354) -/

/-- The eligible channel whose oldest request was seen earliest, the lower number first. -/
def Cell.eligible (c : Cell) : Option (Fin 8) :=
  let wants := allChans.filterMap (fun k =>
    match (c.chan k).seen with
    | t :: _ => if c.chanState k = 1 then some (t, k) else none
    | [] => none)
  match wants with
  | [] => none
  | x :: xs => some (xs.foldl (fun a b => if b.1 < a.1 then b else a) x).2

/-- MOVER_TAKE: the free mover is taken (R354). -/
def execMoverTake (n : CellNo) (w : When) (s : State) : Out :=
  onCell s n w (fun _ c =>
    match c.eligible with
    | some k => if c.get K.MoverOwner = 255 then (c.put K.MoverOwner k.val).setChanState k 2 else c
    | none => c)

/-- The mover has no owner. -/
def Cell.release (c : Cell) (k : Fin 8) : Cell := if c.owns k then c.put K.MoverOwner 255 else c

/-! Host memory (R358, R362) -/

/-- A posted write is handed to the host port, or waits under its channel's tag while that cannot send. -/
def Cell.hostWrite (c : Cell) (g : Glob) (tag : Nat) (x : HostWrite) : Cell :=
  if hostUp g then { c with dma := { c.dma with sent := c.dma.sent ++ [x] } }
  else { c with dma := { c.dma with unsent := c.dma.unsent ++ [(tag, x)] } }

/-- One destination access of the oldest burst that has some left is accepted. -/
def acceptOne : List Burst → List Burst
  | [] => []
  | b :: bs => if b.left = 0 then b :: acceptOne bs else { b with left := b.left - 1 } :: bs

def Cell.accepted (c : Cell) (k : Fin 8) : Cell := c.setChan k { c.chan k with bursts := acceptOne (c.chan k).bursts }

/-- One access under tag `tag` is accepted: it counts for the channel's bursts unless an abort or a disable lies between (R362, R365). -/
def Cell.acceptedBy (c : Cell) (tag : Nat) : Cell :=
  let k : Fin 8 := Fin.ofNat 8 tag
  if (c.chan k).tag k = tag then c.accepted k else c

/-- The host port can send: every waiting write is handed over (R362). -/
def Cell.flushHost (c : Cell) : Cell :=
  let ws := c.dma.unsent
  let c : Cell := { c with dma := { c.dma with unsent := [], sent := ws.map (·.2) } }
  ws.foldl (fun c e => c.acceptedBy e.1) c

/-- Cut contiguous bytes at the multiples of `mps` (R358). -/
def hostPieces (mps : Nat) : Nat → Nat → List (Byte × Bool) → List HostWrite
  | 0, _, _ => []
  | _, _, [] => []
  | f + 1, a, bs =>
    let n := mps - a % mps
    ⟨a, (bs.take n).map (·.1), (bs.take n).any (·.2)⟩ :: hostPieces mps f (a + n) (bs.drop n)

/-! Aborts (R364 to R366) -/

/-- Index and table of the current descriptor. -/
def Cell.descIndex (c : Cell) (k : Fin 8) : Nat := c.get (chanKey K.CurrentDescriptor k) % 65536
def Cell.descInHost (c : Cell) (k : Fin 8) : Bool := bit (c.get (chanKey K.CurrentDescriptor k)) 16
def Cell.descAddr (c : Cell) (k : Fin 8) : Nat :=
  (if c.descInHost k then c.get (chanKey K.HostDescBase k) else 0) + 32 * c.descIndex k

/-- What a channel had outstanding of the mover's open reads is withdrawn; what is on its way will be discarded. -/
def Cell.dropReads (c : Cell) (k : Fin 8) : Cell :=
  let x := c.chan k
  let c := c.setRequests .mover ((c.requestsOf .mover).filter (fun r => !(r.tag == x.tag k && r.write.isNone)))
  let host := b2n x.fetching + x.asked
  c.setChan k { x with desc := none, fetching := false, started := 0, bursts := [], fixedOut := 0, fixedStale := x.fixedStale + x.fixedOut,
                       hostStale := x.hostStale + host, asked := 0, epoch := x.epoch + 1, stopping := false, loop := false, dying := none }

/-- The 32 bytes of R366. -/
def statusRecord (cause ch : Nat) (inHost : Bool) (desc hop residue fault time : Nat) : List Byte :=
  leBytes 1 cause ++ leBytes 1 (ch + if inHost then 128 else 0) ++ leBytes 2 desc ++ leBytes 4 hop ++ leBytes 8 residue ++
  leBytes 8 fault ++ leBytes 8 time

/-- The status record goes to StatusSpace; when it cannot, StatusWriteFailed is set (R365). -/
def Cell.writeStatus (c : Cell) (g : Glob) (k : Fin 8) (rec : List Byte) : Cell :=
  let a := c.get (chanKey K.StatusAddr k)
  if c.get (chanKey K.StatusSpace k) = 4 then
    if a + 32 ≤ 65536 then
      let m := putStook (a / 16) (stookOf rec) c.dma.sram
      { c with dma := { c.dma with sram := putStook (a / 16 + 1) (stookOf (rec.drop 16)) m } }
    else c.put (chanKey K.StatusWriteFailed k) 1
  else if hostUp g then { c with dma := { c.dma with sent := c.dma.sent ++ [⟨a, rec, false⟩] } }
  else c.put (chanKey K.StatusWriteFailed k) 1

/-- What the bursts of a channel still want, in order. -/
def Chan.wants (x : Chan) : List Want := x.bursts.flatMap (fun b => b.want)

/-- A fixed request of the channel that was pending is so no more; the memory may begin to be idle (R285). -/
def Cell.dropFixed (c : Cell) (k : Fin 8) : Cell :=
  let x := c.chan k
  if x.desc.any (·.fixed) && x.fixedOut < x.wants.length then { c with mem := { c.mem with busyNs := c.nowNs } } else c

/-- The Descriptor field: FFFFh while the channel has read no descriptor; LoopSuspect and a descriptor found wrong name it (R366).  DEDUCED
(log entry 173): a fetch from host memory that fails has read none. -/
def Cell.recordIndex (c : Cell) (k : Fin 8) (cause : Nat) : Nat :=
  if (c.chan k).desc.isNone && [4, 8, 9, 12].contains cause then 0xFFFF else c.descIndex k

/-- The channel aborts: record, copy, interrupt, log, ABORTED (R365). -/
def Cell.abortChan (c : Cell) (g : Glob) (k : Fin 8) (cause residue fault : Nat) : Cell :=
  let time := if g.flag G.PtpSynchronised then g.ptpNow else c.nowNs
  let rec' := statusRecord cause k.val (c.descInHost k) (c.recordIndex k cause) (c.get (chanKey K.HopCount k)) residue (fault % 2 ^ 64) time
  let c := ((c.writeStatus g k rec').putDom K.LastAbortRecord rec').send .dmaAbort
  let c := (c.log 0x0B01 1 (rec'.take 16)).inc32 K.DmaAbortCount
  let c := (((c.dropFixed k).put (chanKey K.LastAbortCause k) cause).setChanState k 4).dropReads k
  let c := c.setChan k { c.chan k with seen := [] }
  (c.release k).showPending k

/-! Destination accesses (R358, R367) -/

/-- On-die writes in order; the first one refused, with what was written before it (R364 code 7). -/
def Cell.writeOnDie (c : Cell) (space : Nat) : List StookWrite → Cell × Option StookWrite
  | [] => (c, none)
  | w :: ws =>
    let next := match space with
      | 2 => c.writeBuffer w
      | 3 => c.writeAcc w
      | _ => some { c with dma := { c.dma with sram := writeTier c.dma.sram w.stook w.write } }
    match next with
    | some c => c.writeOnDie space ws
    | none => (c.inc32 (if space = 2 then K.DirectWriteDropped else K.AccWriteDropped), some w)

/-- Contiguous runs of addressed bytes. -/
def byteRuns : List (Nat × Byte × Bool) → List (Nat × List (Byte × Bool))
  | [] => []
  | (a, b) :: rest =>
    match byteRuns rest with
    | (a', bs) :: rs => if a' = a + 1 then (a, b :: bs) :: rs else (a, [b]) :: (a', bs) :: rs
    | [] => [(a, [b])]

/-- The stooks a run of bytes makes on the cell port. -/
def portStooks (bs : List (Byte × Bool)) : List Nat :=
  (chunks 16 bs.length bs).map (fun x => if x.any (·.2) then poisonStook (leNat (x.map (·.1))) else encodeStook (leNat (x.map (·.1))))

/-- The deep-memory writes of a run of bytes, widened to whole 64-byte units: a stook the run leaves out is written with no byte enabled
(R361). -/
def runWrites (r : Nat × List (Byte × Bool)) : List StookWrite :=
  let ws := stookWrites (((List.range r.2.length).zip r.2).map (fun e => (r.1 + e.1, e.2)))
  let lo := r.1 / 64 * 4
  (List.range ((r.1 + r.2.length + 63) / 64 * 4 - lo)).map (fun i => (ws.find? (fun w => w.stook == lo + i)).getD ⟨lo + i, ⟨0, 0, false⟩⟩)

/-- Source data of destination byte `o` never came: some byte of the block it is made of is lost (R360, R365). -/
def Descriptor.lacks (d : Descriptor) (lost : List (Nat × Nat)) (o : Nat) : Bool :=
  let s := o / dstBlock d.reshuffle * srcBlock d.reshuffle
  lost.any (fun r => s < r.1 + r.2 && r.1 < s + srcBlock d.reshuffle)

/-- The source bytes an abort in progress has lost. -/
def Chan.lost (x : Chan) : List (Nat × Nat) := match x.dying with | some a => a.lost | none => []

/-- Output bytes that begin with destination offset `at'` are issued, but for those whose data never came: how many accesses remain to be
accepted, and the first address refused. -/
def Cell.issueOut (c : Cell) (g : Glob) (k : Fin 8) (d : Descriptor) (at' : Nat) (out : List (Byte × Bool)) : Cell × Nat × Option Nat :=
  let kept := ((List.range' at' out.length).zip out).filter (fun e => !d.lacks (c.chan k).lost e.1)
  let addressed := kept.map (fun e => (d.dstAddr e.1, e.2))
  match d.dstSpace with
  | 0 =>
    let mps := max 64 (g.get G.MpsApplied)
    let ws := (byteRuns addressed).flatMap (fun r => hostPieces mps (r.2.length + 1) r.1 r.2)
    (ws.foldl (fun c x => c.hostWrite g ((c.chan k).tag k) x) c, if hostUp g then 0 else ws.length, none)
  | 1 =>
    let ws := (byteRuns addressed).flatMap runWrites
    (ws.foldl (fun c x => c.ask .mover ⟨x.stook, 1, some x.write, (c.chan k).tag k⟩) c, ws.length, none)
  | 5 =>
    let ss := (byteRuns kept).flatMap (fun r => portStooks r.2)
    let tag := (c.chan k).tag k
    ({ c with prt := { c.prt with outbound := c.prt.outbound ++ ss.map (fun v => (tag, v)) } }, ss.length, none)
  | sp =>
    let (c, bad) := c.writeOnDie sp (stookWrites addressed)
    (c, 0, bad.map (fun w => 16 * w.stook))

/-- The part of a burst's data that can be written: whole blocks, or every byte that came. -/
def usable (d : Descriptor) (got : List (Byte × Bool)) : List (Byte × Bool) :=
  got.take (got.length / srcBlock d.reshuffle * srcBlock d.reshuffle)

/-- The first burst not yet written, when all its data has come. -/
def readyBurst : List Burst → Option Burst
  | [] => none
  | b :: bs => if b.written then readyBurst bs else if b.want.isEmpty then some b else none

def setBurst (b : Burst) : List Burst → List Burst
  | [] => []
  | x :: xs => if x.off = b.off then b :: xs else x :: setBurst b xs

/-- The first source byte not written: the first one lost, the end of a burst cut short, or the first byte no burst asked for. -/
def firstUnwritten (started : Nat) : List Burst → Nat
  | [] => started
  | b :: bs =>
    let next := match bs with | x :: _ => x.off | [] => started
    if b.off + b.len < next then b.off + b.len else firstUnwritten started bs

/-- The channel's abort is complete once every access it had issued is: BytesMoved takes what its bursts wrote, and the record follows
(R365, R366, R382). -/
def Cell.settleAbort (c : Cell) (g : Glob) (k : Fin 8) : Cell :=
  let x := c.chan k
  match x.dying, x.desc with
  | some a, some d =>
    if !x.wants.isEmpty then c else
    let moved := (x.bursts.map (·.outBytes)).foldl (· + ·) 0 - a.short
    let first := a.lost.foldl (fun m r => min m (r.1 / srcBlock d.reshuffle * srcBlock d.reshuffle)) (firstUnwritten x.started x.bursts)
    (c.add64 (chanKey K.BytesMoved k) moved).abortChan g k a.cause (d.total - first) (a.fault.getD (d.srcAddr first))
  | _, _ => c

/-- The data of the oldest unwritten burst is complete, or as complete as it will be: its destination accesses are issued (R355, R364 code
7, R365).  The port takes none once it is not UP. -/
def Cell.pumpOnce (c : Cell) (g : Glob) (k : Fin 8) : Cell :=
  let x := c.chan k
  match x.desc, readyBurst x.bursts with
  | some d, some b =>
    let part := usable d b.got
    if d.dstSpace = 5 && c.get K.PortState ≠ 4 then
      c.setChan k { x with bursts := setBurst { b with written := true, len := 0, got := [] } x.bursts }
    else
    let out := reshuffle d.reshuffle part
    let (c, left, bad) := c.issueOut g k d (d.outAt b.off) out
    let wrote := ((List.range' (d.outAt b.off) out.length).filter (fun o => !d.lacks x.lost o)).length
    match bad with
    | none =>
      let x := c.chan k
      c.setChan k { x with
        bursts := setBurst { b with written := true, len := part.length, left := left, outBytes := wrote, got := [] } x.bursts }
    | some a =>
      let n := ((List.range out.length).takeWhile (fun i => d.dstAddr (d.outAt b.off + i) / 16 * 16 != a)).length
      let src := b.off + n / dstBlock d.reshuffle * srcBlock d.reshuffle
      let before := (x.bursts.map (·.outBytes)).foldl (· + ·) 0
      let cause := match x.dying with | some y => y.cause | none => 7
      (c.add64 (chanKey K.BytesMoved k) (before + n)).abortChan g k cause (d.total - src) (d.dstAddr (d.outAt b.off + n))
  | _, _ => c

/-- Whatever bursts have their data are written, and an abort that waited for it ends. -/
def Cell.pump (c : Cell) (g : Glob) (k : Fin 8) : Cell := ((c.chan k).bursts.foldl (fun c _ => c.pumpOnce g k) c).settleAbort g k

/-! Aborts of a running channel (R365) -/

/-- How many of the accesses wanted have been issued: the open reads admitted, the fixed reads accepted, the host reads sent. -/
def Cell.issuedWants (c : Cell) (k : Fin 8) (d : Descriptor) : Nat :=
  let x := c.chan k
  match d.srcSpace with
  | 0 => x.asked
  | 1 =>
    if d.fixed then x.fixedOut else
    let waits := (c.requestsOf .mover).filter (fun r => r.tag == x.tag k && r.write.isNone)
    x.wants.length - (waits.map (·.count)).foldl (· + ·) 0
  | _ => 0

/-- The bursts keep the first `n` accesses they want. -/
def keepWants : Nat → List Burst → List Burst
  | _, [] => []
  | n, b :: bs => { b with want := b.want.take n } :: keepWants (n - b.want.length) bs

/-- An abort begins while accesses are outstanding: those not issued are withdrawn, the others complete and are written, and then the
record is (R365).  One in progress keeps its cause and takes what is lost besides. -/
def Cell.beginAbort (c : Cell) (g : Glob) (k : Fin 8) (d : Descriptor) (a : Dying) : Cell :=
  let x := c.chan k
  let a := match x.dying with
    | some y => { y with lost := y.lost ++ a.lost, short := y.short + a.short }
    | none => a
  let bursts := keepWants (c.issuedWants k d) x.bursts
  let c := c.dropFixed k
  let c := c.setRequests .mover ((c.requestsOf .mover).filter (fun r => !(r.tag == x.tag k && r.write.isNone)))
  (c.setChan k { x with bursts := bursts, dying := some a }).pump g k

/-- The channel aborts for a cause (R365). -/
def Cell.abortRun (c : Cell) (g : Glob) (k : Fin 8) (cause : Nat) (fault : Option Nat) : Cell :=
  match (c.chan k).desc with
  | none => c.abortChan g k cause 0 (c.descAddr k)
  | some d => c.beginAbort g k d ⟨cause, fault, [], 0⟩

/-- The channel aborts, and its destination has not taken the last `short` bytes written for it: their source bytes count as not written
(R365, R375, R492). -/
def Cell.abortShort (c : Cell) (g : Glob) (k : Fin 8) (cause short : Nat) : Cell :=
  let x := c.chan k
  match x.desc, (x.bursts.filter (·.written)).getLast? with
  | some d, some b =>
    let stop := d.outAt b.off + b.len / srcBlock d.reshuffle * dstBlock d.reshuffle
    let from' := (stop - short) / dstBlock d.reshuffle * srcBlock d.reshuffle
    c.beginAbort g k d ⟨cause, none, if short = 0 then [] else [(from', b.off + b.len - from')], short⟩
  | _, _ => c.abortRun g k cause none

/-- The offset and the length of the source bytes the oldest access wanted is to bring. -/
def nextWanted : List Burst → Option (Nat × Nat)
  | [] => none
  | b :: bs => match b.want with | w :: _ => some (b.off + b.got.length, w.n) | [] => nextWanted bs

/-! Source data -/

/-- Data of the oldest access wanted arrives for its burst. -/
def feedBurst (bytes : List (Byte × Bool)) : List Burst → List Burst
  | [] => []
  | b :: bs =>
    match b.want with
    | w :: ws => { b with want := ws, got := b.got ++ (bytes.drop w.first).take w.n } :: bs
    | [] => b :: feedBurst bytes bs

/-- Data of the oldest access wanted never comes: filler stands in its place. -/
def loseBurst : List Burst → List Burst
  | [] => []
  | b :: bs =>
    match b.want with
    | w :: ws => { b with want := ws, got := b.got ++ List.replicate w.n (0, false) } :: bs
    | [] => b :: loseBurst bs

/-- The oldest outstanding host read of the channel fails for a cause: its descriptor read, or the source read wanted next, whose bytes
are lost to the abort that begins or is in progress (R364 codes 4 and 8, R365). -/
def Cell.loseRead (c : Cell) (g : Glob) (k : Fin 8) (cause : Nat) : Cell :=
  let x := c.chan k
  if x.fetching then (c.setChan k { x with fetching := false }).abortRun g k cause none else
  match x.desc, nextWanted x.bursts with
  | some d, some r =>
    (c.setChan k { x with bursts := loseBurst x.bursts, asked := x.asked - 1 }).beginAbort g k d ⟨cause, some (d.srcAddr r.1), [r], 0⟩
  | _, _ => c

def stookBytes (v : Nat) (bad : Bool) : List (Byte × Bool) := (payloadBytes v).map (fun b => (b, bad))

/-- A source stook has come, from an open or a fixed read (R363, R367). -/
def Cell.sourceStook (c : Cell) (g : Glob) (k : Fin 8) (v : Nat) : Cell :=
  let bad := (decodeStook v).bad
  let c := if bad then c.inc32 K.DmaPoisonCount else c
  let x := c.chan k
  (c.setChan k { x with bursts := feedBurst (stookBytes v bad) x.bursts }).pump g k

/-- A stook of an admitted open read comes back: of an aborted burst it is discarded (R365). -/
def Cell.moverData (c : Cell) (g : Glob) (tag v : Nat) : Cell :=
  let k : Fin 8 := Fin.ofNat 8 tag
  if (c.chan k).tag k = tag then c.sourceStook g k v else c

/-- A stook of the channel's fixed read stream comes (R363). -/
def Cell.moverFixed (c : Cell) (g : Glob) (k : Fin 8) (v : Nat) : Cell :=
  let x := c.chan k
  if x.fixedStale ≠ 0 then c.setChan k { x with fixedStale := x.fixedStale - 1 }
  else (c.setChan k { x with fixedOut := x.fixedOut - 1 }).sourceStook g k v

/-- Destination bytes of the channel's bursts that the host port has not taken. -/
def Cell.unsentBytes (c : Cell) (k : Fin 8) : Nat :=
  ((c.dma.unsent.filter (fun e => e.1 == (c.chan k).tag k)).map (fun e => e.2.bytes.length)).foldl (· + ·) 0

/-- Stooks that fill or will fill the return buffer: on their way, come, and behind destination accesses not yet accepted (R363). -/
def Cell.returnHeld (c : Cell) (k : Fin 8) : Nat :=
  let x := c.chan k
  let come := (x.bursts.map (fun b => if b.written then 0 else b.got.length / 16)).foldl (· + ·) 0
  let left := match x.desc with
    | some d =>
      let bytes := if d.dstSpace = 0 then c.unsentBytes k else 16 * (x.bursts.map (fun b => b.left)).foldl (· + ·) 0
      ceilDiv (bytes * srcBlock d.reshuffle) (16 * dstBlock d.reshuffle)
    | none => 0
  x.fixedOut + x.fixedStale + come + left

/-- The next source stook of the channel's fixed stream (R363). -/
def Cell.fixedNext (c : Cell) (k : Fin 8) : Option Nat :=
  let x := c.chan k
  match x.desc with
  | some d =>
    if d.fixed && c.chanState k = 3 && x.dying.isNone && c.returnHeld k < 512 then (x.wants[x.fixedOut]?).map (fun w => w.at')
    else none
  | none => none

/-- Take `n` stooks of a receive pool: the stooks, the pool left, and how many flits became free. -/
def takePool : Nat → List (List Nat) → Option (List Nat × List (List Nat) × Nat)
  | 0, p => some ([], p, 0)
  | n + 1, (v :: vs) :: fs =>
    let freed := if vs.isEmpty then 1 else 0
    match takePool n (if vs.isEmpty then fs else vs :: fs) with
    | some (xs, p, f) => some (v :: xs, p, f + freed)
    | none => none
  | _ + 1, _ => none

def numAt (xs : List Nat) (i : Nat) : Nat := (xs[i]?).getD 0
def addAt (i d : Nat) (xs : List Nat) : List Nat := setAt xs i (numAt xs i + d)

/-- `n` flits of receive pool `p` are freed: those that came before the link came up count no more (R372, R375). -/
def Cell.freeFlits (c : Cell) (p n : Nat) : Cell :=
  let o := min n (numAt c.prt.old p)
  { c with prt := { c.prt with old := setAt c.prt.old p (numAt c.prt.old p - o), freed := addAt p (n - o) c.prt.freed } }

/-- Data of the channel's DMA_DATA pool goes to its bursts (R358, R372). -/
def Cell.poolData (c : Cell) (g : Glob) (k : Fin 8) : Nat → Cell
  | 0 => c
  | n + 1 =>
    match (c.chan k).desc, (c.chan k).wants, takePool 1 (c.prt.pools.get k) with
    | some d, _ :: _, some ([v], p, f) =>
      if d.srcSpace ≠ 5 then c else
      let v := (decodeStook v).word
      let c : Cell := { c with prt := { c.prt with pools := c.prt.pools.set k p } }
      let c := c.freeFlits (8 + k.val) f
      (c.sourceStook g k v).poolData g k n
    | _, _, _ => c

/-! Descriptors (R356, R361, R364) -/

/-- The active image gives the channel READ_DMA slots. -/
def Cell.hasFixedSlots (c : Cell) (k : Fin 8) : Bool :=
  match c.exe.active with
  | none => false
  | some m => m.slots.any (fun b => b.toNat % 16 == 2 && slotTargetOf b.toNat == k.val)

/-- A descriptor has been read: it is checked, and stands (R361, R364). -/
def Cell.takeDescriptor (c : Cell) (g : Glob) (k : Fin 8) (bs : List Byte) : Cell :=
  let d := parseDescriptor bs (c.flag (chanKey K.CompatMode k))
  let at' := c.descAddr k
  if d.misaligned then c.abortChan g k 1 d.total at'
  else if d.invalid bs then c.abortChan g k 2 d.total at'
  else if d.fixed && !c.hasFixedSlots k then c.abortChan g k 11 d.total at'
  else c.setChan k { c.chan k with desc := some d, fetching := false, started := 0, bursts := [] }

/-- Host reads of the cell not yet completed; at most 128 are outstanding (R425). -/
def Cell.hostOutstanding (c : Cell) : Nat :=
  (c.dma.chans.toList.map (fun x => b2n x.fetching + x.asked + x.hostStale)).foldl (· + ·) 0

abbrev hostReadLimit : Nat := 128

/-- Host reads that wait for the limit are issued, those of the lowest channel first. -/
def Cell.askHost (c : Cell) : Cell :=
  allChans.foldl (fun c k =>
    let x := c.chan k
    match x.desc with
    | some d =>
      if d.srcSpace = 0 then
        c.setChan k { x with asked := x.asked + min (x.wants.length - x.asked) (hostReadLimit - c.hostOutstanding) }
      else c
    | none => c) c

/-- DESCRIPTOR_FETCH: the owner fetches its current descriptor, one 32-byte read; `flip0` and `flip1` are storage errors of its two
stooks (R356, R364, R410). -/
def execDescriptorFetch (n : CellNo) (w : When) (k : Fin 8) (flip0 flip1 : Nat) (s : State) : Out :=
  onCell s n w (fun g c =>
    let x := c.chan k
    if !c.owns k || c.chanState k ≠ 2 || x.desc.isSome || x.fetching || x.stopping || g.get (G.WipeState + n.val) = 1 then c
    else if x.loop then c.abortChan g k 3 0 (c.descAddr k)
    else if c.descInHost k then if c.hostOutstanding < hostReadLimit then c.setChan k { x with fetching := true } else c
    else
      let i := 2 * c.descIndex k
      let (d0, c) := c.readSram (flip0 % 2 ^ 144) i
      let (d1, c) := c.readSram (flip1 % 2 ^ 144) (i + 1)
      let bs := payloadBytes d0.word ++ payloadBytes d1.word
      if d0.bad || d1.bad then c.abortChan g k 13 (parseDescriptor bs false).total (c.descAddr k)
      else c.takeDescriptor g k bs)

/-! Bursts (R355) -/

/-- Bytes of a space (R364 code 5). -/
def Cell.spaceBytes (c : Cell) (space : Nat) : Option Nat :=
  match space with
  | 1 => some (16 * c.capacity)
  | 2 => some (16 * capturePlaces)
  | 3 => some (4 * accWords)
  | 4 => some 65536
  | _ => none

/-- The first address of a list outside a space. -/
def Cell.outside (c : Cell) (space : Nat) (addrs : List Nat) : Option Nat :=
  match c.spaceBytes space with
  | some n => addrs.find? (fun a => n ≤ a)
  | none => none

/-- Source and destination addresses of a burst. -/
def Descriptor.srcAddrs (d : Descriptor) (off len : Nat) : List Nat := (List.range len).map (fun i => d.srcAddr (off + i))
def Descriptor.dstAddrs (d : Descriptor) (off len : Nat) : List Nat :=
  (List.range (len / srcBlock d.reshuffle * dstBlock d.reshuffle)).map (fun i => d.dstAddr (d.outAt off + i))

/-- The burst leaves deep memory at its source, or else at its destination (R277). -/
def Cell.leavesDeep (c : Cell) (d : Descriptor) (off len : Nat) : Bool :=
  match c.outside d.srcSpace (d.srcAddrs off len) with
  | some _ => d.srcSpace == 1
  | none => d.dstSpace == 1 && (c.outside 1 (d.dstAddrs off len)).isSome

/-- The setup check (R364): cause and address.  While a wipe runs deep memory is parked, whatever its capacity (R470). -/
def Cell.setupCheck (c : Cell) (wipes : Bool) (k : Fin 8) (d : Descriptor) (off len : Nat) : Option (Nat × Nat) :=
  let deep := d.srcSpace = 1 || d.dstSpace = 1
  let deepAddr := if d.srcSpace = 1 then d.srcAddr off else d.dstAddr (d.outAt off)
  if d.fixed && !c.hasFixedSlots k then some (11, d.srcAddr off) else
  if deep && wipes then some (6, deepAddr) else
  match c.outside d.srcSpace (d.srcAddrs off len), c.outside d.dstSpace (d.dstAddrs off len) with
  | some a, _ => some (5, a)
  | none, some a => some (5, a)
  | none, none =>
    if deep && c.get K.ClockState ≠ 0 then some (6, deepAddr)
    else if (d.srcSpace = 5 || d.dstSpace = 5) && c.get K.PortState ≠ 4 then some (9, 0)
    else none

/-- The burst before has issued its last source access (R355). -/
def Cell.sourceIssued (c : Cell) (k : Fin 8) (d : Descriptor) : Bool :=
  let x := c.chan k
  match d.srcSpace with
  | 0 => x.wants.length ≤ x.asked
  | 1 => if d.fixed then x.wants.length ≤ x.fixedOut else (c.requestsOf .mover).all (fun r => !(r.tag == x.tag k && r.write.isNone))
  | 5 => x.wants.isEmpty
  | _ => true

/-- On-die source data, read in the burst's cycle; `flips` are storage errors by stook (R358, R363, R367). -/
def Cell.readOnDie (c : Cell) (g : Glob) (k : Fin 8) (space : Nat) (flips : List (Nat × Nat)) : List Want → Cell
  | [] => c
  | w :: ws =>
    let flip := flipOf flips w.at'
    let (v, bad, c) : Nat × Bool × Cell :=
      if w.n = 0 then (0, false, c) else
      match space with
      | 2 => c.readBuffer flip w.at'
      | 3 => let r := c.accRead flip w.at'; (r.1.word, r.1.bad, r.2)
      | 4 => let r := c.readSram flip w.at'; (r.1.word, r.1.bad, r.2)
      | _ => (0, false, c)
    let c := if bad then c.inc32 K.DmaPoisonCount else c
    let x := c.chan k
    (c.setChan k { x with bursts := feedBurst (stookBytes v bad) x.bursts }).readOnDie g k space flips ws

/-- The accesses a burst wants of its source. -/
def Cell.burstWants (g : Glob) (d : Descriptor) (off len : Nat) : List Want :=
  match d.srcSpace with
  | 0 => (runsOf (d.srcAddrs off len)).flatMap (hostWants (max 64 (g.get G.MrrsApplied)))
  | 5 => (runWants (0, len)).filter (fun w => w.n != 0)
  | 6 => [⟨0, len, 0, len⟩]
  | _ => (runsOf (d.srcAddrs off len)).flatMap runWants

/-- Open reads of consecutive stooks are one request. -/
def openRuns (tag : Nat) (ws : List Want) : List OpenReq := (runsOf (ws.map (fun w => w.at'))).map (fun r => ⟨r.1, r.2, none, tag⟩)

/-- The accesses of a new burst are issued. -/
def Cell.beginBurst (c : Cell) (g : Glob) (k : Fin 8) (d : Descriptor) (flips : List (Nat × Nat)) (off len : Nat) : Cell :=
  let wants := Cell.burstWants g d off len
  let x := c.chan k
  let b : Burst := ⟨off, len, wants, [], false, 0, 0⟩
  let c := (c.setChan k { x with seen := x.seen.drop 1, started := off + len, bursts := x.bursts ++ [b] }).showPending k
  let c := (c.inc64 (chanKey K.BurstCount k)).setChanState k 3
  match d.srcSpace with
  | 0 => c.askHost
  | 1 => if d.fixed then c else c.setRequests .mover (c.requestsOf .mover ++ openRuns (x.tag k) wants)
  | 5 => c.poolData g k 512
  | 6 =>
    let x := c.chan k
    (c.setChan k { x with bursts := feedBurst ((zeros len).map (fun b => (b, false))) x.bursts }).pump g k
  | sp => (c.readOnDie g k sp flips wants).pump g k

/-- BURST_START: the owner holds a request and its descriptor, and the burst before has issued its source accesses (R355, R363,
R364). -/
def execBurstStart (n : CellNo) (w : When) (k : Fin 8) (flips : List (Nat × Nat)) (s : State) : Out :=
  onCell s n w (fun g c =>
    let x := c.chan k
    match x.desc with
    | none => c
    | some d =>
      let st := c.chanState k
      let sram (sp : Nat) : Bool := 2 ≤ sp && sp ≤ 4
      let waits := g.get (G.WipeState + n.val) = 1 && (sram d.srcSpace || sram d.dstSpace)
      let asked := (st = 2 || st = 3) && !x.stopping && x.dying.isNone && !x.seen.isEmpty && x.started < d.total
      if !c.owns k || !asked || waits || !c.sourceIssued k d then c
      else
        let off := x.started
        let len := min d.burstBytes (d.total - off)
        match c.setupCheck (wiping g n) k d off len with
        | some (cause, a) =>
          let c := if cause = 5 && c.leavesDeep d off len then c.inc32 K.UnmappedAccessCount else c
          if x.bursts.isEmpty then c.abortChan g k cause (d.total - off) a else c.abortRun g k cause (some a)
        | none => c.beginBurst g k d flips off len)

/-- The channel is disabled: it leaves the mover (R354). -/
def Cell.disableChan (c : Cell) (k : Fin 8) : Cell := ((c.dropReads k).setChanState k 0).release k

/-- BURST_END: the oldest burst's last destination access has been accepted (R355, R362). -/
def execBurstEnd (n : CellNo) (w : When) (k : Fin 8) (s : State) : Out :=
  onCell s n w (fun _ c =>
    let x := c.chan k
    match x.desc, x.bursts with
    | some d, b :: bs =>
      if !b.written || b.left ≠ 0 || x.dying.isSome then c else
      let c := (c.setChan k { x with bursts := bs }).add64 (chanKey K.BytesMoved k) b.outBytes
      let c := if d.done = 1 then c.pulse (8 + k.val) else c
      if bs.isEmpty then
        if x.stopping && x.started < d.total then c.disableChan k else c.setChanState k 2
      else c
    | _, _ => c)

/-- The channel goes to IDLE with a new current descriptor and no hops (R356). -/
def Cell.yieldTo (c : Cell) (k : Fin 8) (cur : Nat) : Cell :=
  (((c.put (chanKey K.CurrentDescriptor k) cur).put (chanKey K.HopCount k) 0).setChanState k 1).release k

/-- CurrentDescriptor of ChainStart. -/
def Cell.chainStart (c : Cell) (k : Fin 8) : Nat :=
  c.get (chanKey K.ChainStart k) + if c.flag (chanKey K.ChainStartInHost k) then 65536 else 0

/-- DESCRIPTOR_END: the chain completes, yields or goes on (R356, R362). -/
def execDescriptorEnd (n : CellNo) (w : When) (k : Fin 8) (s : State) : Out :=
  onCell s n w (fun _ c =>
    let x := c.chan k
    match x.desc with
    | none => c
    | some d =>
      if x.started < d.total || !x.bursts.isEmpty || x.dying.isSome then c else
      let ends := d.next = 0xFFFF
      let c := if d.done = 2 || (d.done = 3 && (ends || d.cyclic)) then c.pulse (8 + k.val) else c
      let c := c.setChan k { x with desc := none, started := 0 }
      let next := d.next + if d.nextInHost then 65536 else 0
      let c :=
        if ends then c.yieldTo k (c.chainStart k)
        else if d.cyclic then c.yieldTo k next
        else
          let c := c.put (chanKey K.CurrentDescriptor k) next
          if c.get K.ChainHopLimit ≤ c.get (chanKey K.HopCount k) then c.setChan k { c.chan k with loop := true }
          else c.put (chanKey K.HopCount k) (c.get (chanKey K.HopCount k) + 1)
      if x.stopping then c.disableChan k else c)

/-! Host reads (R364, R427) -/

/-- The channel has a host read outstanding. -/
def Cell.hostReading (c : Cell) (k : Fin 8) : Bool :=
  let x := c.chan k
  x.fetching || (x.asked != 0 && match x.desc with | some d => d.srcSpace == 0 && !x.wants.isEmpty | none => false)

/-- The oldest outstanding host read of the channel has completed with data (R364, R367). -/
def Cell.hostArrives (c : Cell) (g : Glob) (k : Fin 8) (data : List Byte) (poisoned : Bool) : Cell :=
  let x := c.chan k
  if x.fetching then
    let bs := (data ++ zeros 32).take 32
    let c := c.setChan k { x with fetching := false }
    if poisoned then c.abortChan g k 13 (parseDescriptor bs false).total (c.descAddr k) else c.takeDescriptor g k bs
  else
    let len := match x.wants with | w :: _ => w.len | [] => 0
    let bytes := ((data ++ zeros len).take len).map (fun b => (b, poisoned))
    let c := if poisoned then c.put K.DmaPoisonCount (wrapAdd 32 (c.get K.DmaPoisonCount) (len / 16)) else c
    (c.setChan k { x with bursts := feedBurst bytes x.bursts, asked := x.asked - 1 }).pump g k

/-- HOST_COMPLETION: the oldest outstanding host read of the channel completes with success (0), Unsupported Request (1) or Completer
Abort (2); `data` may carry the poisoned-data indication (R364, R367).  A read that waited for it is issued (R425). -/
def execHostCompletion (n : CellNo) (w : When) (k : Fin 8) (status : Fin 3) (data : List Byte) (poisoned : Bool) (s : State) : Out :=
  onCell s n w (fun g c =>
    let x := c.chan k
    if x.hostStale ≠ 0 then (c.setChan k { x with hostStale := x.hostStale - 1 }).askHost
    else if !c.hostReading k then c
    else (if status ≠ 0 then c.loseRead g k 8 else c.hostArrives g k data poisoned).askHost)

/-- DMA_COMPLETION_TIMEOUT: the oldest outstanding host read of the channel meets the completion timeout (R364, R427). -/
def execDmaCompletionTimeout (n : CellNo) (w : When) (k : Fin 8) (s : State) : Out :=
  onCell s n w (fun g c =>
    let x := c.chan k
    if g.get G.CompletionTimeoutNs = 0 then c
    else if x.hostStale ≠ 0 then (c.setChan k { x with hostStale := x.hostStale - 1 }).askHost
    else if c.hostReading k then (c.loseRead g k 4).askHost
    else c)

/-! Commands (R382) -/

/-- CHANNEL_ENABLE: in state 0 or 4 the channel loads ChainStart and enters IDLE. -/
def Cell.enableChan (c : Cell) (k : Fin 8) : Cell :=
  let c := c.put (chanKey K.ChannelEnable k) 1
  if c.chanState k = 0 || c.chanState k = 4 then
    ((c.put (chanKey K.CurrentDescriptor k) (c.chainStart k)).put (chanKey K.HopCount k) 0).setChanState k 1
  else c

def execChannelEnable (n : CellNo) (w : When) (p : Port) (k : Fin 8) (s : State) : Out :=
  onCellPort s n w p (chanKey K.ChannelEnable k) (fun _ c => .ok (c.enableChan k))

/-- CHANNEL_DISABLE: at once, or after the running burst (R354). -/
def Cell.stopChan (c : Cell) (k : Fin 8) : Cell :=
  let c := c.put (chanKey K.ChannelEnable k) 0
  if c.chanState k = 3 then c.setChan k { c.chan k with stopping := true }
  else if c.chanState k = 0 then c
  else c.disableChan k

def execChannelDisable (n : CellNo) (w : When) (p : Port) (k : Fin 8) (s : State) : Out :=
  onCellPort s n w p (chanKey K.ChannelEnable k) (fun _ c => .ok (c.stopChan k))

/-- CHANNEL_ABORT: SoftwareAbort in states 2 and 3 (R364, R382), complete once what is issued is (R365). -/
def execChannelAbort (n : CellNo) (w : When) (p : Port) (k : Fin 8) (s : State) : Out :=
  onCellPort s n w p (chanKey K.ChannelAbort k) (fun g c =>
    if c.chanState k = 2 || c.chanState k = 3 then .ok (c.abortRun g k 12 none) else .ok c)

/-- DMA_COUNT_CLEAR: every counter of blocks cB00h to cB08h (R381). -/
def execDmaCountClear (n : CellNo) (w : When) (p : Port) (s : State) : Out :=
  onCellPort s n w p K.DmaCountClear (fun _ c => .ok (c.clearCounters 0xB00 0xB08))

end Sys2Proof.Machine
end

