-- ==== Sys2Proof/Machine/Pattern.lean ====
section
/-! DEFINITION. The pattern engine (R387 to R403): the program and its check, prefetch, the output and its underruns, the instructions,
waits and releases, starts and halts. -/

namespace Sys2Proof.Machine

/-! The program (R390, R391, R400) -/

/-- Instruction `i`: a U64.  Beyond the program it reads as 0, which is HALT (log entry 97). -/
def Cell.patInstr (c : Cell) (i : Nat) : Nat := fld (c.dom K.PatternProgram []) (8 * i) 8
def Cell.patLength (c : Cell) : Nat := (c.dom K.PatternProgram []).length / 8

def opOf (v : Nat) : Nat := bits v 0 8
def fieldA (v : Nat) : Nat := bits v 8 8
def fieldB (v : Nat) : Nat := bits v 16 16
def fieldC (v : Nat) : Nat := bits v 32 32

def Cell.regionBase (c : Cell) (r : Nat) : Nat := c.get (K.RegionBase + r)
def Cell.regionStooks (c : Cell) (r : Nat) : Nat := c.get (K.RegionStooks + r)

/-- A reserved opcode, condition or field (code 2). -/
def reservedInstr (v : Nat) : Bool :=
  let a := fieldA v
  let b := fieldB v
  let x := fieldC v
  match opOf v with
  | 0 => a != 0 || b != 0 || x != 0
  | 1 => 7 < a || b != 0
  | 2 => a != 0
  | 3 => b != 0
  | 4 => x != 0
  | 5 => 3 < a || (a == 0 && x != 0) || ((a == 1 || a == 2) && 64 ≤ x)
  | 6 => 63 < a || 2 ≤ x
  | 7 => x != 0
  | 8 => b != 0 || x != 0
  | _ => true

def Cell.badTarget (c : Cell) (v : Nat) : Bool := (opOf v == 4 || opOf v == 5) && c.patLength ≤ fieldB v
def Cell.badPlay (c : Cell) (v : Nat) : Bool :=
  opOf v == 1 && (c.regionStooks (fieldA v) == 0 || c.regionStooks (fieldA v) < fieldC v)
def badCount (v : Nat) : Bool := (opOf v == 2 || opOf v == 3) && fieldC v == 0
def badUnit (v : Nat) : Bool := (opOf v == 8 && 1 < fieldA v) || ((opOf v == 3 || opOf v == 4) && 3 < fieldA v)

/-- PatternConfigError: the first failure in table order, with the first instruction that shows it; 0 for none (R400). -/
def Cell.patCheck (c : Cell) : Nat :=
  let vs := (List.range c.patLength).map (fun i => (i, c.patInstr i))
  let first (code : Nat) (f : Nat → Bool) : Option Nat := (vs.find? (fun e => f e.2)).map (fun e => code + e.1 * 65536)
  if vs.isEmpty then 0xFFFF0001 else
  match first 2 reservedInstr, first 3 c.badTarget, first 4 c.badPlay, first 5 badCount, first 6 badUnit with
  | some e, _, _, _, _ => e
  | _, some e, _, _, _ => e
  | _, _, some e, _, _ => e
  | _, _, _, some e, _ => e
  | _, _, _, _, some e => e
  | _, _, _, _, _ => 0

/-- Stooks a PLAY plays. -/
def Cell.playLength (c : Cell) (v : Nat) : Nat := if fieldC v = 0 then c.regionStooks (fieldA v) else fieldC v

/-- The engine runs: state 1, 2 or 3 (R398). -/
def Cell.patRunning (c : Cell) : Bool := 1 ≤ c.get K.PatternState && c.get K.PatternState ≤ 3

def Cell.patPc (c : Cell) : Nat := c.pat.pc
def Cell.setPatOut (c : Cell) (o : PatOut) : Cell := { c with pat := { c.pat with out := o } }

/-! Buffers -/

def PatBuf.empty (tag : Nat) : PatBuf := ⟨tag, [], 0, 0⟩

/-- Places taken: stooks present and those still to come in time. -/
def PatBuf.size (b : PatBuf) : Nat := b.have'.length + (b.due - b.late)

/-- The next stook, or none when it is missing: then its data comes too late (R396). -/
def PatBuf.take (b : PatBuf) : Option (Nat × Bool) × PatBuf :=
  match b.have' with
  | x :: xs => (some x, { b with have' := xs })
  | [] => (none, { b with late := b.late + 1 })

/-- A stook asked for arrives; one that is too late is discarded (R396). -/
def PatBuf.arrive (b : PatBuf) (x : Nat × Bool) : PatBuf :=
  if b.late = 0 then { b with have' := b.have' ++ [x], due := b.due - 1 } else { b with due := b.due - 1, late := b.late - 1 }

/-- FifoFill (R403). -/
def Cell.fifoFill (c : Cell) : Nat := c.pat.fifo.have'.length

/-! Lookahead (R396) -/

/-- Up to `room` stooks of the PLAY that is being fetched are asked for into a buffer; a stook beyond the capacity is never admitted and
counts as delivered poisoned once those before it are there (R277, R396). -/
def Cell.fetchInto (c : Cell) (l : Look) (b : PatBuf) (room : Nat) : Cell × Look × PatBuf :=
  let n := min room (min l.left (c.capacity - l.next))
  if n ≠ 0 then
    (c.ask .pattern ⟨l.next, n, none, b.tag⟩, { l with next := l.next + n, left := l.left - n }, { b with due := b.due + n })
  else if room ≠ 0 && b.due = 0 then
    (c.inc32 K.UnmappedAccessCount, { l with next := l.next + 1, left := l.left - 1 }, { b with due := 1 }.arrive (0, true))
  else (c, l, b)

/-- One instruction passed by a walk; none at a HALT, and at a BRANCH, which the caller treats. -/
def Cell.passInstr (c : Cell) (l : Look) : Option Look :=
  let v := c.patInstr l.pc
  match opOf v with
  | 0 => none
  | 1 => some { l with pc := l.pc + 1, next := c.regionBase (fieldA v), left := c.playLength v }
  | 3 => some { l with pc := l.pc + 1, ctr := setAt l.ctr (fieldA v) (fieldC v) }
  | 4 =>
    let k := ((l.ctr[fieldA v]?).getD 0 + 2 ^ 32 - 1) % 2 ^ 32
    some { l with pc := if k = 0 then l.pc + 1 else fieldB v, ctr := setAt l.ctr (fieldA v) k }
  | 5 => none
  | _ => some { l with pc := l.pc + 1 }

/-- The walk along the fall-through path fills the FIFO. -/
def Cell.walkFifo (c : Cell) : Nat → Cell
  | 0 => c
  | n + 1 =>
    let l := c.pat.look
    let room := 4096 - c.pat.fifo.size
    if l.left ≠ 0 then
      let (c', l', b) := c.fetchInto l c.pat.fifo room
      if l'.left = l.left then c else Cell.walkFifo { c' with pat := { c'.pat with look := l', fifo := b } } n
    else match c.passInstr l with
      | some l' => Cell.walkFifo { c with pat := { c.pat with look := l' } } n
      | none =>
        let v := c.patInstr l.pc
        if opOf v = 5 && c.pat.forks.length < 64 then
          let fork := { l with pc := fieldB v }
          Cell.walkFifo { c with pat := { c.pat with look := { l with pc := l.pc + 1 }, forks := c.pat.forks ++ [fork] } } n
        else c

/-- The walk along the target of the nearest branch fills the landing buffer, up to the next BRANCH. -/
def Cell.walkLand (c : Cell) : Nat → Cell
  | 0 => c
  | n + 1 =>
    match c.pat.forks with
    | [] => c
    | l :: ls =>
      let room := 2048 - (c.pat.land.size + c.pat.feed.size)
      if l.left ≠ 0 then
        let (c', l', b) := c.fetchInto l c.pat.land room
        if l'.left = l.left then c else Cell.walkLand { c' with pat := { c'.pat with forks := l' :: ls, land := b } } n
      else match c.passInstr l with
        | some l' => Cell.walkLand { c with pat := { c.pat with forks := l' :: ls } } n
        | none => c

/-- The lookahead of a running engine; a call passes at most 256 instructions of each path. -/
def Cell.walk (c : Cell) : Cell := if c.patRunning then (c.walkFifo 256).walkLand 256 else c

/-- Open reads of buffers that are given up are withdrawn; what is on its way will be discarded. -/
def Cell.dropPatReads (c : Cell) : Cell :=
  let live (r : OpenReq) : Bool := r.tag == c.pat.fifo.tag || r.tag == c.pat.land.tag || r.tag == c.pat.feed.tag
  c.setRequests .pattern ((c.requestsOf .pattern).filter live)

/-! Output (R387, R392, R396) -/

/-- The first boundary emitted in cc `e`. -/
def boundaryOf (e : Nat) : Nat := 2 * (e + 3)

/-- The record of words with those kept that the balls can still show from boundary `b` on: down to the word driven there. -/
def keepShown (b : Nat) : List (Nat × Option Nat) → List (Nat × Option Nat)
  | [] => []
  | x :: xs => if x.1 ≤ b then [x] else x :: keepShown b xs

/-- The word emitted for boundary `b` and on; none for IdleValue (R387, R388). -/
def Cell.showWord (c : Cell) (b : Nat) (w : Option Nat) : Cell :=
  { c with pat := { c.pat with shown := (b, w) :: keepShown (2 * c.now) (c.pat.shown.filter (·.1 < b)) } }

/-- Words one after another from boundary `b` on. -/
def Cell.showWords (c : Cell) : List (Option Nat) → Nat → Cell
  | [], _ => c
  | w :: ws, b => (c.showWord b w).showWords ws (b + 1)

/-- The stook of the next eight bit-times is taken. -/
def Cell.takeStook (c : Cell) : Option Nat × Bool × Cell :=
  let fed := c.pat.feed.size != 0
  let (x, b) := (if fed then c.pat.feed else c.pat.fifo).take
  let c : Cell := { c with pat := if fed then { c.pat with feed := b } else { c.pat with fifo := b } }
  match x with
  | none => (none, true, c)
  | some (v, bad) => if bad then (none, false, c.inc32 K.PatternPoisonCount) else (some (payload v), false, c)

/-- A bit-time of a PLAY that is missing: no stook was there. -/
abbrev noStook : Nat := 2 ^ 128

/-- Emission of a PLAY up to boundary `b`, in pieces of at most eight bit-times; the stook reads as `noStook` while it is missing. -/
def Cell.emitPlay (c : Cell) (b : Nat) : Nat → Cell
  | 0 => c
  | n + 1 =>
    match c.pat.out with
    | .play f u k st =>
      let goal := min b u - f
      if goal ≤ k then c else
      let (st, c) : Option Nat × Cell := if k % 8 ≠ 0 then (st, c) else
        let (v, missing, c) := c.takeStook
        (if missing then some noStook else v, c)
      let m := min (8 - k % 8) (goal - k)
      let c := if st = some noStook then c.add64 K.PatternUnderrunBits m else c
      let word (i : Nat) : Option Nat := match st with
        | some v => if v = noStook then none else some (bits v (16 * ((k + i) % 8)) 16)
        | none => none
      let c := c.showWords ((List.range m).map word) (f + k)
      Cell.emitPlay (c.setPatOut (.play f u (k + m) st)) b n
    | _ => c

/-- The engine has emitted every boundary below `b`. -/
def Cell.emitTo (c : Cell) (b : Nat) : Cell :=
  match c.pat.out with
  | .play f u k _ => c.emitPlay b (min b u - f - k + 1)
  | _ => c

/-- The engine as of the start of the present cc: what earlier cc emitted, and the lookahead. -/
def Cell.patSync (c : Cell) : Cell :=
  if c.patRunning && c.clk.onFcc then (c.emitTo (boundaryOf c.now)).walk else c

/-- The word of a boundary that has been emitted, before PoutPolarity (R387 to R389, R396). -/
def Cell.patWord (c : Cell) (b : Nat) : Nat :=
  match c.pat.shown.find? (·.1 ≤ b) with
  | some (_, some w) => w
  | _ => c.get K.IdleValue

/-- ProgramCounter: the instruction at the output position; a PLAY or a HOLD stays there until the emission cc of its end (R392). -/
def Cell.pcShown (c : Cell) : Nat :=
  let inside (u : Nat) : Nat := if c.now + 3 < u / 2 then (c.pat.pc + 65535) % 65536 else c.pat.pc
  if !c.patRunning then c.pat.pc else
  match c.pat.out with
  | .play _ u _ _ => inside u
  | .word _ _ (some u) => inside u
  | _ => c.pat.pc

/-- The levels of Cn_POUTP/N[15:0] for boundary `b` (R387). -/
def Cell.pout (c : Cell) (b : Nat) : Nat := c.patWord b ^^^ c.get K.PoutPolarity

/-! Starting and halting (R398, R399) -/

/-- The engine halts at boundary `b` and keeps nothing to play. -/
def Cell.patHalt (c : Cell) (b cause : Nat) : Cell :=
  let t := c.pat.tags
  let pc := c.pcShown
  let c := (((c.put K.PatternState 4).put K.HaltCause cause).showWord b none)
  let c : Cell := { c with pat := { c.pat with out := .waiting none none, pc := pc, latches := [], forks := [], fifo := PatBuf.empty t,
                                                land := PatBuf.empty t, feed := PatBuf.empty t, tags := t + 1 } }
  c.setRequests .pattern []

/-- A running engine is brought up to the present cc and halted. -/
def Cell.patStop (c : Cell) (cause : Nat) : Cell :=
  if c.patRunning then ((c.emitTo (boundaryOf (c.now + 1))).patHalt (boundaryOf (c.now + 1)) cause) else c

/-- The engine starts (R398).  The FIFO is empty then, so FifoFillMin, the lowest fill since the start, reads 0 (R403).  A pulse raised in
this cc, or due later, is seen in the cc after it, and sets its latch then (R31). -/
def Cell.patBegin (c : Cell) : Cell :=
  let t := c.pat.tags
  let l : Look := ⟨0, [0, 0, 0, 0], 0, 0⟩
  let seen := c.fab.pulses.foldl (fun ls e => if c.now ≤ e.1 then addLatch c.now e.2 (e.1 + 1) ls else ls) []
  let c := (((c.put K.PatternState 1).put K.HaltCause 0).put K.PatternConfigError 0).put K.FifoFillMin 0
  let first := if c.clk.onFcc then some (c.now + 1) else none
  let c : Cell := { c with pat := { c.pat with
    out := .waiting first none, pc := 0, ctr := l.ctr, run := 0, latches := seen, look := l, forks := []
    fifo := PatBuf.empty t, land := PatBuf.empty (t + 1), feed := PatBuf.empty (t + 2), tags := t + 3 } }
  c.walk

/-- A start is refused during a wipe and in RETIRED (R399). -/
def patRefused (g : Glob) (n : CellNo) : Bool := wiping g n || g.get G.LifeCycleState == 4

/-- PATTERN_START: a write of 1 to PatternStart (R398 to R400). -/
def execPatternStart (n : CellNo) (w : When) (p : Port) (s : State) : Out :=
  onCellRecord s n w p K.PatternStart (fun g c =>
    if c.patRunning || patRefused g n then (c, abortState)
    else if c.patCheck ≠ 0 then (c.put K.PatternConfigError c.patCheck, abortValue) else (c.patBegin, 0))

/-- PATTERN_START_PULSE: a pulse on PatternStartLine is seen (R398). -/
def execPatternStartPulse (n : CellNo) (w : When) (s : State) : Out :=
  onCell s n w (fun g c =>
    if !c.sees (c.get K.PatternStartLine) || c.patRunning || patRefused g n then c
    else if c.patCheck ≠ 0 then c.put K.PatternConfigError c.patCheck
    else c.patBegin)

/-- PATTERN_STOP: the engine halts with cause 2 from the first boundary emitted after this cc (R398). -/
def execPatternStop (n : CellNo) (w : When) (p : Port) (s : State) : Out :=
  onCellPort s n w p K.PatternStop (fun _ c => .ok (c.patSync.patStop 2))

/-! The output position (R392) -/

/-- The boundary the output position stands at in the present cc, and whether no output has begun: none when the output has not
reached its next instruction in this cc. -/
def Cell.patEdge (c : Cell) : Option (Nat × Bool) :=
  if c.get K.PatternState ≠ 1 || !c.clk.onFcc then none else
  match c.pat.out with
  | .waiting (some first) _ => if first ≤ c.now then some (boundaryOf c.now, true) else none
  | .waiting none _ => none
  | .word _ _ (some u) => if u / 2 = c.now + 3 then some (u, false) else none
  | .word _ _ none => none
  | .play _ u _ _ => if u / 2 = c.now + 3 then some (u, false) else none

/-- The instruction at the output position, when it has opcode `op` and the output reaches it in the present cc: with the boundary, and
the cell up to that boundary.  The 65th instruction without output halts the engine instead (R392). -/
def Cell.patReach (c : Cell) (op : Nat) (f : Cell → Nat → Nat → Bool → Cell) : Cell :=
  let c := c.patSync
  match c.patEdge with
  | none => c
  | some (b, first) =>
    let v := c.patInstr c.patPc
    if opOf v ≠ op then c else
    let c := (c.emitTo b)
    if 64 ≤ c.pat.run && (op = 0 || op = 3 || op = 4 || op = 5 || op = 8) then c.patHalt b 4
    else (f c v b first).patSync

def Cell.setPatPc (c : Cell) (pc : Nat) : Cell := { c with pat := { c.pat with pc := pc % 65536 } }

/-- The next stook of the output is there. -/
def Cell.stookReady (c : Cell) : Bool := !(if c.pat.feed.size != 0 then c.pat.feed.have' else c.pat.fifo.have').isEmpty

/-- A control instruction is done: the position moves to `pc`, at the same boundary; before the first output that begins in this cc at the
earliest. -/
def Cell.control (c : Cell) (pc : Nat) : Cell :=
  let out := match c.pat.out with | .waiting (some f) r => .waiting (some (max f c.now)) r | o => o
  ({ c with pat := { c.pat with run := c.pat.run + 1, out := out } }).setPatPc pc

/-- Output begins at boundary `b` (R398). -/
def Cell.noteStart (c : Cell) (b : Nat) (first : Bool) : Cell := if first then c.put K.LastStartSample (64 * b) else c

/-- Before the first output a branch has changed the buffers: from now on the next stook may be another one (R398). -/
def Cell.renewReady (c : Cell) : Cell :=
  match c.pat.out with
  | .waiting f _ => c.setPatOut (.waiting f (if c.stookReady then some c.now else none))
  | _ => c

/-- HALT (R391). -/
def execHalt (n : CellNo) (w : When) (s : State) : Out := onCell s n w (fun _ c => c.patReach 0 (fun c _ b _ => c.patHalt b 1))

/-- PLAY (R391): the first output of a run waits for its first stook (R398). -/
def execPlay (n : CellNo) (w : When) (s : State) : Out :=
  onCell s n w (fun _ c => c.patReach 1 (fun c v b first =>
    let ready := match c.pat.out with
      | .waiting (some f) r => c.stookReady && c.now == max f (r.getD 0)
      | .waiting none _ => false
      | _ => true
    if !ready then c else
    let c := c.noteStart b first
    let c : Cell := { c with pat := { c.pat with run := 0, out := .play b (b + 8 * c.playLength v) 0 none } }
    c.setPatPc (c.patPc + 1)))

/-- The first output must begin in the first cc when it is a HOLD or a wait; behind control instructions that is their cc (R398). -/
def Cell.onTime (c : Cell) (first : Bool) : Bool :=
  match first, c.pat.out with
  | true, .waiting f _ => f == some c.now
  | _, _ => true

/-- HOLD (R391). -/
def execHold (n : CellNo) (w : When) (s : State) : Out :=
  onCell s n w (fun _ c => c.patReach 2 (fun c v b first =>
    if !c.onTime first then c else
    let c := c.noteStart b first
    let c : Cell := { c with pat := { c.pat with run := 0, out := .word (fieldB v) b (some (b + fieldC v)) } }
    (c.showWord b (some (fieldB v))).setPatPc (c.patPc + 1)))

/-- SETC (R391). -/
def execSetc (n : CellNo) (w : When) (s : State) : Out :=
  onCell s n w (fun _ c => c.patReach 3 (fun c v _ _ =>
    Cell.control { c with pat := { c.pat with ctr := setAt c.pat.ctr (fieldA v) (fieldC v) } } (c.patPc + 1)))

/-- LOOP (R391): the 32-bit counter wraps below 0. -/
def execLoop (n : CellNo) (w : When) (s : State) : Out :=
  onCell s n w (fun _ c => c.patReach 4 (fun c v _ _ =>
    let k := ((c.pat.ctr[fieldA v]?).getD 0 + 2 ^ 32 - 1) % 2 ^ 32
    Cell.control { c with pat := { c.pat with ctr := setAt c.pat.ctr (fieldA v) k } } (if k = 0 then c.patPc + 1 else fieldB v)))

/-! Latches (R393) -/

/-- The latch of a line stands, for the pulses seen up to this cc. -/
def Cell.latched (c : Cell) (line : Nat) : Bool := c.pat.latches.any (fun e => e.1 == line && e.2 ≤ c.now)

/-- Clear a line's latch of the pulses seen before cc `t`. -/
def Cell.clearLatch (c : Cell) (line t : Nat) : Cell :=
  { c with pat := { c.pat with latches := c.pat.latches.filter (fun e => !(e.1 == line && e.2 < t)) } }

/-! Branches (R395, R396) -/

/-- The walk starts afresh at instruction `pc` with the output's own counters. -/
def Cell.resync (c : Cell) (pc : Nat) : Cell :=
  let t := c.pat.tags
  Cell.dropPatReads { c with pat := { c.pat with
    look := ⟨pc, c.pat.ctr, 0, 0⟩, forks := [], fifo := PatBuf.empty t, land := PatBuf.empty (t + 1),
    feed := PatBuf.empty (t + 2), tags := t + 3 } }

/-- A taken branch: the landing buffer feeds the output, and the FIFO refills from beyond the landed stooks. -/
def Cell.branchTaken (c : Cell) (target : Nat) : Cell :=
  let t := c.pat.tags
  match c.pat.forks with
  | [] => c.resync target
  | l :: _ =>
    Cell.dropPatReads { c with pat := { c.pat with
      look := l, forks := [], feed := c.pat.land, fifo := PatBuf.empty t, land := PatBuf.empty (t + 1), tags := t + 2 } }

/-- A branch passed by: the landing buffer takes up the target of the next one. -/
def Cell.branchPassed (c : Cell) (pc : Nat) : Cell :=
  match c.pat.forks with
  | [] => c.resync pc
  | _ :: ls => Cell.dropPatReads { c with pat := { c.pat with forks := ls, land := PatBuf.empty c.pat.tags, tags := c.pat.tags + 1 } }

/-- BRANCH: `word` is the newest logic word delivered to the trigger engine (R395). -/
def execBranch (n : CellNo) (w : When) (word : Nat) (s : State) : Out :=
  onCell s n w (fun _ c => c.patReach 5 (fun c v _ _ =>
    let x := fieldC v
    let mask := bits x 0 16
    let holds := match fieldA v with
      | 0 => true
      | 1 => c.latched x
      | 2 => !c.latched x
      | _ => word &&& mask == bits x 16 16 &&& mask
    let c := if fieldA v = 1 then c.clearLatch x (c.now + 1) else c
    if holds then
      let c := if fieldA v = 0 then c else c.inc64 K.BranchTakenCount
      ((c.control (fieldB v)).branchTaken (fieldB v)).renewReady
    else ((c.control (c.patPc + 1)).branchPassed (c.patPc + 1)).renewReady))

/-! Waits (R393, R394) -/

/-- The output position stands at boundary `b`, with instruction `pc` next. -/
def Cell.waitOver (c : Cell) (b pc : Nat) : Cell :=
  let from' := match c.pat.out with | .word _ f _ => f | _ => b
  let word := match c.pat.out with | .word w _ _ => w | _ => c.get K.IdleValue
  (((c.setPatOut (.word word from' (some b))).put K.PatternState 1).setPatPc pc).patSync

/-- WAIT_TRIG (R393): with fresh set the latch clears before the pulses of this cc apply. -/
def execWaitTrig (n : CellNo) (w : When) (s : State) : Out :=
  onCell s n w (fun _ c => c.patReach 6 (fun c v b first =>
    if !c.onTime first then c else
    let line := fieldA v
    let c := if bit (fieldC v) 0 then c.clearLatch line c.now else c
    let c : Cell := (c.noteStart b first).setPatOut (.word (fieldB v) b none)
    let c : Cell := { c with pat := { c.pat with run := 0 } }
    if c.latched line then (c.clearLatch line (c.now + 1)).waitOver b (c.patPc + 1)
    else (c.showWord b (some (fieldB v))).put K.PatternState 2))

/-- WAIT_TRIG_DONE: a pulse on the awaited line is seen in this cc; the successor starts at its first boundary (R393). -/
def execWaitTrigDone (n : CellNo) (w : When) (s : State) : Out :=
  onCell s n w (fun _ c =>
    let c := c.patSync
    let line := fieldA (c.patInstr c.patPc)
    if c.get K.PatternState = 2 && c.clk.onFcc && c.latched line
    then (c.clearLatch line (c.now + 1)).waitOver (boundaryOf c.now) (c.patPc + 1) else c)

/-- WAIT_TL (R394). -/
def execWaitTl (n : CellNo) (w : When) (s : State) : Out :=
  onCell s n w (fun _ c => c.patReach 7 (fun c v b first =>
    if !c.onTime first then c else
    let c : Cell := (c.noteStart b first).setPatOut (.word (fieldB v) b none)
    let c : Cell := { c with pat := { c.pat with run := 0 } }
    (c.showWord b (some (fieldB v))).put K.PatternState 3))

/-- EVENT: PAT_EV pulses in this cc (R391). -/
def execEvent (n : CellNo) (w : When) (s : State) : Out :=
  onCell s n w (fun _ c => c.patReach 8 (fun c v _ _ => (c.pulse (38 + fieldA v)).control (c.patPc + 1)))

/-! Releases (R394) -/

/-- The line of cc `t`: from the next swath on the one the tracker has fixed. -/
def Cell.lineAhead (c : Cell) (t : Nat) : Line :=
  match c.trk.nextLine with
  | some (l, _) => if c.handOver < t then l else c.trk.line
  | none => c.trk.line

/-- The release of entry `idx` that is due in cc `t`, seen ahead, before pos(Z) for a Base-2 entry (R59, R61). -/
def Cell.dueAhead (c : Cell) (idx t : Nat) : Option (EventEntry × EventRun × Nat) :=
  if !c.exe.running || c.get K.ClockState != 0 then none else
  match c.events[idx]?, c.exe.runs[idx]? with
  | some e, some r =>
    match r.origin with
    | none => none
    | some o =>
      let l := c.lineAhead t
      let p := e.at o r.next
      if e.enabled && e.action == 6 && e.hasInst r.next && l.pos (128 * t) ≤ p && p < l.pos (128 * (t + 1)) &&
         p < e.bound c.baseEnd (p + 1)
      then some (e, r, p) else none
  | _, _ => none

/-- The release of boundary `b` with tag `g`: the wait that stands there ends; otherwise it is lost (R394). -/
def Cell.release' (c : Cell) (g b : Nat) : Cell :=
  if c.pat.releases.contains (g, b) then c else
  let c : Cell := { c with pat := { c.pat with releases := (g, b) :: c.pat.releases.filter (fun e => boundaryOf c.now ≤ e.2) } }
  let stands := match c.pat.out with | .word _ f none => f ≤ b | _ => false
  if c.get K.PatternState = 3 && fieldA (c.patInstr c.patPc) = g && stands then c.waitOver b (c.patPc + 1)
  else c.inc32 K.ReleaseUnmatched

/-- The first boundary at or after the mark of a release at position `p` in cc `t`. -/
def Cell.releaseBoundary (c : Cell) (p t : Nat) : Nat := ceilDiv ((c.lineAhead t).firstAt p ((c.lineAhead t).mark p t)) 64

/-- The position of entry `idx`'s release in cc `t`, when its boundary is emitted now. -/
def Cell.releasePos (c : Cell) (idx t : Nat) : Option Nat :=
  (c.dueAhead idx t).bind (fun x => if c.releaseBoundary x.2.2 t / 2 = c.now + 3 then some x.2.2 else none)

/-- A release of another entry whose boundary is emitted now too applies before the one of entry `idx` at position `p`: by position, then
by index (R61). -/
def Cell.earlierRelease (c : Cell) (idx p : Nat) : Bool :=
  (List.range c.events.length).any (fun i => [c.now + 2, c.now + 3].any (fun t =>
    match c.releasePos i t with
    | some q => q < p || (q == p && i < idx)
    | none => false))

/-- The release of entry `idx` in cc `t` is resolved: its line pulses in that cc, which takes it into the LastEvent entries, and it releases
its boundary, when that one is emitted now. -/
def Cell.releaseAt (c : Cell) (idx t : Nat) : Option Cell :=
  match c.dueAhead idx t with
  | none => none
  | some (e, r, p) =>
    let l := c.lineAhead t
    let j := l.mark p t
    if c.releaseBoundary p t / 2 ≠ c.now + 3 || c.earlierRelease idx p then none else
    let (r', n) := EventRun.pass { r with next := r.next + 1 } e (e.bound c.baseEnd (l.pos (128 * (t + 1))))
    let c : Cell := { c with exe := { c.exe with runs := setRun c.exe.runs idx r'
                                                 ahead := c.exe.ahead ++ [⟨t, idx, p, j, l.fraction p j, n⟩] } }
    let c := if e.line = 255 then c else c.pulseAt (20 + e.line) t
    some (c.release' e.param (ceilDiv (l.firstAt p j) 64))

/-- PATTERN_RELEASE: an instance whose boundary is emitted in this cc lies in one of the two cc before it leaves the balls (R394). -/
def execPatternRelease (n : CellNo) (w : When) (idx : Nat) (s : State) : Out :=
  onCell s n w (fun _ c =>
    let c := c.patSync
    match c.releaseAt idx (c.now + 2) with
    | some c => c
    | none => (c.releaseAt idx (c.now + 3)).getD c)

/-! Arrival and status -/

/-- A stook of the prefetch comes back: into its buffer, or discarded (R396). -/
def Cell.patArrive (c : Cell) (tag v : Nat) : Cell :=
  let c := c.patSync
  let x := (v, (decodeStook v).bad)
  let c : Cell :=
    if tag = c.pat.fifo.tag then { c with pat := { c.pat with fifo := c.pat.fifo.arrive x } }
    else if tag = c.pat.feed.tag then { c with pat := { c.pat with feed := c.pat.feed.arrive x } }
    else if tag = c.pat.land.tag then { c with pat := { c.pat with land := c.pat.land.arrive x } }
    else c
  let c := match c.pat.out with
    | .waiting f none => if c.patRunning && c.stookReady then c.setPatOut (.waiting f (some c.now)) else c
    | _ => c
  c.patSync

/-- PREFETCH_ARRIVAL: the engine's oldest admitted read returns, with the errors `flip` of its way (R396, R406). -/
def execPrefetchArrival (n : CellNo) (w : When) (flip : Nat) (s : State) : Out :=
  onCell s n w (fun _ c =>
    match c.runMemory.takeFlight .pattern flip with
    | some (f, d, c) => c.patArrive f.tag d.word
    | none => c)

/-- PATTERN_COUNT_CLEAR: the counters of block cD03h (R403). -/
def execPatternCountClear (n : CellNo) (w : When) (p : Port) (s : State) : Out :=
  onCellPort s n w p K.PatternCountClear (fun _ c => .ok (c.patSync.clearCounters 0xD03 0xD03))

/-- The cell goes to the bypass clock: emission ended with the last cc on the synthesiser, and the engine halts with cause 3 (R399). -/
def Cell.patClockFault (c : Cell) (tLast : Nat) : Cell :=
  if c.patRunning then (c.emitTo (boundaryOf (tLast + 1))).patHalt (boundaryOf (tLast + 1)) 3 else c

/-- A start made on the bypass clock begins its output from cc `t` on, the first on fcc after the return. -/
def Cell.patReturn (c : Cell) (t : Nat) : Cell :=
  match c.pat.out with
  | .waiting none r => if c.patRunning then c.setPatOut (.waiting (some t) r) else c
  | _ => c

end Sys2Proof.Machine
end

