-- ==== Sys2Proof/Machine/PortLink.lean ====
section
/-! DEFINITION. The cell port (R368 to R380, R383, R384): flits and their CRC, credits and sequence numbers, bring-up, transmit order, live
and playback streams, partner requests and writes. -/

namespace Sys2Proof.Machine

/-! Flits (R369, R370) -/

/-- One bit of the CRC-32 of IEEE 802.3, least significant bit first. -/
def crcBit (crc : Nat) (b : Nat) : Nat :=
  let x := crc ^^^ b
  if x % 2 = 1 then x / 2 ^^^ 0xEDB88320 else x / 2

def crcBits : Nat → Nat → Nat → Nat
  | 0, _, crc => crc
  | n + 1, v, crc => crcBits n (v / 2) (crcBit crc (v % 2))

/-- The CRC of bits [607:0] (R369). -/
def flitCrc (v : Nat) : Nat := crcBits 608 v 0xFFFFFFFF ^^^ 0xFFFFFFFF

def flitOk (v : Nat) : Bool := bits v 608 32 == flitCrc (v % 2 ^ 608)

/-- A flit from its header, its stooks and its credit field. -/
def buildFlit (header : Nat) (stooks : List Nat) (credit : Nat) : Nat :=
  let body := header + ((List.range stooks.length).zip stooks).foldl (fun a e => a + e.2 * 2 ^ (16 + 144 * e.1)) 0 + credit * 2 ^ 592
  body + flitCrc body * 2 ^ 608

def headerOf (type target count seq : Nat) : Nat := type * 4096 + target * 256 + count * 64 + seq

def flitType (v : Nat) : Nat := bits v 12 4
def flitTarget (v : Nat) : Nat := bits v 8 4
def flitCount (v : Nat) : Nat := bits v 6 2
def flitSeq (v : Nat) : Nat := bits v 0 5
def flitSlot (v i : Nat) : Nat := bits v (16 + 144 * i) 144

/-- A PWRITE flit's command can be read and fits its Count (R371, R380). -/
def pwriteFits (v : Nat) : Bool :=
  let d := decodeStook (flitSlot v 0)
  !d.bad && flitCount v != 0 && bits (payload d.word) 64 2 + 1 == flitCount v

/-- The type is one the partner sends, its target is in range, and a partner write is whole (R370, R380). -/
def flitAllowed (v : Nat) : Bool :=
  match flitType v with
  | 0 => true
  | 3 => flitTarget v < 8
  | 4 => flitTarget v < 4
  | 5 => pwriteFits v
  | 7 => true
  | _ => false

/-! Leaving UP (R374, R375) -/

/-- A playback stream stops: its outstanding reads will be discarded. -/
def Playback.halt (x : Playback) (keep : Bool) : Playback := { x with discard := x.outstanding, buffer := if keep then x.buffer else [] }

def allPorts : List (Fin 4) := [0, 1, 2, 3]
def portKey (key : Nat) (p : Fin 4) : Nat := key + 0x100 * p.val
def Cell.playOf (c : Cell) (p : Fin 4) : Playback := c.prt.play.get p
def Cell.setPlay (c : Cell) (p : Fin 4) (x : Playback) : Cell := { c with prt := { c.prt with play := c.prt.play.set p x } }

/-- The stream is idle once nothing it must discard is outstanding (R378). -/
def Cell.settlePlay (c : Cell) (p : Fin 4) : Cell :=
  if (c.playOf p).outstanding = 0 then c.put (portKey K.PlaybackState p) 0 else c

/-- Playback stops; what it had asked for is not waited for any more (R285, R378). -/
def Cell.stopPlay (c : Cell) (p : Fin 4) (keep : Bool) : Cell :=
  let x := c.playOf p
  let asks := c.get (portKey K.PlaybackState p) ≠ 0 && x.discard = 0 && x.asked < c.get (portKey K.PlaybackStooks p)
  let c : Cell := if asks then { c with mem := { c.mem with busyNs := c.nowNs } } else c
  if c.get (portKey K.PlaybackState p) = 0 then (if keep then c else c.setPlay p { c.playOf p with buffer := [] })
  else (c.setPlay p ((c.playOf p).halt keep)).settlePlay p

def Cell.usesPort (c : Cell) (k : Fin 8) : Bool :=
  match (c.chan k).desc with
  | some d => d.srcSpace == 5 || d.dstSpace == 5
  | none => false

/-- The link leaves UP: pools reset, channels in a burst of space 5 abort, playback stops (R375). -/
def Cell.leaveUp (c : Cell) (g : Glob) : Cell :=
  let old := (List.range 16).map (fun p => if p = 1 then c.prt.writes.length + c.prt.heldWrites.length else if h : 8 ≤ p ∧ p < 16
    then (c.prt.pools.get ⟨p - 8, by omega⟩).length else 0)
  let z := List.replicate 16 0
  let out := c.prt.outbound
  let c : Cell := { c with prt := { c.prt with received := z, freed := z, old := old, sent := z, credit := z, outbound := [] } }
  let unsent (c : Cell) (k : Fin 8) : Nat := 16 * (out.filter (fun e => e.1 == (c.chan k).tag k)).length
  let c := allChans.foldl (fun c k => if c.usesPort k && c.chanState k = 3 then c.abortShort g k 9 (unsent c k) else c) c
  allPorts.foldl (fun c p => c.stopPlay p false) c

/-- The port state changes; the time is noted and the link counts start again. -/
def Cell.portState (c : Cell) (st : Nat) : Cell :=
  { c.put K.PortState st with prt := { c.prt with since := c.nowNs, badRun := 0, linkRun := 0 } }

/-- The link goes DOWN, or is disabled, for a cause (R374). -/
def Cell.portLeave (c : Cell) (g : Glob) (st cause : Nat) : Cell :=
  let up := c.get K.PortState = 4
  let c := (c.put K.PortDownCause cause).portState st
  if up then c.leaveUp g else c

/-! Commands of the link (R374) -/

/-- PORT_ENABLE. -/
def Cell.enablePort (c : Cell) : Cell :=
  let c := c.put K.PortEnable 1
  if c.get K.PortState = 0 then c.portState 1 else c

def execPortEnable (n : CellNo) (w : When) (p : Port) (s : State) : Out :=
  onCellPort s n w p K.PortEnable (fun _ c => .ok c.enablePort)

/-- PORT_DISABLE: to DISABLED from any state. -/
def Cell.disablePort (c : Cell) (g : Glob) : Cell :=
  let c := c.put K.PortEnable 0
  if c.get K.PortState = 0 then c else c.portLeave g 0 5

def execPortDisable (n : CellNo) (w : When) (p : Port) (s : State) : Out :=
  onCellPort s n w p K.PortEnable (fun g c => .ok (c.disablePort g))

/-- PORT_LOCKED: both receive lanes have locked and adapted. -/
def execPortLocked (n : CellNo) (w : When) (s : State) : Out :=
  onCell s n w (fun _ c =>
    if c.get K.PortState = 1 then { c.portState 2 with prt := { (c.portState 2).prt with since := c.prt.since } } else c)

/-- PORT_ALIGNED: flit boundaries are found and 64 consecutive good LINK flits have arrived. -/
def execPortAligned (n : CellNo) (w : When) (s : State) : Out :=
  onCell s n w (fun _ c =>
    if c.get K.PortState = 2 && 64 ≤ c.prt.linkRun then
      { c.portState 3 with prt := { (c.portState 3).prt with since := c.prt.since } }
    else c)

/-- The partner's last LINK flit shows Aligned: the device is Ready. -/
def Cell.portReady (c : Cell) : Bool := c.get K.PortState == 3 && bit c.prt.partner 4

/-- PORT_UP: 8 consecutive LINK flits with Ready have arrived; credit and Seq counters start from 0, and the partner's depths apply. -/
def execPortUp (n : CellNo) (w : When) (s : State) : Out :=
  onCell s n w (fun _ c =>
    if c.portReady && 8 ≤ c.prt.linkRun then
      let c := ((c.portState 4).inc32 K.PortLinkUpCount).put K.PartnerDepths (bits c.prt.partner 16 45)
      let z := List.replicate 16 0
      { c with prt := { c.prt with received := z, freed := z, sent := z, credit := z, rotation := 0 } }
    else c)

/-- PORT_DOWN: a receive lane loses its signal or its lock in UP (R374, R375). -/
def execPortDown (n : CellNo) (w : When) (s : State) : Out :=
  onCell s n w (fun g c => if c.get K.PortState = 4 then c.portLeave g 5 1 else c)

/-- PORT_TRAIN_TIMEOUT: PortTrainTimeout has passed in LOCKING, ALIGNING or EXCHANGE. -/
def execPortTrainTimeout (n : CellNo) (w : When) (s : State) : Out :=
  onCell s n w (fun g c =>
    let st := c.get K.PortState
    if 1 ≤ st && st ≤ 3 && c.prt.since + c.get K.PortTrainTimeout * 1000000 ≤ c.nowNs then c.portLeave g 5 4 else c)

/-- PORT_RETRAIN_DELAY_EXPIRY: in DOWN the port trains again when it is enabled and may. -/
def execPortRetrainDelayExpiry (n : CellNo) (w : When) (s : State) : Out :=
  onCell s n w (fun _ c =>
    if c.get K.PortState = 5 && c.prt.since + c.get K.PortRetrainDelay * 1000 ≤ c.nowNs &&
        c.flag K.PortEnable && c.flag K.PortAutoRetrain then c.portState 1 else c)

/-! Receive (R370, R372, R373) -/

/-- A flit with a failed CRC; 16 in a row take the link down (R370, R374). -/
def Cell.crcFail (c : Cell) (g : Glob) : Cell :=
  let c := c.inc32 K.CrcErrorCount
  let c : Cell := { c with prt := { c.prt with badRun := c.prt.badRun + 1, linkRun := 0 } }
  if c.get K.PortState = 4 && 16 ≤ c.prt.badRun then c.portLeave g 5 2 else c

/-- A good flit that is discarded (R370, R380). -/
def Cell.badFlit (c : Cell) : Cell := { c.inc32 K.BadFlitCount with prt := { c.prt with badRun := 0, linkRun := 0 } }

/-- The credit field of a good flit: the partner has freed that many flits of one of its pools (R372). -/
def Cell.takeCredit (c : Cell) (flit : Nat) : Cell :=
  let p := bits flit 604 4
  if 8 < p then c else { c with prt := { c.prt with credit := setAt c.prt.credit p (bits flit 592 12) } }

/-- The Seq of a good flit of receive pool `p`: flits it is ahead by are lost and credited (R373). -/
def Cell.takeSeq (c : Cell) (g : Glob) (p flit : Nat) : Cell :=
  let lost := (flitSeq flit + 32 - numAt c.prt.received p % 32) % 32
  let c : Cell := { c with prt := { c.prt with received := addAt p (lost + 1) c.prt.received } }
  if lost = 0 then c else
  let c : Cell := { c with prt := { c.prt with freed := addAt p lost c.prt.freed } }
  let c := c.inc32 K.SeqGapCount
  if p = 1 then c.put K.PartnerWriteLost (wrapAdd 32 (c.get K.PartnerWriteLost) lost)
  else if h : 8 ≤ p ∧ p < 16 then
    let k : Fin 8 := ⟨p - 8, by omega⟩
    if c.chanState k = 3 then c.abortRun g k 10 none else c
  else c

/-- What the receiver does with a flit: one with a failed CRC or a type not allowed is discarded; a good one of the type wanted in UP
counts, brings its credit and goes on; in training it ends a run of LINK flits (R370, R372, R374). -/
def onFlit (s : State) (n : CellNo) (w : When) (type flit : Nat) (f : Glob → Cell → Cell) : Out :=
  onCell s n w (fun g c =>
    let st := c.get K.PortState
    if st < 2 || st = 5 then c
    else if !flitOk flit then c.crcFail g
    else if !flitAllowed flit then c.badFlit
    else if flitType flit ≠ type then c
    else if st ≠ 4 && type ≠ 7 then { c with prt := { c.prt with badRun := 0, linkRun := 0 } }
    else
      let c : Cell := { c with prt := { c.prt with badRun := 0 } }
      f g (if type = 0 then c else c.inc64 K.FlitsReceived))

/-- RX_BAD_FLIT: the flit has a failed CRC or an invalid type (R370). -/
def execRxBadFlit (n : CellNo) (w : When) (flit : Nat) (s : State) : Out := onFlit s n w 16 flit (fun _ c => c)

/-- RX_IDLE (R372). -/
def execRxIdle (n : CellNo) (w : When) (flit : Nat) (s : State) : Out := onFlit s n w 0 flit (fun _ c => c.takeCredit flit)

/-- The stooks of a flit. -/
def flitStooks (flit : Nat) : List Nat := (List.range (flitCount flit + 1)).map (flitSlot flit)

/-- RX_DMA_DATA: the flit enters its channel's receive pool, and a waiting burst takes it (R372, R373). -/
def execRxDmaData (n : CellNo) (w : When) (flit : Nat) (s : State) : Out :=
  onFlit s n w 3 flit (fun g c =>
    let k : Fin 8 := Fin.ofNat 8 (flitTarget flit)
    let c := (c.takeCredit flit).takeSeq g (8 + k.val) flit
    let c : Cell := { c with prt := { c.prt with pools := c.prt.pools.set k (c.prt.pools.get k ++ [flitStooks flit]) } }
    c.poolData g k 512)

/-- RX_REQUEST: PARTNER_t pulses, and the flit's buffer is free at once (R373, R379). -/
def execRxRequest (n : CellNo) (w : When) (flit : Nat) (s : State) : Out :=
  onFlit s n w 4 flit (fun g c =>
    let c := (c.takeCredit flit).takeSeq g 0 flit
    ((c.freeFlits 0 1).inc64 K.PartnerRequestCount).pulse (52 + flitTarget flit))

/-- One data stook of a partner write: asked of the arbiter, or dropped beyond the capacity (R277, R380). -/
def Cell.partnerWrite (c : Cell) (s v : Nat) : Cell × Nat :=
  if c.capacity ≤ s then ((c.inc32 K.PartnerWriteDropped).inc32 K.UnmappedAccessCount, 0)
  else
    let d := decodeStook v
    (c.ask .partner ⟨s, 1, some ⟨payload d.word, 65535, d.bad⟩, 0⟩, 1)

def Cell.partnerWrites (c : Cell) (s : Nat) : List Nat → Cell × Nat
  | [] => (c, 0)
  | v :: vs =>
    let (c, a) := c.partnerWrite s v
    let (c, b) := c.partnerWrites (s + 1) vs
    (c, a + b)

/-- A PWRITE flit asks for its writes; with none its buffer is free (R380). -/
def Cell.askPwrite (c : Cell) (s : Nat) (data : List Nat) : Cell :=
  let (c, k) := c.partnerWrites s data
  if k = 0 then c.freeFlits 1 1 else { c with prt := { c.prt with writes := c.prt.writes ++ [k] } }

/-- In RUN the flits that stayed in their pool go on (R380). -/
def Cell.askHeld (c : Cell) : Cell :=
  c.prt.heldWrites.foldl (fun c x => c.askPwrite x.1 x.2) { c with prt := { c.prt with heldWrites := [] } }

/-- RX_PWRITE: the data stooks are asked to be written, once the cell is in clock state RUN (R373, R380). -/
def execRxPwrite (n : CellNo) (w : When) (flit : Nat) (s : State) : Out :=
  onFlit s n w 5 flit (fun g c =>
    let p := payload (decodeStook (flitSlot flit 0)).word
    let c := (c.takeCredit flit).takeSeq g 1 flit
    let data := (flitStooks flit).drop 1
    if c.get K.ClockState = 0 then c.askPwrite (bits p 0 64) data
    else { c with prt := { c.prt with heldWrites := c.prt.heldWrites ++ [(bits p 0 64, data)] } })

/-- A partner write is accepted: with its flit's last, the buffer is free (R380). -/
def Cell.partnerAccepted (c : Cell) : Cell :=
  let c := c.inc64 K.PartnerWriteStooks
  match c.prt.writes with
  | k :: ks => if k ≤ 1 then ({ c with prt := { c.prt with writes := ks } } : Cell).freeFlits 1 1
    else { c with prt := { c.prt with writes := (k - 1) :: ks } }
  | [] => c

/-- RX_LINK: a LINK flit advances the training, or takes the link down in UP (R374). -/
def execRxLink (n : CellNo) (w : When) (flit : Nat) (s : State) : Out :=
  onFlit s n w 7 flit (fun g c =>
    let v := payload (decodeStook (flitSlot flit 0)).word
    let c : Cell := { c with prt := { c.prt with partner := v } }
    match c.get K.PortState with
    | 4 => c.portLeave g 5 3
    | 3 => { c with prt := { c.prt with linkRun := if bit v 5 then c.prt.linkRun + 1 else 0 } }
    | _ => { c with prt := { c.prt with linkRun := c.prt.linkRun + 1 } })

/-! Transmit (R372, R376, R377) -/

/-- The pools whose freed counts the device sends, in rotation. -/
def creditPools : List Nat := [0, 1, 8, 9, 10, 11, 12, 13, 14, 15]

/-- A transmit pool of the partner has room (R372). -/
def Cell.hasCredit (c : Cell) (p : Nat) : Bool :=
  (numAt c.prt.sent p + 4096 - numAt c.prt.credit p) % 4096 < bits (c.get K.PartnerDepths) (5 * p) 5

/-- A flit goes out: its credit field rotates, and a flit other than IDLE counts (R372). -/
def Cell.sendFlit (c : Cell) (type target : Nat) (pool : Option Nat) (stooks : List Nat) : Cell :=
  let cp := numAt creditPools (c.prt.rotation % 10)
  let credit := cp * 4096 + numAt c.prt.freed cp % 4096
  let seq := match pool with | some p => numAt c.prt.sent p % 32 | none => 0
  let count := if type = 0 || type = 6 || type = 7 then 0 else stooks.length - 1
  let flit := buildFlit (headerOf type target count seq) stooks (if type = 7 then 0 else credit)
  let sent := match pool with | some p => addAt p 1 c.prt.sent | none => c.prt.sent
  let c := if type = 0 then c else c.inc64 K.FlitsSent
  { c with prt := { c.prt with lastFlit := flit, sent := sent, rotation := (c.prt.rotation + 1) % 10 } }

/-- A live stream seen as a capture stream in stream mode (R377). -/
def Live.asStream (x : Live) : Stream := { noStream with plan := x.plan, n0 := x.n0, ref0 := x.ref0, lane := x.lane }

/-- A staged stook as it is sent: with its release bits, or in poison form (R247, R253, R262, R377). -/
def Cell.liveStook (c : Cell) (x : Live) (l : LiveStook) (flip seq : Nat) : Nat × Cell :=
  let p : Packed := ⟨l.place, l.firstVal, l.count, l.tags, .kept, none, l.index⟩
  match decodeStook (stookAt c.cap.memory l.place ^^^ flip % 2 ^ 144) with
  | .clean v => (encodeStook (addTag x.plan.packing (payload v) (c.releaseTag x.asStream p seq (l.index == 0))), c)
  | .corrected _ v => (encodeStook (addTag x.plan.packing (payload v) (c.releaseTag x.asStream p seq (l.index == 0))), c)
  | d => (d.word, c.poisonNote l.place)

def Cell.liveStooks (c : Cell) (x : Live) (flips : List (Nat × Nat)) (seq : Nat) : List LiveStook → List Nat × Cell
  | [] => ([], c)
  | l :: ls =>
    let (v, c) := c.liveStook x l (flipOf flips l.place) seq
    let (vs, c) := c.liveStooks x flips (seq + 1) ls
    (v :: vs, c)

/-- The stream has a LIVE flit to send: 4 stooks, or fewer once the oldest has waited 16 cc or Z is packed (R377). -/
def Cell.liveDue (c : Cell) (p : Fin 4) : Bool :=
  let x := c.prt.live.get p
  4 ≤ x.staged.length || match x.staged with | l :: _ => x.done || l.cc + 16 ≤ c.now | [] => false

def Cell.sendLive (c : Cell) (flips : List (Nat × Nat)) (p : Fin 4) : Cell :=
  let x := c.prt.live.get p
  let ls := x.staged.take 4
  let (vs, c) := c.liveStooks x flips x.sent ls
  let c := c.setLive p.val { x with staged := x.staged.drop 4, sent := x.sent + ls.length }
  (c.add64 (portKey K.LiveStooksSent p) ls.length).sendFlit 1 p.val (some p.val) vs

def Cell.playDue (c : Cell) (p : Fin 4) : Bool :=
  let x := c.playOf p
  4 ≤ x.buffer.length || (!x.buffer.isEmpty && c.get (portKey K.PlaybackState p) = 0)

def Cell.sendPlay (c : Cell) (p : Fin 4) : Cell :=
  let x := c.playOf p
  let vs := x.buffer.take 4
  let c := (c.setPlay p { x with buffer := x.buffer.drop 4 }).add64 (portKey K.PlaybackStooksSent p) vs.length
  c.sendFlit 2 p.val (some (4 + p.val)) vs

/-- Up to 4 stooks of the channel at the head. -/
def outboundHead (xs : List (Nat × Nat)) : List (Nat × Nat) :=
  match xs with
  | [] => []
  | x :: _ => (xs.takeWhile (fun y => y.1 == x.1)).take 4

def Cell.sendDma (c : Cell) : Cell :=
  let xs := outboundHead c.prt.outbound
  match xs with
  | [] => c
  | (tag, _) :: _ =>
    let k : Fin 8 := Fin.ofNat 8 tag
    let c : Cell := { c with prt := { c.prt with outbound := c.prt.outbound.drop xs.length } }
    let c := c.sendFlit 3 k.val (some 8) (xs.map (·.2))
    if (c.chan k).tag k = tag then xs.foldl (fun c _ => c.accepted k) c else c

/-- The LINK flit of the device (R374). -/
def Cell.linkPayload (c : Cell) : Nat :=
  1 + b2n (3 ≤ c.get K.PortState) * 16 + b2n c.portReady * 32 +
  (8 + 31 * 2 ^ 5 + ((List.range 8).map (fun k => 16 * 2 ^ (5 * (8 + k)))).foldl (· + ·) 0) * 2 ^ 16

/-- The first item in transmit order that has data and credit (R376). -/
def Cell.transmit (c : Cell) (flips : List (Nat × Nat)) : Cell :=
  match c.prt.gaps with
  | (p, first, lost) :: gs =>
    ({ c with prt := { c.prt with gaps := gs } } : Cell).sendFlit 6 p none [encodeStook (first % 2 ^ 64 + lost % 2 ^ 32 * 2 ^ 64)]
  | [] =>
    match allPorts.find? (fun p => c.liveDue p && c.hasCredit p.val) with
    | some p => c.sendLive flips p
    | none =>
      match allPorts.find? (fun p => c.playDue p && c.hasCredit (4 + p.val)) with
      | some p => c.sendPlay p
      | none => if !c.prt.outbound.isEmpty && c.hasCredit 8 then c.sendDma else c.sendFlit 0 0 none []

/-- TX_FLIT: one transmit flit slot.  In training the device sends LINK flits, unless a test pattern replaces them; `flips` are
storage errors of the staging places it reads (R371, R374, R376). -/
def execTxFlit (n : CellNo) (w : When) (flips : List (Nat × Nat)) (s : State) : Out :=
  onCell s n w (fun _ c =>
    let st := c.get K.PortState
    if st = 4 then c.transmit flips
    else if 1 ≤ st && st ≤ 3 && c.get K.PortTestPattern = 0 then c.sendFlit 7 0 none [encodeStook c.linkPayload]
    else c)

/-- No item that goes before stream `p`'s LIVE flit has data and credit (R376). -/
def Cell.liveFirst (c : Cell) (p : Fin 4) : Bool :=
  c.prt.gaps.isEmpty && allPorts.all (fun q => p ≤ q || !(c.liveDue q && c.hasCredit q.val))

/-- LIVE_FLIT_TIMEOUT: the oldest staged stook of stream `p` has waited 16 cc, and its flit goes out with fewer than 4, in transmit order
(R376, R377). -/
def execLiveFlitTimeout (n : CellNo) (w : When) (p : Fin 4) (flips : List (Nat × Nat)) (s : State) : Out :=
  onCell s n w (fun _ c =>
    let x := c.prt.live.get p
    let due : Bool := match x.staged with | l :: _ => decide (l.cc + 16 ≤ c.now) | [] => false
    if c.get K.PortState = 4 && due && x.staged.length < 4 && c.liveFirst p && c.hasCredit p.val then c.sendLive flips p else c)

/-! Playback (R378) -/

/-- PLAYBACK_START: a pulse of the cycle before on PlaybackStartLine starts an idle stream. -/
def execPlaybackStart (n : CellNo) (w : When) (p : Fin 4) (s : State) : Out :=
  onCell s n w (fun _ c =>
    let line := c.get (portKey K.PlaybackStartLine p)
    if line < 64 && c.sees line && c.get (portKey K.PlaybackState p) = 0 then
      (c.setPlay p { c.playOf p with asked := 0, outstanding := 0, discard := 0 }).put (portKey K.PlaybackState p) 1
    else c)

/-- PLAYBACK_STOP: the stream ends after its outstanding reads, which are discarded. -/
def execPlaybackStop (n : CellNo) (w : When) (p : Port) (k : Fin 4) (s : State) : Out :=
  onCellPort s n w p (portKey K.PlaybackStop k) (fun _ c => .ok (c.stopPlay k true))

/-- PLAYBACK_END: every stook has been read; the stream stops with the last return, or starts again at its base. -/
def execPlaybackEnd (n : CellNo) (w : When) (p : Fin 4) (s : State) : Out :=
  onCell s n w (fun _ c =>
    let x := c.playOf p
    if c.get (portKey K.PlaybackState p) = 0 || x.discard ≠ 0 || x.asked < c.get (portKey K.PlaybackStooks p) then c
    else if c.flag (portKey K.PlaybackLoop p) then c.setPlay p { x with asked := 0 }
    else c.settlePlay p)

/-- The next stook of a playback stream, when a slot may offer it. -/
def Cell.playNext (c : Cell) (p : Fin 4) : Option Nat :=
  let x := c.playOf p
  if c.get (portKey K.PlaybackState p) ≠ 0 && x.discard = 0 && x.asked < c.get (portKey K.PlaybackStooks p) &&
      x.outstanding + x.buffer.length < 512 then some (c.get (portKey K.PlaybackBase p) + x.asked) else none

/-- A stook of a playback stream comes. -/
def Cell.playData (c : Cell) (p : Fin 4) (v : Nat) : Cell :=
  let x := c.playOf p
  if x.discard ≠ 0 then
    let c := c.setPlay p { x with outstanding := x.outstanding - 1, discard := x.discard - 1 }
    if x.discard = 1 then c.settlePlay p else c
  else c.setPlay p { x with outstanding := x.outstanding - 1, buffer := x.buffer ++ [v] }

/-- PlaybackState: 2 while the running stream is held for credit or buffer room (R384). -/
def Cell.playState (c : Cell) (p : Fin 4) : Nat :=
  let x := c.playOf p
  if c.get (portKey K.PlaybackState p) = 0 then 0
  else if 512 ≤ x.outstanding + x.buffer.length || (4 ≤ x.buffer.length && !c.hasCredit (4 + p.val)) then 2 else 1

/-- PORT_COUNT_CLEAR: every counter of blocks cC00h to cC04h (R383). -/
def execPortCountClear (n : CellNo) (w : When) (p : Port) (s : State) : Out :=
  onCellPort s n w p K.PortCountClear (fun _ c => .ok (c.clearCounters 0xC00 0xC04))

end Sys2Proof.Machine
end

