-- ==== Sys2Proof/Machine/Compose.lean ====
section
/-! DEFINITION. The picture of the raster: the layers of one active line and their composition (R329 to R334, R346). -/

namespace Sys2Proof.Machine

/-! Blending (R329) -/

/-- Blend a component `s` of alpha `a` onto `d`. -/
def blend8 (s a d : Nat) : Nat := (s * a + d * (255 - a) + 127) / 255

/-- Blend an ARGB8888 pixel onto an RGB888 one. -/
def blend (argb rgb : Nat) : Nat :=
  let a := bits argb 24 8
  let part (i : Nat) : Nat := blend8 (bits argb (8 * i) 8) a (bits rgb (8 * i) 8)
  part 0 + part 1 * 2 ^ 8 + part 2 * 2 ^ 16

/-- A composed pixel as sent: RGB888, or each component as 4c + floor(c / 64) in RGB101010. -/
def sentPixel (format rgb : Nat) : Nat :=
  if format = 0 then rgb else
  let part (i : Nat) : Nat := 4 * bits rgb (8 * i) 8 + bits rgb (8 * i) 8 / 64
  part 0 + part 1 * 2 ^ 10 + part 2 * 2 ^ 20

/-- Pixel `x` of a fetched line: transparent where the stook is missing or came poisoned (R330, R345, R346). -/
def linePixel (stooks : List Fetched) (x : Nat) : Nat :=
  match stooks[x / 4]? with
  | some f => if f.good then bits f.payload (32 * (x % 4)) 32 else 0
  | none => 0

/-! The density curve (R333) -/

/-- The exact result for count `c` out of `f` reaches index `i`: the gamma curve, exponents in 0.001. -/
def gammaReaches (g f c i : Nat) : Bool := (2 * i - 1) ^ g * f ^ 1000 ≤ c ^ 1000 * 510 ^ g

/-- The same for the log curve of `k` octaves. -/
def logReaches (k f c i : Nat) : Bool := 2 ^ (k * (2 * i - 1)) * f ^ 510 ≤ (f + (2 ^ k - 1) * c) ^ 510

/-- The largest index up to `lo + 2^n - 1` that is reached, from an index `lo` that is. -/
def searchIndex (reaches : Nat → Bool) : Nat → Nat → Nat
  | 0, lo => lo
  | n + 1, lo => if lo + 2 ^ n ≤ 255 && reaches (lo + 2 ^ n) then searchIndex reaches n (lo + 2 ^ n) else searchIndex reaches n lo

/-- The palette index the formula gives for a count at most `f`, halves rounded up. -/
def exactIndex (curve param f c : Nat) : Nat := searchIndex (if curve = 0 then gammaReaches param f c else logReaches param f c) 8 0

/-- The palette index of count `c` under reference `f`: within 1 of the exact one, never falling as `c` rises, by thresholds the
hardware has; 0 for no count, at least 1 for any (R333). -/
def densityIndex (curve param f c : Nat) : Nat :=
  if c = 0 then 0 else if f ≤ 1 then 255 else
  let m := min c f
  let e := exactIndex curve param f m
  let up (i : Nat) : Nat := b2n (Config.densityThreshold curve param f i ≤ m)
  max 1 (min 255 (e + up e + up (e + 1) - 1))

/-! The layers of one line -/

def Cell.frmi (c : Cell) (w k : Nat) : Int := sgn w (c.frame k)

/-- The overlay in force covers pixel `x` with this pixel; transparent when it is off. -/
def Cell.overlayPixel (c : Cell) (stooks : List Fetched) (x : Nat) : Nat := if c.frame K.OverlayEnable = 0 then 0 else linePixel stooks x

/-- The cursor at column `x` of line `y` (R331). -/
def Cell.cursorPixel (c : Cell) (x y : Nat) : Nat :=
  let cx := (x : Int) - c.frmi 16 K.CursorX
  let cy := (y : Int) - c.frmi 16 K.CursorY
  if c.frame K.CursorEnable = 0 || cx < 0 || 64 ≤ cx || cy < 0 || 64 ≤ cy then 0
  else linePixel (c.ras.cursor.drop (16 * cy.toNat)) cx.toNat

/-- The words of `n` accumulator stooks from `s` on through the read port: none for an uncorrectable one (R332, R346). -/
def Cell.readWords (c : Cell) (flips : List (Nat × Nat)) (s : Nat) : Nat → List (Option Nat) × Cell
  | 0 => ([], c)
  | n + 1 =>
    let (d, c) := c.accRead (flipOf flips s) s
    let ws : List (Option Nat) := if d.bad then [none, none, none, none] else
      [some (wordOf d.word 0), some (wordOf d.word 1), some (wordOf d.word 2), some (wordOf d.word 3)]
    let (rest, c) := c.readWords flips (s + 1) n
    (ws ++ rest, c)

/-- The bins line `y` shows, in column order; none where the layer does not reach the line (R332). -/
def Cell.densityBins (c : Cell) (flips : List (Nat × Nat)) (y : Nat) : List (Option Nat) × Cell :=
  match c.ras.density with
  | none => ([], c)
  | some g =>
    let zx := max 1 (c.frame K.DensityZoomX)
    let zy := max 1 (c.frame K.DensityZoomY)
    let y0 := c.frame K.DensityY0
    let shown := min g.x (ceilDiv (c.frame K.Hactive - c.frame K.DensityX0) zx)
    if y < y0 || g.y ≤ (y - y0) / zy || shown = 0 then ([], c) else
    let w := g.base + (g.y - 1 - (y - y0) / zy) * g.x
    let (ws, c) := c.readWords flips (w / 4) ((w % 4 + shown + 3) / 4)
    let bins := (ws.drop (w % 4)).take shown
    let bad := (bins.filter (fun b => b.isNone)).length
    let c := c.put K.DensityPoisonCount (wrapAdd 32 (c.get K.DensityPoisonCount) bad)
    let top := bins.foldl (fun a b => max a (b.getD 0)) c.ras.peak
    (bins, { c with ras := { c.ras with peak := top } })

/-- The palette in force; the default is the grey ramp of R334. -/
def Cell.palette (c : Cell) (i : Nat) : Nat :=
  match kvFind K.DensityPalette c.frmDoms with
  | some bs => fld bs (4 * i) 4
  | none => if i = 0 then 0 else 0xFF000000 + i * 0x010101

/-- The palette entries of the line's bins. -/
def Cell.densityColours (c : Cell) (bins : List (Option Nat)) : List Nat :=
  let curve := c.frame K.DensityCurve
  let param := if curve = 0 then c.frame K.DensityGamma else c.frame K.DensityLogOctaves
  bins.map (fun b => c.palette (match b with | some k => densityIndex curve param (c.get K.DensityPeakApplied) k | none => 0))

/-- The density layer at column `x`. -/
def Cell.densityPixel (c : Cell) (colours : List Nat) (x : Nat) : Nat :=
  let x0 := c.frame K.DensityX0
  if x < x0 then 0 else ((colours[(x - x0) / max 1 (c.frame K.DensityZoomX)]?).getD 0)

/-- Line `y`, composed bottom-up (R329): its pixels as sent. -/
def Cell.composeLine (c : Cell) (flips : List (Nat × Nat)) (stooks : List Fetched) (y : Nat) : List Nat × Cell :=
  let (bins, c) := c.densityBins flips y
  let colours := c.densityColours bins
  let pixel (x : Nat) : Nat :=
    let rgb := c.frame K.BackgroundColour % 2 ^ 24
    let rgb := blend (c.densityPixel colours x) rgb
    let rgb := blend (c.overlayPixel stooks x) rgb
    sentPixel (c.frame K.PixelFormat) (blend (c.cursorPixel x y) rgb)
  ((List.range (c.frame K.Hactive)).map pixel, c)

/-! The line on the link (R336, R337) -/

/-- Pixels in the order of the pixel packets: red first, 3 bytes a pixel or 15 bytes for four. -/
def pixelBytes (format : Nat) (px : List Nat) : List Byte :=
  if format = 0 then px.flatMap (fun v => beBytes 3 v) else
  let ten (v : Nat) : Nat := bits v 20 10 + bits v 10 10 * 2 ^ 10 + bits v 0 10 * 2 ^ 20
  (chunks 4 px.length px).flatMap (fun q => leBytes 15 (q.foldr (fun v n => ten v + 2 ^ 30 * n) 0))

/-- The packets of line `y`: in command mode one DCS long write, write_memory_start first and write_memory_continue after it; in video mode
the sync packets and the pixel packet; an EoTp behind them where it is enabled. -/
def Cell.linePackets (c : Cell) (px : List Nat) (y : Nat) : List DsiItem :=
  let format := c.frame K.PixelFormat
  let data := pixelBytes format px
  let line := if c.frame K.DsiMode = 2 then [.packet 0x39 ((if y = 0 then 0x2C else 0x3C) :: data)] else
    .packet 0x21 [] :: ((if c.frame K.DsiMode = 0 then [.packet 0x31 []] else []) ++ [.packet (if format = 0 then 0x3E else 0x0D) data])
  line ++ if c.frame K.EotpEnable = 0 then [] else [.packet 0x08 []]

end Sys2Proof.Machine
end

