-- ==== Sys2Proof/Machine/Raster.lean ====
section
/-! DEFINITION. Raster scan-out (R335 to R351): the frame, commits and their check, the mode switch, buffer leases, the fetch, tearing
effect edges, start and stop. -/

namespace Sys2Proof.Machine

/-! Shadows (R339) -/

/-- The Frame-class entries as they stand: the shadows. -/
def Cell.shadows (c : Cell) : Regs × Doms :=
  (c.regs.filter (fun e => match cellEntry? e.1 with | some x => x.cls == .frame && x.acc == .rws | none => false),
   c.doms.filter (fun e => match cellEntry? e.1 with | some x => x.cls == .frame && x.acc == .rws | none => false))

def fval (r : Regs) (k : Nat) : Nat := regGet (cellDflt k) k r

/-- The size class of an active area: 0 small, 1 largest (R335). -/
def sizeClass (r : Regs) : Nat := if fval r K.Hactive ≤ 2560 && fval r K.Vactive ≤ 1600 then 0 else 1

def hTotal (r : Regs) : Nat := fval r K.Hsync + fval r K.Hback + fval r K.Hactive + fval r K.Hfront
def vTotal (r : Regs) : Nat := fval r K.Vsync + fval r K.Vback + fval r K.Vactive + fval r K.Vfront

/-- A timing entry: a commit that changes one switches the mode (R342). -/
def isTiming (k : Nat) : Bool := (K.DsiMode ≤ k && k ≤ K.ClockContinuous) || k == K.DsiPolaritySwap || k == K.PeriodicDeskew

def timingOf (r : Regs) : Regs := r.filter (fun e => isTiming e.1)

/-- The check of R340: the code of the first failure, 0 for none.  Command mode ignores the pixel clock and the porches (R336). -/
def Cell.rasterCheck (c : Cell) (r : Regs) : Nat :=
  let v := fval r
  let h := v K.Hactive
  let vid : Bool := v K.DsiMode != 2
  let porch (k : Nat) : Bool := v k < 4 || 1023 < v k
  let lines (k : Nat) : Bool := v k < 1 || 255 < v k
  let area := hTotal r * vTotal r
  if h < 64 || 3840 < h || h % 4 ≠ 0 || v K.Vactive < 64 || 2160 < v K.Vactive then 1
  else if vid && (porch K.Hfront || porch K.Hsync || porch K.Hback || lines K.Vfront || lines K.Vsync || lines K.Vback ||
      v K.Vfront + v K.Vsync + v K.Vback < 10) then 2
  else if vid && (if sizeClass r = 0 then 240 * area < v K.PixelClock else 601 * area < 10 * v K.PixelClock) then 3
  else if vid && (v K.PixelClock < 10000000 || 600000000 < v K.PixelClock) then 4
  else if (if vid then v K.DsiLaneRate * 1000000 * v K.DsiLanes * hTotal r <
        (h * (if v K.PixelFormat = 0 then 24 else 30) + 512) * v K.PixelClock else v K.PixelFormat = 1) then 5
  else if sizeClass r = 1 && v K.Vactive ≤ v K.CommitLeadLines then 6
  else if v K.OverlayBase % 4 ≠ 0 || v K.OverlayStride % 4 ≠ 0 || v K.OverlayStride < ceilDiv h 4 ||
      c.capacity < v K.OverlayBase + v K.OverlayStride * v K.Vactive then 7
  else if v K.CursorBase % 4 ≠ 0 || c.capacity < v K.CursorBase + 1024 then 8
  else 0

/-! Leases (R343) -/

/-- An in-scan range: base and length. -/
structure ScanRange where
  base : Nat
  len : Nat
deriving DecidableEq

def Cell.scanRange (c : Cell) (i : Nat) : ScanRange := ⟨c.get (K.InScanBase + i), c.get (K.InScanLength + i)⟩
def Cell.setRange (c : Cell) (i : Nat) (r : ScanRange) : Cell := (c.put (K.InScanBase + i) r.base).put (K.InScanLength + i) r.len

abbrev noRange : ScanRange := ⟨0, 0⟩

/-- The overlay of a configuration as a range; empty when it is off. -/
def overlayRange (r : Regs) : ScanRange :=
  if fval r K.OverlayEnable = 0 then noRange else ⟨fval r K.OverlayBase, fval r K.OverlayStride * fval r K.Vactive % 2 ^ 32⟩

/-- The cycle in which a retirement pulses: the first that has no such pulse (R341). -/
def Cell.retireCc (c : Cell) : Nat :=
  (((List.range 3).map (fun k => c.now + k)).find? (fun t => !c.fab.pulses.contains (t, 16))).getD (c.now + 3)

/-- A base retires and RASTER_RETIRED pulses (R341, R343). -/
def Cell.retire (c : Cell) (layer base : Nat) : Cell :=
  let c := (c.pulseAt 16 c.retireCc).inc32 K.RetireCount
  ((c.put K.RetiredBase base).put K.RetiredLayer layer).put K.RetiredFrame (c.get K.FrameCount)

/-- The overlay of the next frame enters range 1 when it differs from range 0; one that waited there retires (R343). -/
def Cell.installOverlay (c : Cell) (r : Regs) : Cell :=
  let new := overlayRange r
  let old := c.scanRange 1
  let new := if new = c.scanRange 0 then noRange else new
  let c := if old.len ≠ 0 && old.base ≠ new.base && old.base ≠ (c.scanRange 0).base then c.retire 1 old.base else c
  c.setRange 1 new

/-- A frame start: the frame's overlay is in range 0, and an overlay that leaves it retires (R343). -/
def Cell.moveRanges (c : Cell) : Cell :=
  let new := overlayRange c.frm
  let old := c.scanRange 0
  let c := if old.len ≠ 0 && (new.len = 0 || old.base ≠ new.base) then c.retire 1 old.base else c
  (c.setRange 0 new).setRange 1 noRange

/-- Every range retires, overlays first (R338, R343). -/
def Cell.retireAll (c : Cell) : Cell :=
  let r0 := c.scanRange 0
  let r1 := c.scanRange 1
  let r2 := c.scanRange 2
  let c := if r0.len ≠ 0 then c.retire 1 r0.base else c
  let c := if r1.len ≠ 0 && (r0.len = 0 || r1.base ≠ r0.base) then c.retire 1 r1.base else c
  let c := if r2.len ≠ 0 then c.retire 2 r2.base else c
  ((c.setRange 0 noRange).setRange 1 noRange).setRange 2 noRange

/-! Fetch (R331, R345) -/

/-- The tag of line `l` of the frame that has `frame` as its FrameCount. -/
def lineTag (frame l : Nat) : Nat := frame * 4096 + l

/-- The fetch of line `l` of that frame starts. -/
def Cell.fetchLine (c : Cell) (frame l : Nat) : Cell :=
  if c.frame K.OverlayEnable = 0 || c.frame K.Vactive ≤ l then c else
  let c := c.ask .overlay ⟨c.frame K.OverlayBase + l * c.frame K.OverlayStride, ceilDiv (c.frame K.Hactive) 4, none, lineTag frame l⟩
  { c with ras := { c.ras with stores := c.ras.stores ++ [⟨lineTag frame l, []⟩] } }

/-- The first 8 lines of the frame that comes. -/
def Cell.fetchFrame (c : Cell) : Cell :=
  let c := (c.setRequests .overlay [])
  let c : Cell := { c with ras := { c.ras with stores := [] } }
  (List.range 8).foldl (fun c l => c.fetchLine (c.get K.FrameCount + 1) l) c

/-- The base of a cursor fetch that has completed retires, and range 2 is empty (R343). -/
def Cell.retireCursor (c : Cell) : Cell :=
  if !c.ras.cursorDue then c else
  let c := ((c.retire 2 (c.scanRange 2).base)).setRange 2 noRange
  { c with ras := { c.ras with cursorDue := false } }

/-- An application with the cursor on: its image becomes range 2; a base that waited there retires (R331, R343). -/
def Cell.installCursor (c : Cell) : Cell :=
  if c.frame K.CursorEnable = 0 then c else
  let c := c.retireCursor
  let old := c.scanRange 2
  let base := c.frame K.CursorBase
  let c := if old.len ≠ 0 && old.base ≠ base then c.retire 2 old.base else c
  let c := c.setRange 2 ⟨base, 1024⟩
  let tag := c.ras.cursorTag + 1
  { c with ras := { c.ras with cursorNext := some ⟨tag, []⟩, cursorTag := tag, cursorLate := false } }

/-- The cursor fetch that waits starts. -/
def Cell.fetchCursor (c : Cell) : Cell :=
  match c.ras.cursorNext with
  | some s => if s.stooks.isEmpty && (c.requestsOf .cursor).all (fun r => r.tag != s.tag)
      then c.setRequests .cursor [⟨c.frame K.CursorBase, 1024, none, s.tag⟩] else c
  | none => c

/-- A stook of the cursor image that arrives: with the last it is complete (R331). -/
def Cell.cursorStook (c : Cell) (s : LineStore) (f : Fetched) : Cell :=
  let s : LineStore := { s with stooks := s.stooks ++ [f] }
  { c with ras :=
    if s.stooks.length < 1024 then { c.ras with cursorNext := some s }
    else { c.ras with cursorNext := none, cursorReady := some s.stooks, cursorDue := true } }

/-- An overlay or cursor stook arrives (R345, R346): one whose line has been sent, or whose image is no longer wanted, is discarded. -/
def Cell.rasterData (c : Cell) (p : Party) (tag v : Nat) : Cell :=
  let bad := (decodeStook v).bad
  let f : Fetched := ⟨payload v, !bad⟩
  let note (c : Cell) : Cell := if bad then c.inc32 K.OverlayPoisonCount else c
  match p with
  | .cursor =>
    match c.ras.cursorNext with
    | some s => if s.tag = tag then (note c).cursorStook s f else c
    | none => c
  | _ =>
    if c.ras.stores.any (fun s => s.tag == tag) then
      { note c with ras := { c.ras with
        stores := c.ras.stores.map (fun s => if s.tag = tag then { s with stooks := s.stooks ++ [f] } else s) } }
    else c

/-- CURSOR_FETCH_DONE: the image is complete; range 2 retires (R331, R343). -/
def execCursorFetchDone (n : CellNo) (w : When) (s : State) : Out :=
  onCell s n w (fun _ c => c.retireCursor)

/-! Frames -/

/-- The density layer of the frame that starts: geometry from the layout in force, and the reference count (R332, R333). -/
def Cell.startDensity (c : Cell) : Cell :=
  let m := c.frame K.DensityMap
  if c.frame K.DensityEnable = 0 then { c with ras := { c.ras with density := none, densityMap := none, peak := 0 } } else
  let full := c.frame K.DensityFull
  let f := if full ≠ 0 then full else if c.ras.densityMap = some m then max 1 c.ras.peak else 65536
  let g := match (if m = 0 then c.acc.laid.map0 else c.acc.laid.map1) with
    | some (x, y, b) => some (DensityGeometry.mk m x y b)
    | none => none
  let c := c.put K.DensityPeakApplied f
  { c with ras := { c.ras with density := g, densityMap := some m, peak := 0 } }

/-- The new cursor image is in place from a frame start at which it is complete; a late one is counted (R331). -/
def Cell.startCursor (c : Cell) : Cell :=
  let c : Cell := { c with ras := { c.ras with cursor := c.ras.cursorReady.getD c.ras.cursor, cursorReady := none } }
  if c.ras.cursorNext.isNone || c.ras.cursorLate then c
  else { c.inc32 K.CursorLateCount with ras := { c.ras with cursorLate := true } }

/-- A frame starts (R335, R336, R343, R344). -/
def Cell.frameStart (c : Cell) : Cell :=
  let rate := match c.ras.frameNs with
    | some t => if c.frame K.DsiMode = 2 && t < c.nowNs then 1000000000000 / (c.nowNs - t) else c.get K.FrameRateApplied
    | none => c.get K.FrameRateApplied
  let c := ((c.inc64 K.FrameCount).put K.FrameRateApplied (rate % 2 ^ 32)).moveRanges
  let c : Cell := { c with mem := { c.mem with tornNow := c.mem.tornNext, tornNext := false } }
  let c := (c.startCursor).startDensity
  { c with ras := { c.ras with active := true, line := 0, underran := false, frameNs := some c.nowNs,
                               link := { c.ras.link with lanes := .frame, clock := true, deskew := false }
                               period := c.ras.frameNs.map (fun t => c.nowNs - t) } }

/-- FRAME_START of a video frame (R335). -/
def execFrameStart (n : CellNo) (w : When) (s : State) : Out :=
  onCell s n w (fun _ c =>
    let st := c.get K.RasterState
    if (st = 2 || (st = 4 && !c.ras.ending)) && c.frame K.DsiMode ≠ 2 && !c.ras.active then c.frameStart else c)

/-- LINE_START: the next line is composed and sent; its missing stooks are transparent; the fetch 8 lines ahead starts (R329, R345).
`flips` are storage errors of the accumulator stooks it reads. -/
def execLineStart (n : CellNo) (w : When) (flips : List (Nat × Nat)) (s : State) : Out :=
  onCell s n w (fun _ c =>
    let y := c.ras.line
    if !c.ras.active || c.frame K.Vactive ≤ y then c else
    let frame := c.get K.FrameCount
    let c := c.fetchLine frame (y + 8)
    let tag := lineTag frame y
    let stooks := match c.ras.stores.find? (fun s => s.tag == tag) with | some s => s.stooks | none => []
    let short := c.frame K.OverlayEnable != 0 && stooks.length < ceilDiv (c.frame K.Hactive) 4
    let c := if short then c.inc32 K.UnderrunCount else c
    let c := if short && !c.ras.underran then c.inc32 K.UnderrunFrames else c
    let c := c.setRequests .overlay ((c.requestsOf .overlay).filter (fun r => r.tag != tag))
    let (px, c) := c.composeLine flips stooks y
    { c with ras := { c.ras with line := y + 1, underran := c.ras.underran || short, pixels := px,
                                 link := { c.ras.link with sent := c.linePackets px y },
                                 stores := c.ras.stores.filter (fun s => s.tag != tag) } })

/-- The mode in force is shown (R348). -/
def Cell.showMode (c : Cell) : Cell :=
  let c := c.put K.RasterClass (sizeClass c.frm)
  if c.frame K.DsiMode = 2 then c.put K.FrameRateApplied 0
  else c.put K.FrameRateApplied (fval c.frm K.PixelClock * 1000 / max 1 (hTotal c.frm * vTotal c.frm) % 2 ^ 32)

/-- An application: the shadows are in force (R339, R341). -/
def Cell.applyFrame (c : Cell) (sh : Regs × Doms) : Cell :=
  let c : Cell := { c with frm := sh.1, frmDoms := sh.2 }
  let c : Cell := { c with ras := { c.ras with link := { c.ras.link with inverted := c.frame K.DsiPolaritySwap % 32 } } }
  let c := ((c.pulse 18).inc32 K.ApplyCount).put K.LastApplyFrame ((c.get K.FrameCount + 1) % 2 ^ 64)
  c.showMode.installCursor

/-- The end of the blank frame that follows the present one when the mode changes: after its front porch, one frame time of the old
mode (R342). -/
def Cell.blankUntil (c : Cell) : Nat :=
  if c.frame K.DsiMode = 2 then c.nowNs + c.ras.period.getD 16700000
  else c.nowNs + (c.frame K.Vfront + vTotal c.frm) * hTotal c.frm * 1000000000 / max 1 (c.frame K.PixelClock)

/-- The shadows that a blanking start applies: those taken, or in the small class those of a pending commit (R339). -/
def Cell.toApply (c : Cell) : Option (Regs × Doms) :=
  match c.ras.taken with
  | some t => some t
  | none => if sizeClass c.frm = 0 && c.flag K.RasterCommitPending then some c.shadows else none

/-- The link in the blanking of a frame: in command mode the lanes return to LP-11, between frames the clock lane runs if it is
continuous, and periodic skew calibration runs where it is set (R336, R337). -/
def Cell.blankLink (c : Cell) : DsiLink :=
  { c.ras.link with lanes := if c.frame K.DsiMode = 2 then .stop else c.ras.link.lanes, clock := c.frame K.ClockContinuous != 0,
                    deskew := c.frame K.PeriodicDeskew != 0 }

/-- A lane rate that needs skew calibration at a start (R337). -/
def needsDeskew (r : Regs) : Bool := 1500 ≤ fval r K.DsiLaneRate

/-- The link in the blank frame between two modes (R342). -/
def DsiLink.between (l : DsiLink) (old new : Regs) : DsiLink :=
  let video : Bool := fval old K.DsiMode != 2 && fval new K.DsiMode != 2
  if video && fval old K.DsiLaneRate = fval new K.DsiLaneRate && fval old K.DsiLanes = fval new K.DsiLanes
  then { l with lanes := .blank (timingOf old) }
  else { l with lanes := .retune, clock := false, deskew := needsDeskew new }

/-- The shadows `sh` apply at a blanking start, and the commit they served is no longer pending (R339). -/
def Cell.applyAt (c : Cell) (sh : Regs × Doms) : Cell :=
  let c := if c.ras.taken.isNone then c.installOverlay sh.1 else c
  let c := (c.applyFrame sh).put K.RasterCommitPending (b2n c.ras.second)
  { c with ras := { c.ras with taken := none, second := false } }

/-- VBLANK_START: blanking starts; shadows apply, a new mode blanks one frame, and the fetch of the next frame begins, but behind the last
frame before a stop (R335, R338, R339, R341, R342, R345). -/
def execVblankStart (n : CellNo) (w : When) (s : State) : Out :=
  onCell s n w (fun _ c =>
    if !c.ras.active || c.ras.line < c.frame K.Vactive then c else
    let c := c.pulse 17
    let last : Bool := c.get K.RasterState = 4
    let c : Cell := { c with ras := { c.ras with active := false, endNs := some c.nowNs, teNeed := 1, ending := last
                                                 link := c.blankLink } }
    let c := if c.frame K.DsiMode = 2 && !last then c.put K.RasterState 5 else c
    match c.toApply with
    | none => if last then c else (c.fetchFrame).fetchCursor
    | some sh =>
      let old := c.frm
      let c : Cell := { c with ras := { c.ras with blankEnd := c.blankUntil } }
      let c := c.applyAt sh
      if last then c
      else if timingOf sh.1 ≠ timingOf old then
        { c.put K.RasterState 3 with ras := { c.ras with teNeed := 0, stores := [], link := c.ras.link.between old sh.1 } }
      else (c.fetchFrame).fetchCursor)

/-- The lanes of a mode that starts: LP-11 until the panel's frame in command mode, else the frame, from its first Vsync line. -/
def Cell.openLink (c : Cell) (cmd : Bool) : Cell :=
  { c with ras := { c.ras with link := { c.ras.link with lanes := if cmd then .stop else .frame
                                                         clock := !cmd || c.frame K.ClockContinuous != 0, deskew := false } } }

/-- MODE_SWITCH_END: the blank frame ends, after one frame time of the old mode.  The new mode starts at its first line; in command
mode it waits for two TE edges
(R342). -/
def execModeSwitchEnd (n : CellNo) (w : When) (s : State) : Out :=
  onCell s n w (fun _ c =>
    if c.get K.RasterState ≠ 3 || c.ras.teNeed ≠ 0 || c.nowNs < c.ras.blankEnd then c else
    let c := (c.fetchFrame).fetchCursor
    let cmd : Bool := c.frame K.DsiMode = 2
    let c := c.openLink cmd
    if cmd then { c with ras := { c.ras with teNeed := 2 } } else (c.put K.ModeSwitched 1).put K.RasterState 2)

/-- COMMIT_SAMPLE, in the largest class: at the start of line Vactive − CommitLeadLines the shadows of a pending commit are taken
(R339, R343). -/
def execCommitSample (n : CellNo) (w : When) (s : State) : Out :=
  onCell s n w (fun _ c =>
    let here := c.ras.active && sizeClass c.frm = 1 && c.ras.line = c.frame K.Vactive - c.frame K.CommitLeadLines + 1
    if here && c.flag K.RasterCommitPending && c.ras.taken.isNone then
      let sh := c.shadows
      { c.installOverlay sh.1 with ras := { c.ras with taken := some sh } }
    else c)

/-- RASTER_COMMIT (R339, R340): the shadows are checked and a commit is pending; one that misses its sample instant is late. -/
def execRasterCommit (n : CellNo) (w : When) (p : Port) (s : State) : Out :=
  onCellRecord s n w p K.RasterCommit (fun _ c =>
    let code := c.rasterCheck c.shadows.1
    let c := c.put K.RasterConfigError code
    if code ≠ 0 then (c, abortValue) else
    let late := c.ras.active && sizeClass c.frm = 1 && c.frame K.Vactive - c.frame K.CommitLeadLines < c.ras.line
    let c := if late then (c.put K.CommitLate 1).inc32 K.CommitLateCount else c
    ({ c.put K.RasterCommitPending 1 with ras := { c.ras with second := c.ras.second || c.ras.taken.isSome } }, 0))

/-! Tearing effect (R336) -/

/-- The panel's frame starts: from an accepted edge, or without one. -/
def Cell.teFrame (c : Cell) : Cell :=
  let c := if c.get K.RasterState = 3 then c.put K.ModeSwitched 1 else c
  (c.put K.RasterState 2).frameStart

/-- TE_EDGE: an edge of Cn_TE in command mode (R336, R338, R342). -/
def execTeEdge (n : CellNo) (w : When) (rising : Bool) (s : State) : Out :=
  onCell s n w (fun _ c =>
    let st := c.get K.RasterState
    if c.frame K.DsiMode ≠ 2 || st = 0 || rising != (c.frame K.TePolarity == 0) then c else
    let soon : Bool := sizeClass c.frm = 1 && match c.ras.frameNs with | some t => decide (c.nowNs < t + 16640000) | none => false
    if (st = 5 || st = 3) && c.ras.teNeed ≠ 0 && !soon then
      let c : Cell := { c with ras := { c.ras with teNeed := c.ras.teNeed - 1 } }
      if c.ras.teNeed = 0 then c.teFrame else c
    else c.inc32 K.TeSkippedCount)

/-- TE_TIMEOUT: no edge within TeTimeout of the end of a transfer (R336). -/
def execTeTimeout (n : CellNo) (w : When) (s : State) : Out :=
  onCell s n w (fun _ c =>
    match c.ras.endNs with
    | some t =>
      if c.get K.RasterState = 5 && c.ras.teNeed = 1 && c.frame K.TeTimeout ≠ 0 && t + c.frame K.TeTimeout * 1000000 ≤ c.nowNs then
        ({ c.inc32 K.TeMissingCount with ras := { c.ras with teNeed := 0 } } : Cell).teFrame
      else c
    | none => c)

/-! Start and stop (R338) -/

/-- The packets and waits of a DsiStartup list (R338). -/
def startupItems : Nat → List Byte → List DsiItem
  | n + 1, t :: l0 :: l1 :: bs =>
    let len := l0.toNat + 256 * l1.toNat
    if t = 0xFF then .wait len :: startupItems n bs else .packet t.toNat (bs.take len) :: startupItems n (bs.drop len)
  | _, _ => []

/-- RASTER_ENABLE: the shadows are checked, and the output starts up: skew calibration where the rate needs it, then the DsiStartup list in
low power.  Without effect while it is not stopped. -/
def Cell.enableRaster (c : Cell) : Cell × Nat :=
  if c.get K.RasterState ≠ 0 then (c, 0) else
  let code := c.rasterCheck c.shadows.1
  let c := c.put K.RasterConfigError code
  if code ≠ 0 then (c, abortValue) else
  let c := ((c.put K.RasterEnable 1).put K.RasterState 1).put K.FrameCount 0
  let sh := c.shadows.1
  let link : DsiLink := ⟨.startup, false, fval sh K.DsiPolaritySwap % 32, needsDeskew sh, startupItems 1024 (c.dom K.DsiStartup [])⟩
  ({ c with ras := { c.ras with active := false, ending := false, frameNs := none, period := none, endNs := none, densityMap := none,
                                link := link } }, 0)

def execRasterEnable (n : CellNo) (w : When) (p : Port) (s : State) : Out :=
  onCellRecord s n w p K.RasterEnable (fun _ c => c.enableRaster)

/-- RASTER_DISABLE: the current frame completes (R338). -/
def Cell.disableRaster (c : Cell) : Cell :=
  if c.get K.RasterState = 0 then c else (c.put K.RasterEnable 0).put K.RasterState 4

def execRasterDisable (n : CellNo) (w : When) (p : Port) (s : State) : Out :=
  onCellPort s n w p K.RasterEnable (fun _ c => .ok c.disableRaster)

/-- RASTER_FIRST_FRAME: after start-up the first frame starts from the shadows, which counts as an applied commit; in command mode
it waits for two accepted TE edges (R338, R341). -/
def execRasterFirstFrame (n : CellNo) (w : When) (s : State) : Out :=
  onCell s n w (fun _ c =>
    if c.get K.RasterState ≠ 1 then c else
    let sh := c.shadows
    let c := (((c.installOverlay sh.1).applyFrame sh).put K.RasterCommitPending 0)
    let cmd := c.frame K.DsiMode = 2
    let c : Cell := { c.openLink cmd with ras := { (c.openLink cmd).ras with taken := none, second := false, teNeed := 2 } }
    ((c.put K.RasterState (if cmd then 5 else 2)).fetchFrame).fetchCursor)

/-- RASTER_STOPPED: the last frame has completed; the lanes go to LP-11 and every range retires (R338, R343). -/
def execRasterStopped (n : CellNo) (w : When) (s : State) : Out :=
  onCell s n w (fun _ c =>
    if c.get K.RasterState ≠ 4 || c.ras.active then c else
    let c := ((c.retireAll).put K.RasterState 0).put K.FrameRateApplied 0
    let c := (c.setRequests .overlay []).setRequests .cursor []
    { c with mem := { c.mem with tornNext := false }
             ras := { c.ras with stores := [], cursorReady := none, cursorNext := none, cursorDue := false, taken := none, second := false
                                 ending := false, link := ⟨.stop, false, c.ras.link.inverted, false, []⟩ } })

/-- The packets of DsiStartup are well formed and of the types R338 allows. -/
def startupOk : Nat → List Byte → Bool
  | 0, bs => bs.isEmpty
  | _, [] => true
  | n + 1, t :: l0 :: l1 :: bs =>
    let len := l0.toNat + 256 * l1.toNat
    if t = 0xFF then startupOk n bs
    else [(0x03 : Byte), 0x13, 0x23, 0x05, 0x15, 0x29, 0x39].contains t && len ≤ bs.length && startupOk n (bs.drop len)
  | _, _ => false

/-- DSI_STARTUP_WRITE (R338). -/
def Cell.writeStartup (c : Cell) (data : List Byte) : Except Nat Cell :=
  if 1024 < data.length then .error abortTooLong
  else if !startupOk 1024 data then .error abortValue
  else .ok (c.putDom K.DsiStartup data)

def execDsiStartupWrite (n : CellNo) (w : When) (p : Port) (data : List Byte) (s : State) : Out :=
  onCellPort s n w p K.DsiStartup (fun _ c => c.writeStartup data)

/-- RASTER_COUNT_CLEAR: every counter of block cA02h (R350). -/
def execRasterCountClear (n : CellNo) (w : When) (p : Port) (s : State) : Out :=
  onCellPort s n w p K.RasterCountClear (fun _ c => .ok (c.clearCounters 0xA02 0xA02))

end Sys2Proof.Machine
end

