-- ==== Sys2Proof/Machine/Slots.lean ====
section
/-! DEFINITION. The command slots of deep memory (R54, R56, R278 to R281): fixed reads, open slots, the data that comes back, self-refresh
by idleness and its end (R285, R286); and the host's windows on a cell's memories (R263, R276, R322, R428, R431, R470). -/

namespace Sys2Proof.Machine

/-! Fixed reads (R278, R280) -/

/-- The memory cycle and the fixed read stream of a READ_DMA or READ_PORT slot: kind, target. -/
def Cell.readSlot (c : Cell) (a : SlotAt) : Option (Nat × Nat × Nat) :=
  match c.slotCycle a with
  | none => none
  | some m =>
    let b := c.slotByte a m
    if c.memServes && (b % 16 = 2 || b % 16 = 3) then some (c.absCycle m, b % 16, slotTargetOf b) else none

/-- The stook a fixed read stream offers to a channel. -/
def Cell.readOffer (c : Cell) (kind target : Nat) (ch : Fin 4) : Option Nat :=
  let s := if kind = 2 then c.fixedNext (Fin.ofNat 8 target) else c.playNext (Fin.ofNat 4 target)
  s.filter (fun s => channelOf s == ch)

/-- The stream has had its read accepted. -/
def Cell.noteFixed (c : Cell) (kind target : Nat) : Cell :=
  if kind = 2 then
    let k : Fin 8 := Fin.ofNat 8 target
    c.setChan k { c.chan k with fixedOut := (c.chan k).fixedOut + 1 }
  else
    let p : Fin 4 := Fin.ofNat 4 target
    c.setPlay p { c.playOf p with asked := (c.playOf p).asked + 1, outstanding := (c.playOf p).outstanding + 1 }

/-- FIXED_READ: the slot's stream offers a stook and the channel accepts its read (R278, R363, R378). -/
def execFixedRead (n : CellNo) (w : When) (a : SlotAt) (s : State) : Out :=
  onCell s n w (fun _ c =>
    match c.readSlot a with
    | none => c
    | some (m, kind, target) =>
      match c.readOffer kind target a.ch with
      | none => c
      | some t => ((c.runChannels m).fixedRead m kind target t).noteFixed kind target)

/-- FIXED_READ_DATA: the oldest fixed read delivers its stook, with the errors `flip` its device made (R278, R280). -/
def execFixedReadData (n : CellNo) (w : When) (flip : Nat) (s : State) : Out :=
  onCell s n w (fun g c =>
    match c.runMemory.takeFixed flip with
    | none => c
    | some (f, v, c) =>
      if f.kind = 2 then c.moverFixed g (Fin.ofNat 8 f.target) v else c.playData (Fin.ofNat 4 f.target) v)

/-! Open slots (R56, R281, R405) -/

/-- A stream of the drain holds something for the channel: a data stook, or an entry of its table. -/
def Cell.drainHolds (c : Cell) (i ch : Fin 4) : Bool :=
  let s := c.stream i
  let entry := s.active && ((c.segmentDue s).isSome || s.gapDue.isSome)
  c.drainOffers i ch || (entry && channelOf (c.entryStook i + b2n s.half.isSome) == ch)

/-- The memory cycle of a slot the open-slot arbiter may use: OPEN, or fixed with nothing offered (R56, R363, R378).  A retrain takes every
open slot of its grant (R405, R407; log entry 150). -/
def Cell.openSlot (c : Cell) (a : SlotAt) : Option Nat :=
  match c.slotCycle a with
  | none => none
  | some m =>
    let b := c.slotByte a m
    let free := match b % 16 with
      | 0 => true
      | 1 => !c.drainHolds (Fin.ofNat 4 (slotTargetOf b)) a.ch
      | k => (c.readOffer k (slotTargetOf b) a.ch).isNone
    if c.memServes && free && c.get K.HaywardHolder != 0 then some (c.absCycle m) else none

/-- Who learns that an open write has been accepted. -/
def Cell.noteAccepted (c : Cell) (p : Party) (tag : Nat) : Cell :=
  match p with
  | .mover => c.acceptedBy tag
  | .partner => c.partnerAccepted
  | _ => c

/-- OPEN_ADMIT: an open slot of the channel admits the first request in the arbiter's order whose bank queue has room (R281, R405). -/
def execOpenAdmit (n : CellNo) (w : When) (a : SlotAt) (s : State) : Out :=
  onCell s n w (fun _ c =>
    match c.openSlot a with
    | none => c
    | some m =>
      let c := (c.runChannels m).patSync
      match c.pickClass a.ch with
      | none => c
      | some cls =>
        match c.classParty a.ch cls with
        | none => c
        | some p =>
          match c.offer a.ch p with
          | none => c
          | some r =>
            let c := c.admitIt a.ch p r
            if r.write.isSome then c.noteAccepted p r.tag else c)

/-- SCRUB_READ: in an open slot that no other requester takes, scrub reads the stook at its pointer while it holds the hayward (R293,
R405). -/
def execScrubRead (n : CellNo) (w : When) (ch : Fin 4) (sub : Nat) (s : State) : Out :=
  onCell s n w (fun _ c =>
    match c.openSlot ⟨ch, sub⟩ with
    | none => c
    | some m =>
      let c := (c.runChannels m).patSync
      if c.get K.HaywardHolder ≠ 4 || c.capacity = 0 || (c.pickRanked ch).isSome then c else c.scrubRead ch)

/-! The host's reads of BAR2 (R276, R291, R428) -/

/-- Stooks a transfer of `len` bytes from offset `off` touches: the first, and how many. -/
def stookSpan (off len : Nat) : Nat × Nat := (off / 16, (off + len + 15) / 16 - off / 16)

def Cell.complete (c : Cell) (x : Completion) : Cell := { c with mem := { c.mem with completion := x } }

/-- A stook of the oldest host read has come; with the last the read completes. -/
def Cell.hostData (c : Cell) (v : Nat) : Cell :=
  let got := c.mem.gathered ++ [v]
  match c.mem.hostReads with
  | [] => c
  | (off, len) :: rest =>
    if got.length < (stookSpan off len).2 then { c with mem := { c.mem with gathered := got } } else
    let bytes := (((got.flatMap payloadBytes).drop (off % 16)).take len)
    Cell.complete { c with mem := { c.mem with gathered := [], hostReads := rest } }
      ⟨.success, bytes, got.any (fun v => (decodeStook v).bad)⟩

/-- OPEN_READ_DATA: the oldest admitted read of a party has issued and returns its data, to the merge of a partial write or to the party
(R283, R406). -/
def execOpenReadData (n : CellNo) (w : When) (p : Party) (flip : Nat) (s : State) : Out :=
  onCell s n w (fun g c =>
    let c := c.runMemory
    match c.takeFlight p flip with
    | none => c
    | some (f, d, c) =>
      if f.merge then c.mergeData f d else
      match p with
      | .overlay => c.rasterData p f.tag d.word
      | .cursor => c.rasterData p f.tag d.word
      | .pattern => c.patArrive f.tag d.word
      | .mover => c.moverData g f.tag d.word
      | .host => c.hostData d.word
      | .scrub => c.scrubData f d
      | .partner => c)

/-! Self-refresh by idleness (R285, R286) -/

def allPlays : List (Fin 4) := [0, 1, 2, 3]

/-- The active image gives playback stream `p` READ_PORT slots. -/
def Cell.hasPlaySlots (c : Cell) (p : Fin 4) : Bool :=
  match c.exe.active with
  | none => false
  | some m => m.slots.any (fun b => b.toNat % 16 == 3 && slotTargetOf b.toNat == p.val)

/-- A channel with READ_DMA slots holds a request: one that is pending, or the reads of its running burst still to come (R353, R363). -/
def Cell.chanAsks (c : Cell) (k : Fin 8) : Bool :=
  let x := c.chan k
  c.hasFixedSlots k && (!x.seen.isEmpty || (x.desc.any (·.fixed) && x.fixedOut < x.wants.length))

/-- A fixed read stream of the active image holds a DMA or port request (R285). -/
def Cell.fixedWaits (c : Cell) : Bool :=
  allChans.any c.chanAsks || allPlays.any (fun p => c.hasPlaySlots p && (c.playNext p).isSome)

/-- Something waits for, or stands in, the channels. -/
def Cell.memBusy (c : Cell) : Bool :=
  let waits := allParties.any (fun p => !(c.requestsOf p).isEmpty)
  let queued := fourChannels.any (fun ch =>
    (c.banksOf ch).fixed.any (fun q => !q.isEmpty) || (c.banksOf ch).queues.any (fun q => !q.isEmpty))
  waits || queued || c.fixedWaits

def Cell.streamsQuiet (c : Cell) : Bool :=
  allStreams.all (fun i => c.get (streamKey K.StreamState i) == 0 || c.get (streamKey K.StreamState i) == 3)

/-- SELF_REFRESH_ENTRY: the conditions of R285 have held for SelfRefreshIdle. -/
def execSelfRefreshEntry (n : CellNo) (w : When) (s : State) : Out :=
  onCell s n w (fun _ c =>
    let c := c.runMemory
    if c.memServes && c.flag K.SelfRefreshEnable && c.get K.ArmState = 0 && c.streamsQuiet && !c.memBusy &&
       c.mem.busyNs + 1000 * c.get K.SelfRefreshIdle ≤ c.nowNs
    then ((c.setChannels 2).put K.MemState 3).inc32 K.SelfRefreshEntries else c)

/-- MEM_WAKE: an open request has arrived, or a fixed read stream has a request (R286). -/
def execMemWake (n : CellNo) (w : When) (s : State) : Out :=
  onCell s n w (fun _ c => if allParties.any (fun p => !(c.requestsOf p).isEmpty) || c.fixedWaits then c.startWake else c)

/-! The windows of BAR2 and BAR4 -/

/-- Bytes of a cell's window in BAR2 and in BAR4. -/
abbrev bar2Window : Nat := 2 ^ 34
abbrev bar4Window : Nat := 2 ^ 28

/-- No TLP carries more than 4,096 bytes, and none leaves the BAR (R426). -/
def badTlp (n : CellNo) (window off len : Nat) : Bool := 4096 < len || 4 * window < n.val * window + off + len

/-- A cell that is wiped, or held in reset, refuses its windows (R470, R490). -/
def State.refusesHost (s : State) (n : CellNo) : Bool := (s.cell n).held || wiping s.glob n

/-- The cell after an access it refuses: a read completes with Completer Abort, a write is dropped; both are counted (R470). -/
def State.refuseHost (s : State) (n : CellNo) (w : When) (read : Bool) : State :=
  let c := s.cellAt n w
  let s := s.close n w (if read then c.complete ⟨.aborted, [], false⟩ else c)
  { s with glob := s.glob.inc32 G.WipeAccessRefused }

/-- The cell is parked on its bypass clock: SEARCH or HOLDOFF (R111, R115). -/
def Cell.parked (c : Cell) : Bool := c.get K.ClockState = 2 || c.get K.ClockState = 3

/-- Stooks of a transfer at or beyond the capacity (R277). -/
def Cell.unmappedOf (c : Cell) (first count : Nat) : Nat := min count (first + count - c.capacity)

/-- BAR2_READ: a host read of `len` bytes from window offset `off` (R115, R276, R277, R470). -/
def execBar2Read (n : CellNo) (w : When) (off len : Nat) (s : State) : Out :=
  if badTlp n bar2Window off len then .fault .malformedTlp
  else if s.refusesHost n then .next (s.refuseHost n w true)
  else onCell s n w (fun _ c =>
    let (f, k) := stookSpan off len
    if c.parked then c.complete ⟨.aborted, [], false⟩
    else if c.capacity < f + k then (c.add32 K.UnmappedAccessCount (c.unmappedOf f k)).complete ⟨.unsupported, [], false⟩
    else if k = 0 then c.complete ⟨.success, [], false⟩
    else Cell.ask { c with mem := { c.mem with hostReads := c.mem.hostReads ++ [(off, len)] } } .host ⟨f, k, none, 0⟩)

/-- Bytes with their addresses; a byte that is not enabled is left out. -/
def enabledBytes (off : Nat) (data : List Byte) (enables : List Bool) (ep : Bool) : List (Nat × Byte × Bool) :=
  ((List.range data.length).zip (data.zip enables)).filterMap (fun e => if e.2.2 then some (off + e.1, e.2.1, ep) else none)

/-- The stook writes of a transfer: one for each stook it touches. -/
def mergeByStook : List StookWrite → List StookWrite
  | [] => []
  | x :: xs =>
    match mergeByStook xs with
    | y :: ys =>
      if x.stook = y.stook then
        ⟨x.stook, ⟨x.write.payload + y.write.payload, x.write.mask + y.write.mask, x.write.poison || y.write.poison⟩⟩ :: ys
      else x :: y :: ys
    | [] => [x]

def hostWrites (off : Nat) (data : List Byte) (enables : List Bool) (ep : Bool) : List StookWrite :=
  mergeByStook (stookWrites (enabledBytes off data enables ep))

/-- BAR2_WRITE: a host write with byte enables; one marked poisoned is written in poison form (R115, R276, R277, R283, R428, R470). -/
def execBar2Write (n : CellNo) (w : When) (off : Nat) (data : List Byte) (enables : List Bool) (ep : Bool) (s : State) : Out :=
  if badTlp n bar2Window off data.length then .fault .malformedTlp
  else if s.refusesHost n then .next (s.refuseHost n w false)
  else onCell s n w (fun _ c =>
    if c.parked then c.inc32 K.ParkedAccessCount else
    (hostWrites off data enables ep).foldl (fun c x =>
      if c.capacity ≤ x.stook then c.inc32 K.UnmappedAccessCount else c.ask .host ⟨x.stook, 1, some x.write, 0⟩) c)

/-! BAR4 (R431) -/

/-- The memory of a window offset: space (2 capture buffer, 3 accumulator, 4 descriptor SRAM, as the mover numbers them), its first
offset and its mapped bytes. -/
def bar4Space (off : Nat) : Nat × Nat × Nat :=
  if off < 0x4000000 then (2, 0, 16 * capturePlaces)
  else if off < 0x5000000 then (3, 0x4000000, 4 * accWords)
  else (4, 0x5000000, 65536)

/-- The stooks of a read, in order: the words, and whether one came poisoned. -/
def Cell.bar4Stooks (c : Cell) (space first : Nat) (flips : List (Nat × Nat)) : Nat → List Nat × Bool × Cell
  | 0 => ([], false, c)
  | k + 1 =>
    let flip := flipOf flips first
    let (v, bad, c) : Nat × Bool × Cell := match space with
      | 2 => c.readBuffer flip first
      | 3 => let r := c.accRead flip first; (r.1.word, r.1.bad, r.2)
      | _ => let r := c.readSram flip first; (r.1.word, r.1.bad, r.2)
    let (vs, bads, c) := c.bar4Stooks space (first + 1) flips k
    (v :: vs, bad || bads, c)

/-- BAR4_READ: whole stooks as they stand in the cc of the read; `flips` are storage errors by stook (R253, R263, R322, R431, R470). -/
def execBar4Read (n : CellNo) (w : When) (off len : Nat) (flips : List (Nat × Nat)) (s : State) : Out :=
  if badTlp n bar4Window off len then .fault .malformedTlp
  else if s.refusesHost n then .next (s.refuseHost n w true)
  else onCell s n w (fun _ c =>
    let (space, base, size) := bar4Space off
    if base + size < off + len then c.complete ⟨.unsupported, [], false⟩ else
    let (f, k) := stookSpan (off - base) len
    let (vs, bad, c) := c.bar4Stooks space f flips k
    c.complete ⟨.success, ((vs.flatMap payloadBytes).drop (off % 16)).take len, bad⟩)

/-- The stook writes of one write to an on-die memory; a refused write is dropped whole and counted once (R263, R322). -/
def Cell.bar4Store (c : Cell) (space : Nat) (xs : List StookWrite) : Cell :=
  let all (f : Cell → StookWrite → Option Cell) : Option Cell := xs.foldl (fun r x => r.bind (fun c => f c x)) (some c)
  match space with
  | 2 => (all Cell.writeBuffer).getD (c.inc32 K.DirectWriteDropped)
  | 3 => (all Cell.writeAcc).getD (c.inc32 K.AccWriteDropped)
  | _ => { c with dma := { c.dma with sram := xs.foldl (fun m x => writeTier m x.stook x.write) c.dma.sram } }

/-- BAR4_WRITE: covered bytes change and the check symbols are recomputed, or the write is dropped; one marked poisoned is written in
poison form (R263, R322, R428, R431, R470). -/
def execBar4Write (n : CellNo) (w : When) (off : Nat) (data : List Byte) (enables : List Bool) (ep : Bool) (s : State) : Out :=
  if badTlp n bar4Window off data.length then .fault .malformedTlp
  else if s.refusesHost n then .next (s.refuseHost n w false)
  else onCell s n w (fun _ c =>
    let (space, base, size) := bar4Space off
    c.bar4Store space ((hostWrites (off - base) data enables ep).filter (fun x => 16 * x.stook < size)))

end Sys2Proof.Machine
end

