-- ==== Sys2Proof/Machine/HostPort.lean ====
section
/-! DEFINITION. The PCI Express endpoint: link, configuration space, the host area of BAR0, MSI-X and INT_N, and the host-port reset
(R425 to R434, R492, R493). -/

namespace Sys2Proof.Machine

/-! MSI-X (R432, R433) -/

/-- A byte of the MSI-X table: an unlisted one holds its reset value, with every vector masked. -/
def HostPort.tableByte (h : HostPort) (a : Nat) : Nat := (kvFind a h.table).getD (if a % 16 = 12 then 1 else 0)
def HostPort.masked (h : HostPort) (v : Nat) : Bool := bit (h.tableByte (16 * v + 12)) 0

/-- A message of a vector that is not masked can leave now. -/
def Glob.canSend (g : Glob) : Bool := hostUp g && g.hst.msixEnable && !g.hst.functionMask

/-- A trigger for vector `v`: FFh maps to none (R432); it is dropped, merged, held pending or sent (R433). -/
def Glob.signal (g : Glob) (v : Nat) : Glob :=
  if 127 < v then g else
  if !g.hst.msixEnable || g.hst.functionMask then g.inc32 G.MsiDroppedCount
  else if bit g.hst.pba v then g.inc32 G.MsiMergedCount
  else if g.hst.masked v || !hostUp g then { g with hst := { g.hst with pba := setBit g.hst.pba v } }
  else { g with hst := { g.hst with sent := g.hst.sent ++ [v] } }

/-- Pending messages whose vector can send now leave, the lowest vector first. -/
def Glob.flushMsi (g : Glob) : Glob :=
  if !g.canSend then g else
  let due := (List.range 128).filter (fun v => bit g.hst.pba v && !g.hst.masked v)
  { g with hst := { g.hst with sent := g.hst.sent ++ due, pba := due.foldl clrBit g.hst.pba } }

def Glob.noSent (g : Glob) : Glob := { g with hst := { g.hst with sent := [] } }

/-- A sticky bit of IntStatus sets (R434). -/
def Glob.raiseInt (g : Glob) (i : Nat) : Glob := g.put G.IntStatus (setBit (g.get G.IntStatus) i)

/-- INT_N is driven low (R434). -/
def Glob.intN (g : Glob) : Bool := (g.get G.IntStatus &&& g.get G.IntMask) != 0

/-- The IntStatus bit and the vector of a source that is no event line (R432, R434). -/
def IntSrc.bitOf : IntSrc → Nat
  | .dmaAbort n => n.val
  | .dictError => 12
  | .notice => 13
  | .wideDone => 14

def IntSrc.key : IntSrc → Nat
  | .dmaAbort n => G.DmaAbortVector + n.val
  | .dictError => G.DictErrorVector
  | .wideDone => G.WideDoneVector
  | .notice => G.NoticeVector

/-- MSIX_TRIGGER: the oldest trigger of the sources that are no event lines, or a pulse of an event line seen in this cycle (R432 to
R434). -/
def execMsixTrigger (w : When) (line : Option (CellNo × Fin 64)) (s : State) : Out :=
  onGlob s w.ns (fun g =>
    let g := g.noSent
    match line with
    | none =>
      match g.trigs with
      | [] => g
      | i :: rest => (({ g with trigs := rest }).raiseInt i.bitOf).signal (g.get i.key)
    | some (n, l) =>
      if !Cell.sees { s.cell n with now := w.cc } l.val then g else
      let g := if l = 58 then g.raiseInt (4 + n.val) else if l = 56 then g.raiseInt (8 + n.val) else g
      g.signal (g.get (G.EventVector + 0x100 * n.val + l.val)))

/-- INT_CLEAR: the bits written clear (R434); a source that triggers in the same cycle does so after it. -/
def execIntClear (ns : Nat) (p : Port) (value : Nat) (s : State) : Out :=
  onGlobPort s ns p G.IntClear (fun g => .ok (g.put G.IntStatus ((g.get G.IntStatus &&& (0xFFFF ^^^ value % 65536)))))

/-! The link and the configuration space (R425, R427, R493) -/

/-- The host port has become able to send: waiting writes and messages leave (R362, R433). -/
def State.hostReady (s : State) : State :=
  if hostUp s.glob then { s with glob := s.glob.flushMsi, cells := s.cells.map Cell.flushHost } else s

/-- PCIE_LINK_CHANGE: training completes with speed code `speed`, 2^`width` lanes and the payload and read request sizes of codes `mps` and
`mrrs`, or the link is lost with speed code 0 (R425, R443).  At 64 GT/s flit mode is always in use. -/
def execPcieLinkChange (ns : Nat) (speed : Fin 7) (width : Fin 5) (flit : Bool) (mps : Fin 3) (mrrs : Fin 6) (s : State) : Out :=
  if s.glob.mgmt.boot = .off || (s.glob.hst.perst && speed ≠ 0) then .next { s with glob := s.glob.at ns } else
  let g := (s.glob.at ns).noSent
  let g := (g.put G.LinkSpeed speed.val).put G.LinkWidth (if speed = 0 then 0 else 2 ^ width.val)
  let g := g.put G.FlitMode (b2n (speed != 0 && (flit || speed == 6)))
  let g := if speed = 0 then g else (g.put G.MpsApplied (128 * 2 ^ mps.val)).put G.MrrsApplied (128 * 2 ^ mrrs.val)
  .next ({ s with glob := g }).hostReady

/-- The completion timeout of an encoding (R427); one the table leaves out is a free value. -/
def timeoutNs (code : Nat) : Nat :=
  match code with
  | 0 => 40000000 | 1 => 90000 | 2 => 9000000 | 5 => 40000000 | 6 => 200000000 | 9 => 900000000 | 10 => 3500000000
  | 13 => 13000000000 | 14 => 60000000000
  | c => Config.completionTimeout c

/-- The code of a payload or read request size. -/
def sizeCode (bytes : Nat) : Nat := Nat.log2 (bytes / 128)

/-- What the fields of a register hold that R425, R427, R428 or R433 gives, at their places in the PCI Express configuration space; its
other fields are left out. -/
def Glob.configRead (g : Glob) (r : ConfigReg) : Nat :=
  match r with
  | .identity => Config.vendorId % 65536 + 0x4160 * 65536
  | .classCode => 0x118000
  | .subsystem => Config.vendorId % 65536
  | .interruptPin => 0
  | .command => 4 * b2n g.hst.busMaster
  | .deviceControl => 32 * sizeCode (g.get G.MpsApplied) + 4096 * sizeCode (g.get G.MrrsApplied)
  | .deviceControl2 => g.hst.timeoutCode + 16 * b2n g.hst.timeoutOff
  | .msixControl => 127 + 0x4000 * b2n g.hst.functionMask + 0x8000 * b2n g.hst.msixEnable
  | .power => if g.hst.d3hot then 3 else 0
  | .link => g.get G.LinkSpeed + 16 * g.get G.LinkWidth
  | .errors => 0x1000 * b2n g.hst.poisonedTlp

/-- A request to the configuration space that the manual gives an effect. -/
def Glob.configure (g : Glob) (op : ConfigOp) : Glob :=
  match op with
  | .read r => { g with hst := { g.hst with configData := g.configRead r } }
  | .power d3hot => { g with hst := { g.hst with d3hot := d3hot } }
  | .clearErrors => { g with hst := { g.hst with poisonedTlp := false } }
  | .command master => { g with hst := { g.hst with busMaster := master } }
  | .device mps mrrs => (g.put G.MpsApplied (128 * 2 ^ min mps.val 2)).put G.MrrsApplied (128 * 2 ^ min mrrs.val 5)
  | .device2 code off =>
    { g.put G.CompletionTimeoutNs (if off then 0 else timeoutNs code.val) with
      hst := { g.hst with timeoutCode := code.val, timeoutOff := off } }
  | .msix enable mask => { g with hst := { g.hst with msixEnable := enable, functionMask := mask } }

/-- CONFIG_REQUEST: served, or answered with RRS until the boot ROM has read the fuses, at most up to `readyBy` (R493). -/
def execConfigRequest (ns : Nat) (ready : Bool) (op : ConfigOp) (s : State) : Out :=
  let g := (s.glob.at ns).noSent
  if g.mgmt.boot = .off || g.get G.LinkSpeed = 0 then .next { s with glob := g } else
  if !ready && ns < g.hst.readyBy then .next { s with glob := { g with hst := { g.hst with rrs := true } } } else
  .next ({ s with glob := ({ g with hst := { g.hst with rrs := false } }).configure op }).hostReady

/-! The host area (R430) -/

/-- One byte written to the host area. -/
def HostPort.putByte (h : HostPort) (a : Nat) (b : Byte) : HostPort :=
  if a < 0x8000 then { h with wide := memPut a b h.wide }
  else if a < 0x8800 then
    { h with table := regPut (if (a - 0x8000) % 16 = 12 then 1 else 0) (a - 0x8000) b.toNat h.table }
  else h

/-- One byte read from the host area. -/
def HostPort.byteAt (h : HostPort) (a : Nat) : Byte :=
  if a < 0x8000 then memGet h.wide a
  else if a < 0x8800 then BitVec.ofNat 8 (h.tableByte (a - 0x8000))
  else if 0x9000 ≤ a && a < 0x9010 then BitVec.ofNat 8 (bits h.pba (8 * (a - 0x9000)) 8)
  else 0

/-- A BAR0 access that fails outside the entry slots is recorded with its code (R428 to R430). -/
def Glob.hostAreaFailed (g : Glob) (code : Nat) : Glob := g.failed .pcie 0 0 code

/-- The AER status notes a poisoned TLP that is dropped (R428). -/
def Glob.notePoison (g : Glob) : Glob := { g with hst := { g.hst with poisonedTlp := true } }

/-- The enabled bytes of a write below offset 80_0000h; a poisoned one is dropped and recorded, as are writes of the wide buffer during a
wide access (R428, R430).  An unmask sends a pending message (R433). -/
def Glob.hostAreaWrite (g : Glob) (off : Nat) (data : List Byte) (enables : List Bool) (ep : Bool) : Glob :=
  let g := g.noSent
  if ep then g.notePoison.hostAreaFailed abortInternal else
  let bytes := enabledBytes off data enables false
  let busy := g.get G.WideState == 1
  let dropped := busy && bytes.any (fun e => e.1 < 0x8000)
  let h := bytes.foldl (fun (h : HostPort) e => if busy && e.1 < 0x8000 then h else h.putByte e.1 e.2.1) g.hst
  let g : Glob := { g with hst := h }
  (if dropped then g.hostAreaFailed abortState else g).flushMsi

/-- HOST_AREA_WRITE: a write TLP below offset 80_0000h of BAR0. -/
def execHostAreaWrite (ns off : Nat) (data : List Byte) (enables : List Bool) (ep : Bool) (s : State) : Out :=
  onGlob s ns (fun g => g.hostAreaWrite off data enables ep)

/-! The host-port reset (R492) -/

/-- The shared region's part: link, configuration space, MSI-X and blocks 2400h to 2415h; a wide access in service goes on, and WideState
reads 1 until it completes. -/
def Glob.resetHostPort (g : Glob) : Glob :=
  let regs := g.regs.filter (fun e => !(0x2400 ≤ e.1 / 256 && e.1 / 256 ≤ 0x2415))
  { g with regs := if g.hst.wideRun.isSome then regPut 0 G.WideState 1 regs else regs
           trigs := g.trigs.filter (fun i => i != .wideDone && i != .dictError)
           hst := { HostPort.init with wide := g.hst.wide, wideRun := g.hst.wideRun, perst := g.hst.perst,
                                       readyBy := g.hst.readyBy } }

/-- A channel with unsent host writes aborts; they never leave (R492). -/
def Cell.cutUnsent (c : Cell) (g : Glob) (k : Fin 8) : Cell :=
  if c.unsentBytes k = 0 then c else c.abortShort g k 4 (c.unsentBytes k)

/-- A channel with an outstanding host read or an unsent host write aborts with CompletionTimeout; no completion will come for a read. -/
def Cell.hostLost (c : Cell) (g : Glob) : Cell :=
  let c := allChans.foldl (fun c k =>
    if c.hostReading k then (List.range (1 + (c.chan k).wants.length)).foldl (fun c _ => c.loseRead g k 4) (c.cutUnsent g k)
    else c.cutUnsent g k) c
  { c with dma := { c.dma with unsent := [], chans := c.dma.chans.map (fun x => { x with hostStale := 0 }) } }

def State.resetHostPort (s : State) : State :=
  let s := { s with glob := s.glob.resetHostPort }
  allCellNos.foldl (fun s n =>
    if (s.cell n).held then s else
    let w : When := ⟨s.glob.nowNs, (s.cell n).now⟩
    s.close n w ((s.cellAt n w).hostLost s.glob)) s

end Sys2Proof.Machine
end

