-- ==== Sys2Proof/Machine/ClockPath.lean ====
section
/-! DEFINITION. The lock detector and the reference monitor, the switch to the bypass clock and the return (R105 to R119). -/

namespace Sys2Proof.Machine

/-! The lock detector (R107, R108) -/

/-- A run of reference cycles with one phase error: the detector's counts after it.  A run that is out of window notes its first
sample (R110). -/
def Cell.refRun (c : Cell) (r : RefRun) : Cell :=
  let c := c.puti 16 K.PhaseError r.err
  if r.err.natAbs ≤ 4 * c.get K.LockWindow then { c with clk := { c.clk with inRun := c.clk.inRun + r.cycles, outRun := 0 } } else
  if r.cycles = 0 then c else
  let first := if c.clk.outRun = 0 then r.first else c.clk.outFirst
  Cell.add32 { c with clk := { c.clk with inRun := 0, outRun := c.clk.outRun + r.cycles, outFirst := first } } K.OutOfWindowCycles r.cycles

def Cell.refRuns (c : Cell) (rs : List RefRun) : Cell := rs.foldl Cell.refRun c

/-! Transitions of R111 -/

/-- SEARCH to HOLDOFF, once activity and lock are both declared; the holdoff is zero after a planned retune. -/
def Cell.tryHoldoff (c : Cell) : Cell :=
  if c.get K.ClockState = 2 && c.flag K.SynthLocked && c.flag K.RefActive then
    { c.put K.ClockState 3 with
      clk := { c.clk with holdoffEnd := c.now + if c.clk.planned then 0 else 500 * c.get K.RelockHoldoff } }
  else c

/-- Unlock or activity loss is declared; `first` is the first suspect sample (R110, R111, R117). -/
def Cell.clockFault (c : Cell) (cause first : Nat) : Cell :=
  let st := c.get K.ClockState
  if st = 0 || (st = 4 && c.clk.onFcc) then
    let c := (c.put K.ClockFaultFirstSample first).accFault first
    let c := if c.exe.running then c.breach 1 else c
    let from' := if c.clk.clkMark then min c.clk.suspectFrom first else first
    let c : Cell := { c with clk := { c.clk with clkMark := true, suspectFrom := from' } }
    (c.stopAll (128 * (c.now + 1)) 8).flush cause false
  else if st = 3 then { (c.put K.ClockState 2).inc32 K.HoldoffRestarts with clk := { c.clk with planned := false } }
  else if st = 4 then { (c.put K.ClockState 2).inc32 K.RelockAborted with clk := { c.clk with planned := false } }
  else c

/-- SYNTH_LOCK: reference cycles up to the declaration (R107). -/
def execSynthLock (n : CellNo) (w : When) (rs : List RefRun) (s : State) : Out :=
  onCell s n w (fun _ c =>
    let c := c.refRuns rs
    if c.get K.LockCount ≤ c.clk.inRun && !c.flag K.SynthLocked then (c.put K.SynthLocked 1).tryHoldoff else c)

/-- SYNTH_UNLOCK: reference cycles of a locked synthesiser (R108); unlock is declared once the run is long enough. -/
def execSynthUnlock (n : CellNo) (w : When) (rs : List RefRun) (s : State) : Out :=
  onCell s n w (fun _ c =>
    let c := c.refRuns rs
    if c.get K.UnlockCount ≤ c.clk.outRun && c.flag K.SynthLocked then (c.put K.SynthLocked 0).clockFault 1 c.clk.outFirst else c)

/-- A measured reference frequency lies within the tolerance (R109). -/
def Cell.inTolerance (c : Cell) (hz : Nat) : Bool :=
  let f := c.swath K.RefFrequency
  1000000 * ((hz : Int) - f).natAbs ≤ c.get K.RefFreqTolerance * f

/-- REF_ACTIVITY_LOSS: missing edges, or a window that measures out of tolerance; it counts as unlock at once (R109). -/
def execRefActivityLoss (n : CellNo) (w : When) (noEdges : Bool) (hz first : Nat) (s : State) : Out :=
  onCell s n w (fun _ c =>
    let c := if noEdges then c else c.put K.RefFrequencyMeasured (hz % 2 ^ 32)
    if !noEdges && c.inTolerance hz then c else
    let c : Cell := { (c.put K.RefActive 0).put K.SynthLocked 0 with clk := { c.clk with inRun := 0 } }
    c.clockFault (if noEdges then 2 else 3) first)

/-- REF_ACTIVITY_DECLARED: a whole window with edges within tolerance ends (R109). -/
def execRefActivityDeclared (n : CellNo) (w : When) (hz : Nat) (s : State) : Out :=
  onCell s n w (fun _ c =>
    let c := c.put K.RefFrequencyMeasured (hz % 2 ^ 32)
    if c.inTolerance hz then (c.put K.RefActive 1).tryHoldoff else c)

/-! The two domain switches -/

/-- A cycle of the clock before that has not passed at the switch, as a cycle of the present clock. -/
def laterCc (old new t : Nat) : Option Nat := if old ≤ t then some (shiftCc old new t) else none

/-- A channel's last request cycle on the other clock: one of an earlier cycle is past (R353). -/
def Chan.rebase (old new : Nat) (x : Chan) : Chan := { x with reqCc := x.reqCc.bind (laterCc old new) }

/-- The cell's cycles go on from `new` on the other clock, which is cycle `old` of the present one (R29): the fabric, the latches of the
pattern engine, the request selectors and the running counts move to it. -/
def Cell.rebase (c : Cell) (old new : Nat) : Cell :=
  let c := c.accRebase old new
  { c with now := new, fab := c.fab.rebase old new,
           hay := { c.hay with waits := c.hay.waits.map (MaintWait.rebase old new) },
           fe := { c.fe with legEntry := (0, 0), legFirst := none, logic := none },
           trk := { c.trk with auxEdge := c.trk.auxEdge.bind (laterCc old new) },
           pat := { c.pat with latches := c.pat.latches.map (fun e => (e.1, shiftCc old new e.2)) },
           dma := { c.dma with chans := c.dma.chans.map (Chan.rebase old new), stampCc := c.dma.stampCc.bind (laterCc old new) } }

/-- The rates differ by more than 1 % of the old one (R133). -/
def movedOnePercent (old new : Nat × Nat) : Bool :=
  old.1 * new.2 < 100 * ((new.1 * old.2 : Nat) - (old.1 * new.2 : Nat) : Int).natAbs

/-- A retune that moves Fs by more than 1 % restarts the count of the estimator (R133). -/
def Cell.noteRate (c : Cell) (old : Nat × Nat) : Cell := if movedOnePercent old c.fs then c.restartBg else c

/-- The committed SampleRate and RefFrequency of a retune are in force from the bypass clock on (R119). -/
def Cell.takeRetune (c : Cell) : Cell :=
  match c.clk.planned, c.clk.retune with
  | true, some (fs, fref) =>
    let put (k v : Nat) (r : Regs) : Regs := regPut (cellDflt k) k v r
    let old := c.fs
    let c : Cell := { c with act := put K.SampleRate fs (put K.RefFrequency fref c.act)
                             clk := { c.clk with retune := none, inRun := 0, outRun := 0 } }
    (c.put K.SynthLocked 0).noteRate old
  | _, _ => c

/-- BYPASS_SWITCH, 40 cc after cc 0: what is left of the flush ends, and bypass cycle 0 begins (R112, R113).  The log entry holds what R454
lists for it, and LastSynthSample stands in its own entry (log entry 171). -/
def Cell.toBypass (c : Cell) : Cell :=
  let t := c.now
  let c := (((c.settleArm).stopSamples (128 * c.clk.faultCc + 127)).stopLanes).finishAll
  let c := c.add32 K.ForceIgnored (c.trg.forces.filter (fun f => f.2)).length
  let c : Cell := { c with trg := { c.trg with forces := [] } }
  let c := ((c.unlockCdr).patClockFault t).park
  let c : Cell := { c with clk := { c.clk with tLast := some t, onFcc := false, pllLocked := false } }
  let c := (c.takeRetune).rebase (t + 1) 0
  let c := ((c.put K.LastSynthSample (128 * t + 127)).put K.BypassCycles 0).put K.ClockState 2
  let c := (if c.clk.planned then c else c.inc32 K.FaultCount).pulse 56
  let c := c.log 0x0101 1 (leBytes 1 (c.get K.LastFaultCause) ++ zeros 7 ++ leBytes 8 (c.get K.ClockFaultFirstSample))
  c.refreshCdr.tryHoldoff

def execBypassSwitch (n : CellNo) (w : When) (s : State) : Out :=
  onCell s n w (fun _ c =>
    if c.get K.ClockState = 1 && c.now = c.clk.faultCc + 40 then c.toBypass else c)

/-- G of a switch after `b` bypass cycles (R116). -/
def Cell.gapOf (c : Cell) (b : Nat) : Nat := ceilDiv (b * (c.fs).1) ((c.fs).2 * 128 * 500000000)

/-- Step 2 of the return, in bypass cycle `b`: the cell domain runs on fcc, converters and lanes restart, and the memory wakes or is
brought up (R116, R171, R272, R287). -/
def Cell.toFcc (c : Cell) (b : Nat) : Cell :=
  let gap := match c.clk.tLast with | some _ => c.gapOf b | none => 0
  let first := match c.clk.tLast with | some t => t + 1 + gap | none => 0
  let c := ((c.accHold gap).rebase b first).put K.BypassCycles b
  let from' := if c.clk.clkMark then c.clk.suspectFrom else 128 * first
  let c : Cell := { c with clk := { c.clk with gap := gap, fccStart := first, onFcc := true, clkMark := true, suspectFrom := from' } }
  let c := ((c.restartLanes (128 * first)).startSamples (128 * first)).patReturn first
  let c : Cell := if c.get K.FgCalState < 2 then c else
    Cell.refreshTrack { (c.startUnits (128 * first)).restartCdr with trg := { c.trg with track := freshTracking first } }
  if c.inForce K.MemFitted = 0 then c else
  match c.get K.MemState with
  | 0 => c.put K.MemState 1
  | 6 => { c.put K.MemState 4 with mem := { c.mem with wakeFrom := c.nowNs } }
  | _ => c

/-- HOLDOFF_EXPIRY: RETURN begins; with the memory PLL locked the domain switches at once, `lag` bypass cycles on (R116). -/
def execHoldoffExpiry (n : CellNo) (w : When) (lag : Fin 5) (s : State) : Out :=
  onCell s n w (fun _ c =>
    if c.get K.ClockState ≠ 3 || c.now < c.clk.holdoffEnd then c else
    let c := c.put K.ClockState 4
    if c.clk.pllLocked then c.toFcc (c.now + lag.val) else c)

/-- MEM_PLL_LOCK: the memory PLL locks; in RETURN the domain then switches (R105, R116). -/
def execMemPllLock (n : CellNo) (w : When) (lag : Fin 5) (s : State) : Out :=
  onCell s n w (fun _ c =>
    let c : Cell := { c with clk := { c.clk with pllLocked := true } }
    if c.get K.ClockState = 4 && !c.clk.onFcc then c.toFcc (c.now + lag.val) else c)

/-! The fresh swath (R116 step 5) -/

/-- The memory reports ready: not in bring-up or wipe, waking or parked (R272, R288, R470). -/
def Cell.memReady (c : Cell) : Bool := c.get K.MemState != 1 && c.get K.MemState != 4 && c.get K.MemState != 6

/-- The line goes on over the gap; the rate is the measured one with no correction (R116). -/
def Cell.freshLine (c : Cell) (s0 : Nat) : Line :=
  let src := c.source
  let d : Int := if src = 0 then (2 ^ 56 : Nat) else
    match c.programmedRate src, c.trk.measOf src with
    | some r, _ => rate56 r
    | none, some m => rate56 (m.num, m.den)
    | none, none => c.trk.line.d
  ⟨s0, c.pos s0, d.toNat⟩

/-- A return is reported, but for the first entry into RUN after a cell reset (R116). -/
def Cell.reportReturn (c : Cell) : Cell :=
  if !c.clk.everRun then c else
  ((c.pulse 57).inc32 K.RestoreCount).log 0x0102 0
    (leBytes 8 (c.get K.BypassCycles) ++ leBytes 4 c.clk.gap ++ leBytes 4 (c.get K.HoldoffRestarts))

/-- Calibrations that still have to run start in the first cc of RUN (R127, R130, R235). -/
def Cell.startCalibration (c : Cell) : Cell :=
  if c.get K.FgCalState < 2 then (c.legsBeforeCal (128 * c.now)).put K.FgCalState 1 else if c.plc.startup then c.put K.SkewState 1 else c

/-- The fresh swath starts in this cc: pending commits and swaps apply, passed events are counted, and RUN begins (R71, R116).  DESIGN
CHOICE (log entry 133): a bank swap request that waited over the return applies here as at any boundary, with FadeLength, since the lanes
restarted before (R162, R163). -/
def Cell.freshSwath (c : Cell) (g : Glob) (n : CellNo) : Cell :=
  let s0 := 128 * c.now
  let c := (c.put K.ClockState 0).applyPlan
  let c := c.newOccurrences
  let waiting := c.waitingSwaps
  let old := c.act
  let committed := c.flag K.CommitPending
  let c := if committed then c.applyCommit else c
  let c := if c.clk.retune.isSome then c.put K.RetuneDeferred 1 else c
  let src := c.source
  let line := c.freshLine s0
  let (c, ticks) := c.loadEpoch
  let (c, swapped) := c.swapImage s0
  let c := c.applyBoundary g n s0 old committed swapped waiting
  let moved := swapped && c.source != src
  let c := if moved then c.newSource g else c
  let l := if moved then c.sourceLine s0 else line.shift ticks
  let c := (((c.beginSwath c.now l 0 swapped).syncBanks).askHeld)
  let c := (c.startLogic s0).reportReturn.startCalibration
  { c with clk := { c.clk with everRun := true, clkMark := false, planned := false, fresh := s0 } }

/-- FRESH_SWATH_START: the first cc after the memory reports ready (R116). -/
def execFreshSwathStart (n : CellNo) (w : When) (s : State) : Out :=
  onCell s n w (fun g c =>
    if c.get K.ClockState = 4 && c.clk.onFcc && c.memReady && !wiping g n then c.freshSwath g n else c)

end Sys2Proof.Machine
end

