-- ==== Sys2Proof/Machine/Reset.lean ====
section
/-! DEFINITION. The cell reset and the wipe of a cell (R469 to R471, R489 to R491). -/

namespace Sys2Proof.Machine

def isReset (k : Nat) : Bool := match cellEntry? k with | some x => x.cls = .reset | none => false

/-- A cell at its reset (R490): every entry at its default but the Reset-class entries, whose written values now take effect, FgCalCount,
and PortDownCause where the reset disables the port (R374).  The contents of its memories stand until the wipe has passed them
(R469). -/
def Cell.afterReset (c : Cell) : Cell :=
  let kept := c.regs.filter (fun e => isReset e.1)
  let i := Cell.init
  let regs := regPut 0 K.FgCalCount (c.get K.FgCalCount) i.regs
  { i with nowNs := c.nowNs, held := c.held
           regs := (if c.get K.PortState = 0 then regs else regPut 0 K.PortDownCause 6 regs) ++ kept, rst := kept
           cap := { i.cap with memory := c.cap.memory }, acc := { i.acc with memory := c.acc.memory }
           dma := { i.dma with sram := c.dma.sram }, mem := { i.mem with memory := c.mem.memory, fresh := c.mem.fresh } }

/-- The cell enters a reset that is held. -/
def State.holdCell (s : State) (n : CellNo) : State := s.setCell n { (s.cell n).afterReset with held := true }

/-- The cell restarts on the bypass clock, and its wipe begins from the start (R471, R490, R491). -/
def State.releaseCell (s : State) (n : CellNo) : State :=
  let g := s.glob
  let g := (g.put (G.WipeState + n.val) 1).put G.WipeIncomplete (clrBit (g.get G.WipeIncomplete) n.val)
  let g := { g with mgmt := { g.mgmt with wipeNs := g.mgmt.wipeNs.set n g.nowNs } }
  let c : Cell := { (s.cell n).afterReset with held := false, nowNs := g.nowNs }
  { (s.setCell n (c.put K.ThermalHold (g.get G.ThermGuardActive))) with glob := g }

/-- A cell reset: a cell that something holds in reset stays held. -/
def State.resetCell (s : State) (n : CellNo) : State := if (s.cell n).held then s.holdCell n else s.releaseCell n

/-- A reset of the cells of a mask. -/
def State.resetCells (s : State) (mask : Nat) : State :=
  allCellNos.foldl (fun s n => if bit mask n.val then s.resetCell n else s) s

/-- CELL_RESET_REQUEST: bit n resets cell n (R483, R490). -/
def execCellResetRequest (ns : Nat) (p : Port) (mask : Nat) (s : State) : Out :=
  if !s.glob.serves p then .next { s with glob := s.glob.at ns } else
  if s.glob.bootRom then .next { s with glob := (s.glob.at ns).failed p 0x2800 8 abortState } else
  .next ({ s with glob := (s.glob.at ns).answer p 0 }.resetCells mask)

/-! The wipe (R470, R471) -/

/-- WIPE_SRAM_DONE: capture buffer, accumulator and descriptor SRAM hold zero data with valid check symbols, which an unlisted address
reads as; the deep-memory phase is next. -/
def execWipeSramDone (n : CellNo) (w : When) (s : State) : Out :=
  if (s.cell n).held || s.glob.get (G.WipeState + n.val) ≠ 1 then onCell s n w (fun _ c => c) else
  let c := s.cellAt n w
  let c : Cell := { c with cap := { c.cap with memory := [] }, acc := { c.acc with memory := [] }, dma := { c.dma with sram := [] } }
  let s := s.close n w c
  .next { s with glob := s.glob.put (G.WipeState + n.val) 2 }

/-- What deep memory holds once the wipe has passed every stook up to the capacity; a failed channel is skipped. -/
def Cell.wipedMemory (c : Cell) : Memory :=
  c.mem.memory.filter (fun e => Nat.ble (18 * c.capacity) e.1 || c.channelFailed (channelOf (e.1 / 18)))

/-- The wipe of a cell can end: the SRAM phase is over, and the memory is not fitted, or up and not parked or waking: the wipe of parked
memory goes on after its wake-up (R471). -/
def State.wipeEnds (s : State) (n : CellNo) : Bool :=
  let c := s.cell n
  !c.held && s.glob.get (G.WipeState + n.val) == 2 &&
  (c.inForce K.MemFitted == 0 || (c.mem.up && c.get K.MemState != 4 && c.get K.MemState != 6))

/-- The wipe of one cell completes: its memory reports ready (R116, R471). -/
def State.endWipe (s : State) (n : CellNo) : State :=
  let c := s.cell n
  let failed := c.mem.up && c.anyFailed
  let st := if c.inForce K.MemFitted = 0 then 0 else if failed then 5 else 2
  let c : Cell := { c.put K.MemState st with mem := { c.mem with memory := c.wipedMemory, busyNs := s.glob.nowNs } }
  let g := (s.glob.put (G.WipeState + n.val) 3).inc32 G.WipeCount
  let g := if failed then g.put G.WipeIncomplete (setBit (g.get G.WipeIncomplete) n.val) else g
  { (s.setCell n c) with glob := g }

/-- WIPE_DONE: the wipes of the cells of a mask complete together (R471). -/
def execWipeDone (ns : Nat) (mask : Nat) (s : State) : Out :=
  let s := { s with glob := s.glob.at ns }
  let ends := allCellNos.filter (fun n => bit mask n.val && s.wipeEnds n)
  if ends.isEmpty then .next s else
  let began := ends.foldl (fun a n => min a (s.glob.mgmt.wipeNs.get n)) ns
  let s := ends.foldl State.endWipe s
  let done := ends.foldl (fun m n => setBit m n.val) 0
  let data := (leBytes 1 done ++ leBytes 4 ((ns - began) / 1000 % 2 ^ 32) ++ leBytes 1 (s.glob.get G.WipeIncomplete &&& done))
  .next { s with glob := s.glob.logEntry 15 0x2801 0 data }

end Sys2Proof.Machine
end

