-- ==== Sys2Proof/Machine/Sensors.lean ====
section
/-! DEFINITION. Sensors, thermal guard and critical trip, voltage monitors, the watchdog, and the event log with its flash mirror (R447
to R456). -/

namespace Sys2Proof.Machine

/-! What holds cells in reset -/

/-- A test instruction is loaded (R507), or the critical trip is set (R450). -/
def TapInstr.isTest : TapInstr → Bool
  | .bypass => false
  | .idcode => false
  | .samplePreload => false
  | _ => true

def Glob.tripped (g : Glob) : Bool := bit (g.get G.FaultCause) 1

/-- Every cell that nothing holds any more leaves its reset. -/
def State.releaseFree (s : State) : State :=
  if s.glob.tripped || s.glob.mgmt.tap.instr.isTest || s.glob.mgmt.boot != .running then s else
  allCellNos.foldl (fun s n => if (s.cell n).held then s.releaseCell n else s) s

def State.holdAll (s : State) : State := allCellNos.foldl State.holdCell s

/-- FAULT_N and THERM_N are low (R449, R452). -/
def Glob.faultN (g : Glob) : Bool := g.get G.FaultCause != 0
def Glob.thermN (g : Glob) : Bool := g.flag G.ThermGuardActive

def Glob.setFault (g : Glob) (i : Nat) : Glob := g.put G.FaultCause (setBit (g.get G.FaultCause) i)
def Glob.clrFault (g : Glob) (i : Nat) : Glob := g.put G.FaultCause (clrBit (g.get G.FaultCause) i)

def Glob.putSensors (g : Glob) (x : Sensors) : Glob := { g with mgmt := { g.mgmt with sensors := x } }
def Glob.sens (g : Glob) : Sensors := g.mgmt.sensors

/-! Temperatures (R448 to R450) -/

/-- The temperature points, JunctionMax, and the first point that holds it. -/
def putTemps (g : Glob) : List Int → Nat → Glob
  | [], _ => g
  | t :: ts, i => putTemps (g.puti 16 (G.TempPoint + i) t) ts (i + 1)

def hottest (ts : List Int) : Int := ts.foldl max (-32768)
def hottestPoint (ts : List Int) : Nat := (ts.findIdx? (fun t => t == hottest ts)).getD 0

/-- Runs of samples at or above the two limits, and below the release limit. -/
def Glob.countHeat (g : Glob) (j : Int) : Glob :=
  let x := g.sens
  g.putSensors { x with hot := if g.geti 16 G.ThermGuardSet ≤ j then min 2 (x.hot + 1) else 0
                        critical := if g.geti 16 G.ThermCritical ≤ j then min 2 (x.critical + 1) else 0
                        cool := if j < g.geti 16 G.ThermGuardRelease then min 100 (x.cool + 1) else 0 }

def heatData (j : Int) (point : Nat) : List Byte := leBytes 2 (raw 16 j) ++ leBytes 1 point

/-- A change of every cell that is not held in reset, at the command's instant. -/
def State.eachCell (w : When4) (f : Cell → Cell) (s : State) : State :=
  allCellNos.foldl (fun s n =>
    let x : When := ⟨w.ns, (strobeOf w.at' n).cc⟩
    if (s.cell n).held then s else s.close n x (f (s.cellAt n x))) s

/-- The guard sets in every cell together (R449): arming is held, and THERM_HOLD pulses (R32, R226). -/
def State.holdThermal (w : When4) (s : State) : State := s.eachCell w (fun c => (c.put K.ThermalHold 1).pulse 60)

/-- The hold ends in every cell. -/
def State.freeThermal (w : When4) (s : State) : State := s.eachCell w (fun c => c.put K.ThermalHold 0)

def State.setGuard (w : When4) (s : State) (j : Int) (point : Nat) : State :=
  let g := ((s.glob.put G.ThermGuardActive 1).inc32 G.ThermGuardCount)
  let g := g.putSensors { g.sens with guardNs := g.nowNs }
  { s with glob := g.logEntry 15 0x2001 1 (heatData j point) }.holdThermal w

/-- The critical trip: all four cells enter cell reset and stay there (R450). -/
def State.setTrip (s : State) (j : Int) (point : Nat) : State :=
  { s with glob := (s.glob.setFault 1).logEntry 15 0x2003 2 (heatData j point) }.holdAll

/-- 100 samples below the release limit clear guard and trip; the cells then leave reset (R449, R450). -/
def State.clearGuard (w : When4) (s : State) : State :=
  let ms := (s.glob.nowNs - s.glob.sens.guardNs) / 1000000
  let g := (s.glob.put G.ThermGuardActive 0).logEntry 15 0x2002 0 (leBytes 4 (ms % 2 ^ 32))
  if g.tripped then (({ s with glob := g.clrFault 1 } : State).freeThermal w).releaseFree else ({ s with glob := g } : State).freeThermal w

def State.judgeHeat (w : When4) (s : State) (ts : List Int) : State :=
  let j := hottest ts
  let s := { s with glob := s.glob.countHeat j }
  let s := if s.glob.sens.hot = 2 && !s.glob.thermN then s.setGuard w j (hottestPoint ts) else s
  let s := if s.glob.sens.critical = 2 && !s.glob.tripped then s.setTrip j (hottestPoint ts) else s
  if s.glob.sens.cool = 100 && s.glob.thermN then s.clearGuard w else s

/-! Voltages (R451) -/

/-- A reading lies outside nominal ± pct, in 0.1 %. -/
def outside (v nominal pct : Nat) : Bool := nominal * pct < 1000 * ((v : Int) - nominal).natAbs

/-- One monitor's sample: the warning after 10, the fault after 2. -/
def Glob.judgeVolt (g : Glob) (i v : Nat) : Glob :=
  let x := g.sens
  let nom := g.get (G.VoltNominal + i)
  let w := if outside v nom (g.get G.VoltWarnPct) then min 11 (numAt x.warn i + 1) else 0
  let f := if outside v nom (g.get G.VoltFaultPct) then min 3 (numAt x.fault i + 1) else 0
  let g := (g.put (G.Voltage + i) (v % 65536)).putSensors { x with warn := setAt x.warn i w, fault := setAt x.fault i f }
  let data := leBytes 1 i ++ leBytes 2 v
  let g := if w = 10 then g.logEntry 15 0x2004 1 data else g
  if f = 2 then (g.setFault 0).logEntry 15 0x2005 2 data else g

def judgeVolts (g : Glob) : List Nat → Nat → Glob
  | [], _ => g
  | v :: vs, i => judgeVolts (g.judgeVolt i v) vs (i + 1)

/-- FAULT_N is released after 100 samples with every monitor within its limits. -/
def Glob.judgeCalm (g : Glob) : Glob :=
  let n := if g.sens.fault.all (fun k => k == 0) then min 100 (g.sens.calm + 1) else 0
  let g := g.putSensors { g.sens with calm := n }
  if n = 100 then g.clrFault 0 else g

/-- Every cell judges its chiplet temperature for the placement calibrations (R236, R240). -/
def State.judgeChiplet (w : When4) (s : State) (n : CellNo) : State :=
  if (s.cell n).held then s else
  let x : When := ⟨w.ns, (strobeOf w.at' n).cc⟩
  s.close n x ((s.cellAt n x).judgePlacementTemp (chipTemp s.glob n))

/-- SENSOR_SAMPLE: the millisecond's 32 temperatures, in 0.1 °C, and 24 voltages, in mV (R448). -/
def execSensorSample (w : When4) (temps : List Int) (volts : List Nat) (s : State) : Out :=
  if s.glob.mgmt.boot = .off then .next { s with glob := s.glob.at w.ns } else
  let ts := (fit 32 temps).map (satS 16)
  let g := putTemps (s.glob.at w.ns) ts 0
  let g := (judgeVolts (g.puti 16 G.JunctionMax (hottest ts)) ((volts ++ List.replicate 24 0).take 24) 0).judgeCalm
  .next ((({ s with glob := g } : State).judgeHeat w ts) |> fun s => allCellNos.foldl (State.judgeChiplet w) s)

/-! The watchdog (R447) -/

/-- WATCHDOG_RESTART: the transfer on CAN FD is discarded, PtpSynchronised clears, FAULT_N goes low; nothing outside the management
complex changes. -/
def execWatchdogRestart (ns : Nat) (s : State) : Out :=
  onGlob s ns (fun g =>
    if g.mgmtDown || g.mgmt.boot ≠ .running then g else
    let g := ((g.inc32 G.ManagementRestarts).put G.PtpSynchronised 0).setFault 2
    { g with mgmtDown := true, can := { g.can with xfer := none },
             mgmt := { g.mgmt with ptp := { g.mgmt.ptp with good := 0, bad := 0 } } })

/-- MANAGEMENT_RESUME: Pangobor runs again and logs the number of restarts. -/
def execManagementResume (ns : Nat) (s : State) : Out :=
  onGlob s ns (fun g =>
    if !g.mgmtDown then g else
    ({ g with mgmtDown := false }.clrFault 2).logEntry 15 0x3001 2 (leBytes 4 (g.get G.ManagementRestarts)))

/-! The log mirror (R455) -/

/-- LOG_MIRROR_DONE: the copy that runs ends; entries that came since it began wait.  A flash write failure copies nothing. -/
def execLogMirrorDone (ns : Nat) (ok : Bool) (s : State) : Out :=
  onGlob s ns (fun g =>
    if g.log.phase ≠ .copying then g else
    let later := g.log.unmirrored - g.log.copying
    let g := if ok then g else g.inc32 G.MirrorFailures
    let x := g.log
    let copied := (x.ring.drop later).take x.copying
    { g with log := { x with phase := .interval, copying := 0,
                             mirror := if ok then (copied ++ x.mirror).take 8192 else x.mirror,
                             unmirrored := if ok then later else x.unmirrored } })

/-- MIRROR_INTERVAL_EXPIRY: entries that arose meanwhile, of any severity, are copied now. -/
def execMirrorIntervalExpiry (ns : Nat) (s : State) : Out :=
  onGlob s ns (fun g =>
    if g.log.phase ≠ .interval then g else
    { g with log := { g.log with phase := if g.log.unmirrored = 0 then .idle else .copying, copying := g.log.unmirrored } })

/-! Reading the log (R453, R456) -/

def LogEntry.bytes (e : LogEntry) : List Byte :=
  leBytes 8 e.time ++ leBytes 4 e.seq ++ leBytes 1 e.source ++ leBytes 1 e.flags ++ leBytes 2 e.code ++ e.data

/-- The entries of the selected view, oldest first. -/
def Glob.logView (g : Glob) : List LogEntry := (if g.get G.LogView = 1 then g.log.mirror else g.log.ring).reverse

def Glob.logOldest (g : Glob) : Nat := match g.logView with | e :: _ => e.seq | [] => 0
def Glob.logNewest (g : Glob) : Nat := match g.logView.getLast? with | some e => e.seq | none => 0

/-- How far a sequence number lies behind the oldest one, in the wrapping count; one before it counts as it. -/
def seqOffset (oldest x : Nat) : Nat := let d := (x + 2 ^ 32 - oldest) % 2 ^ 32; if d < 2 ^ 31 then d else 0

/-- The entries a read of LogReadData returns: up to 32. -/
def Glob.logRead (g : Glob) : List LogEntry :=
  let o := g.logOldest
  (g.logView.filter (fun e => seqOffset o (g.get G.LogReadSequence) ≤ seqOffset o e.seq)).take 32

/-- The read's value, and LogReadFirst. -/
def Glob.readLog (g : Glob) : List Byte × Glob :=
  let es := g.logRead
  (es.flatMap LogEntry.bytes, match es with | e :: _ => g.put G.LogReadFirst e.seq | [] => g)

/-- LOG_READ: a read of LogReadData (R456). -/
def execLogRead (ns : Nat) (p : Port) (s : State) : Out :=
  onGlobPort s ns p G.LogReadData (fun g => .ok { g.readLog.2 with readData := g.readLog.1 })

end Sys2Proof.Machine
end

