-- ==== Sys2Proof/Machine/Indicator.lean ====
section
/-! DEFINITION. The indicator drive: NTC, curves, fades, overrides and PWM periods (R473 to R477). -/

namespace Sys2Proof.Machine

/-- An entry of cell `n`, colour `col` (0 red, 1 green, 2 blue), from red of cell 0 (R480). -/
def indKey (key : Nat) (n : CellNo) (col : Fin 3) : Nat := key + 0x100 * n.val + 0x10 * col.val
def sinkIx (n : CellNo) (col : Fin 3) : Fin 12 := ⟨3 * n.val + col.val, by omega⟩
def Glob.sink (g : Glob) (n : CellNo) (col : Fin 3) : Sink := g.mgmt.sinks.get (sinkIx n col)
def Glob.putSink (g : Glob) (n : CellNo) (col : Fin 3) (x : Sink) : Glob :=
  { g with mgmt := { g.mgmt with sinks := g.mgmt.sinks.set (sinkIx n col) x } }

/-! The thermistor (R476) -/

/-- Twice the area tangent of `y` in 2^-48, as a sum of `n` terms y^(2 i + 1) / (2 i + 1). -/
def atanhSum (y2 : Nat) : Nat → Nat → Nat → Nat
  | 0, _, _ => 0
  | n + 1, i, t => 2 * (t / (2 * i + 1)) + atanhSum y2 n (i + 1) (t * y2 / 2 ^ 48)

/-- ln of a / b for 1 ≤ a / b ≤ 2, in 2^-48. -/
def lnUnit (a b : Nat) : Nat :=
  let y := (a - b) * 2 ^ 48 / (a + b)
  atanhSum (y * y / 2 ^ 48) 20 0 y

/-- ln(num / den) in 2^-48. -/
def lnFix (num den : Nat) : Int :=
  let k : Int := (Nat.log2 num : Int) - Nat.log2 den
  let a := if 0 ≤ k then num else num * 2 ^ (-k).toNat
  let b := if 0 ≤ k then den * 2 ^ k.toNat else den
  if b ≤ a then k * lnUnit 2 1 + lnUnit a b else (k - 1) * lnUnit 2 1 + lnUnit (2 * a) b

/-- T of R476 in 0.1 °C, from the pin voltage in µV; the manual states no rounding, which is to the nearest (log entry 103). -/
def ntcTemp (uv r25 beta : Nat) : Int :=
  let l := lnFix (10000 * uv) ((1800000 - uv) * r25)
  let a : Int := 298150 * beta * (2 ^ 48 : Nat)
  let b : Int := 100 * beta * (2 ^ 48 : Nat) + 29815 * l
  if b ≤ 0 then 32767 else satS 16 (rneDiv (2 * a - 5463 * b) (2 * b).toNat)

/-- NTC_SAMPLE: the pin voltage, every 10 ms; open and short are logged once per fault (R476). -/
def execNtcSample (ns uv : Nat) (s : State) : Out :=
  onGlob s ns (fun g =>
    let fault := if 1750000 < uv then 1 else if uv < 20000 then 2 else 0
    let was := g.get G.NtcFault
    let g := g.put G.NtcFault fault
    if fault = 0 then g.puti 16 G.NtcTemp (ntcTemp uv (g.get G.NtcR25) (g.get G.NtcBeta))
    else if was = fault then g else g.logEntry 15 0x2301 1 (leBytes 1 fault))

def compDefault : List Byte := (List.replicate 8 (leBytes 2 32768)).flatten

/-- comp(T) of a colour. -/
def Glob.indComp (g : Glob) (col : Fin 3) : Nat :=
  if g.get G.NtcFault ≠ 0 then 32768 else
  let d := g.dom (G.IndComp + col.val) compDefault
  let t := g.geti 16 G.NtcTemp
  if t ≤ -400 then fld d 0 2 else if 1000 ≤ t then fld d 14 2 else
  let x := (t + 400).toNat
  let i := x / 200
  ((fld d (2 * i) 2 : Int) + ((fld d (2 * i + 2) 2 : Int) - fld d (2 * i) 2) * (x % 200 : Nat) / 200).toNat

/-! Curves (R474) -/

def gammaReached (param k p : Nat) : Bool := (2 * p - 1) ^ 1000 * 63 ^ param ≤ k ^ param * 131070 ^ 1000
def logReached (param k p : Nat) : Bool := (131070 + (2 * p - 1) * (2 ^ param - 1)) ^ 63 ≤ 2 ^ (param * k) * 131070 ^ 63

/-- The largest point up to 65,535 that is reached, from the bits below `n`. -/
def searchPoint (reaches : Nat → Bool) : Nat → Nat → Nat
  | 0, lo => lo
  | n + 1, lo => if reaches (lo + 2 ^ n) then searchPoint reaches n (lo + 2 ^ n) else searchPoint reaches n lo

def linearPoint (k : Nat) : Nat := (2 * 65535 * k + 63) / 126
def linearCurve : List Byte := (List.range 64).flatMap (fun k => leBytes 2 (linearPoint k))

/-- P_k of a curve. -/
def curvePoint (mode param : Nat) (custom : List Byte) (k : Nat) : Nat :=
  match mode with
  | 0 => linearPoint k
  | 1 => if k = 0 then 0 else searchPoint (gammaReached param k) 16 0
  | 2 => if k = 0 then 0 else searchPoint (logReached param k) 16 0
  | _ => fld custom (2 * k) 2

/-- curve(L): between the points, linear. -/
def Glob.curveAt (g : Glob) (n : CellNo) (col : Fin 3) (level : Nat) : Nat :=
  let p := curvePoint (g.get (indKey G.IndCurveMode n col)) (g.get (indKey G.IndCurveParam n col))
    (g.dom (indKey G.IndCustomCurve n col) linearCurve)
  let k := level / 1024
  if 63 ≤ k then p 63 else ((p k : Int) + ((p (k + 1) : Int) - p k) * (level % 1024 : Nat) / 1024).toNat

def Glob.dutyOf (g : Glob) (n : CellNo) (col : Fin 3) (level : Nat) : Nat :=
  min 65535 (g.curveAt n col level * g.indComp col / 32768)

/-! Fades (R475) -/

def Fade.level (f : Fade) : Nat :=
  if f.periods = 0 then f.dest else ((f.from' : Int) + ((f.dest : Int) - f.from') * f.done / f.periods).toNat

/-- The host's level in the next period: the running fade goes on, and a new target starts from the level it finds. -/
def Sink.advance (x : Sink) : Sink :=
  let x : Sink := match x.fade with
    | some f =>
      let f := { f with done := f.done + 1 }
      { x with level := f.level, fade := if f.periods ≤ f.done then none else some f }
    | none => x
  match x.next with
  | none => x
  | some (dest, periods) =>
    if periods = 0 then { x with level := dest, fade := none, next := none }
    else { x with fade := some ⟨x.level, dest, periods, 0⟩, next := none }

/-- IND_TARGET: a fade over IndFadeTime ms, in PWM periods (R475). -/
def Glob.indTarget (g : Glob) (n : CellNo) (col : Fin 3) (v : Nat) : Except Nat Glob :=
  if 64512 < v then .error abortValue else
  let periods := (3052 * g.get (indKey G.IndFadeTime n col) + 50) / 100
  .ok ((g.put (indKey G.IndTarget n col) v).putSink n col { g.sink n col with next := some (v, periods) })

def execIndTarget (ns : Nat) (p : Port) (n : CellNo) (col : Fin 3) (v : Nat) (s : State) : Out :=
  onGlobPort s ns p (indKey G.IndTarget n col) (fun g => g.indTarget n col v)

/-- IND_CURVE_WRITE: mode or parameter; the points follow from them (R474, R480). -/
def Glob.indCurve (g : Glob) (n : CellNo) (col : Fin 3) (op : CurveWrite) : Except Nat Glob :=
  match op with
  | .mode v => if 3 < v then .error abortValue else .ok (g.put (indKey G.IndCurveMode n col) v)
  | .param v =>
    let ok := match g.get (indKey G.IndCurveMode n col) with
      | 1 => 250 ≤ v && v ≤ 8000
      | 2 => 1 ≤ v && v ≤ 24
      | _ => v < 65536
    if ok then .ok (g.put (indKey G.IndCurveParam n col) v) else .error abortValue

def execIndCurveWrite (ns : Nat) (p : Port) (n : CellNo) (col : Fin 3) (op : CurveWrite) (s : State) : Out :=
  onGlobPort s ns p (indKey (match op with | .mode _ => G.IndCurveMode | .param _ => G.IndCurveParam) n col)
    (fun g => g.indCurve n col op)

/-! PWM periods (R473, R477) -/

/-- The level a device condition puts in place of the host's, for the first condition that holds (R477). -/
def State.override (s : State) (n : CellNo) (col : Fin 3) : Option Nat :=
  let g := s.glob
  if g.get G.IndPolicy ≠ 1 then none
  else if g.get G.LifeCycleState = 4 then some (if col = 0 then 64512 else 0)
  else if g.thermN then
    some (if col = 0 && (g.nowNs - g.sens.guardNs) / 500000000 % 2 == 0 then 64512 else 0)
  else if wiping g n then some (if col = 2 then 32256 else 0)
  else if (s.cell n).get K.ClockState ≠ 0 then some (if col = 2 then 0 else 32256)
  else none

def State.pwmSink (col : Fin 3) (s : State) (n : CellNo) : State :=
  let x := (s.glob.sink n col).advance
  let level := (s.override n col).getD x.level
  let x := { x with duty := s.glob.dutyOf n col level, odd := !x.odd }
  { s with glob := (s.glob.put (indKey G.IndLevel n col) level).putSink n col x }

/-- IND_PWM_PERIOD: a period of one colour begins in every cell; green and blue begin a third and two thirds after red (R473). -/
def execIndPwmPeriod (ns : Nat) (col : Fin 3) (s : State) : Out :=
  if s.glob.mgmt.boot = .off then .next { s with glob := s.glob.at ns }
  else .next (allCellNos.foldl (State.pwmSink col) { s with glob := s.glob.at ns })

/-- The 15-bit pulse width of a sink's period: the least significant duty bit counts in every second one (R473). -/
def Sink.width (x : Sink) : Nat := x.duty / 2 + if x.odd then x.duty % 2 else 0

end Sys2Proof.Machine
end

