-- ==== Sys2Proof/Machine/Ptp.lean ====
section
/-! DEFINITION. The PTP ordinary clock and PTP_PPS (R457 to R459).  The port states, message types, the order of foreign masters and the
clock identity are those of IEEE 1588, which the manual names (log entry 102). -/

namespace Sys2Proof.Machine

/-- 802.1AS forces Ethernet transport, peer-to-peer delay and domain 0 (R457). -/
def Glob.ptpAs (g : Glob) : Bool := g.get G.PtpProfile == 2
def Glob.ptpOnEthernet (g : Glob) : Bool := g.ptpAs || g.get G.PtpTransport == 1
def Glob.ptpPeer (g : Glob) : Bool := g.get G.PtpProfile != 0
def Glob.ptpDomain (g : Glob) : Nat := if g.ptpAs then 0 else g.get G.PtpDomain

/-- The clock exchanges messages: enabled, the processor runs, the link is up, and UDP has an address (R438, R447, R457). -/
def Glob.ptpRuns (g : Glob) : Bool :=
  g.flag G.PtpEnable && g.mgmt.boot == .running && !g.mgmtDown && g.get G.EthLinkState != 0 &&
  (g.ptpOnEthernet || g.get G.IpApplied != 0)

def Glob.ptp (g : Glob) : Ptp := g.mgmt.ptp
def Glob.putPtp (g : Glob) (x : Ptp) : Glob := { g with mgmt := { g.mgmt with ptp := x } }

/-- The clock's identity: its MacAddress in force as an EUI-64. -/
def Glob.ptpIdentity (g : Glob) : Nat :=
  let m := g.inForce G.MacAddress
  bits m 24 24 * 2 ^ 40 + 0xFFFE * 2 ^ 24 + bits m 0 24

/-- The clock's own data set: clock class 248 (R457). -/
def Glob.ptpOwn (g : Glob) : Announce := ⟨g.get G.PtpPriority1, 248, 0xFE, 0xFFFF, g.get G.PtpPriority2, g.ptpIdentity⟩

/-- The data set in order of comparison. -/
def Announce.rank (a : Announce) : List Nat := [a.priority1, a.cls, a.accuracy, a.variance, a.priority2, a.identity]

def lexLess : List Nat → List Nat → Bool
  | [], [] => false
  | [], _ => true
  | _, [] => false
  | x :: xs, y :: ys => x < y || (x == y && lexLess xs ys)

def Announce.better (a b : Announce) : Bool := lexLess a.rank b.rank

/-! Port states of IEEE 1588 -/

abbrev psListening : Nat := 4
abbrev psMaster : Nat := 6
abbrev psUncalibrated : Nat := 8
abbrev psSlave : Nat := 9

/-- The clock loses synchronisation: it holds over on its last frequency (R458). -/
def Glob.unsync (g : Glob) : Glob := (g.put G.PtpSynchronised 0).putPtp { g.ptp with good := 0, bad := 0 }

/-- Without a better master: master when capable, else listening (R457). -/
def Glob.noMaster (g : Glob) : Glob :=
  let g := g.putPtp { g.ptp with parent := none }
  if g.get G.PtpRole = 1 then (g.put G.PtpPortState psMaster).put G.PtpGrandmaster g.ptpIdentity
  else g.put G.PtpPortState psListening

/-- PTP_ANNOUNCE_RX: the best master clock algorithm takes the better of the present parent and the sender (R457). -/
def execPtpAnnounceRx (ns domain every : Nat) (a : AnnounceIn) (s : State) : Out :=
  onGlob s ns (fun g =>
    if !g.ptpRuns || domain ≠ g.ptpDomain then g else
    let a : Announce := ⟨a.priority1, a.cls, a.accuracy, a.variance, a.priority2, a.identity % 2 ^ 64⟩
    let best := match g.ptp.parent with
      | some p => if p.identity = a.identity || a.better p then a else p
      | none => a
    if g.get G.PtpRole = 1 && !best.better g.ptpOwn then g.noMaster else
    let same := match g.ptp.parent with | some p => p.identity == best.identity | none => false
    let fresh := best.identity = a.identity
    let x := g.ptp
    let g := g.putPtp { x with parent := some best, announceNs := if fresh then ns else x.announceNs,
                               announceEvery := if fresh then every else x.announceEvery,
                               syncNs := if same then x.syncNs else ns, syncEvery := if same then x.syncEvery else every }
    let g := g.put G.PtpGrandmaster best.identity
    if same then g else g.put G.PtpPortState psUncalibrated)

/-- The free-running count of 16 good and 4 bad Sync intervals (R458). -/
def Glob.countSync (g : Glob) (offset : Int) : Glob :=
  if offset.natAbs ≤ g.get G.PtpSyncThreshold then
    let n := min 16 (g.ptp.good + 1)
    let g := g.putPtp { g.ptp with good := n, bad := 0 }
    if n = 16 then g.put G.PtpSynchronised 1 else g
  else
    let n := min 4 (g.ptp.bad + 1)
    let g := g.putPtp { g.ptp with good := 0, bad := n }
    if n = 4 then g.put G.PtpSynchronised 0 else g

/-- A step of the clock is logged; the manual gives the entry no code, severity or data, which are free values (R458). -/
def Glob.logStep (g : Glob) : Glob :=
  let k := g.fresh
  { g with fresh := k + 1 }.logEntry 15 (Config.ptpStepCode k % 65536) (Config.ptpStepSeverity k % 3) (leBytes 16 (Config.ptpStepData k))

/-- The servo: an offset above 1 ms steps the clock, a smaller one sets its rate by the proportional and the integral part (R458). -/
def Glob.steer (g : Glob) (offset : Int) : Glob :=
  let x := g.ptp
  let off := g.ptpOff + g.ptpDrift
  let step : Bool := 1000000 < offset.natAbs
  let integral := if step then x.integral else x.integral + Config.servoI * offset
  let freq := if step then x.freq else -(Config.servoP * offset + integral)
  let g := ({ g with ptpOff := if step then off - offset else off } : Glob).putPtp
    { x with freq := freq, freqNs := g.nowNs, integral := integral }
  if step then g.logStep else g

/-- PTP_SYNC_RX: Sync with its origin time, and the corrections of the Sync and of its Follow_Up, which is 0 of a one-step Sync (R457,
R458). -/
def execPtpSyncRx (ns domain every : Nat) (origin arrival correction followUp : Int) (s : State) : Out :=
  onGlob s ns (fun g =>
    let st := g.get G.PtpPortState
    if !g.ptpRuns || domain ≠ g.ptpDomain || !(st = psUncalibrated || st = psSlave) then g else
    let offset := arrival - origin - correction - followUp - g.geti 64 G.PtpMeanPathDelay
    let g := (g.puti 64 G.PtpOffset offset).put G.PtpPortState psSlave
    let g := g.steer offset
    (g.putPtp { g.ptp with syncNs := ns, syncEvery := every }).countSync offset)

def Glob.sendPtp (g : Glob) (kinds : List Nat) : Glob := { g with eth := { g.eth with sent := .ptp kinds } }

/-- PTP_DELAY_RX: the last message of a delay or peer-delay exchange with its four times updates the mean path delay; a request is answered,
Delay_Req by a master with Delay_Resp, Pdelay_Req with Pdelay_Resp and its Follow_Up (R457). -/
def execPtpDelayRx (ns domain : Nat) (kind : DelayIn) (t1 t2 t3 t4 correction : Int) (s : State) : Out :=
  onGlob s ns (fun g =>
    if !g.ptpRuns || domain ≠ g.ptpDomain then g else
    match kind with
    | .response peer => if peer = g.ptpPeer then g.puti 64 G.PtpMeanPathDelay (((t2 - t1) + (t4 - t3) - correction) / 2) else g
    | .request peer =>
      if peer ≠ g.ptpPeer then g
      else if peer then g.sendPtp [0x3, 0xA]
      else if g.get G.PtpPortState = psMaster then g.sendPtp [0x9] else g)

/-- PTP_MESSAGE_TIMEOUT: no Sync, or no Announce, for three of its intervals (R458). -/
def execPtpMessageTimeout (ns : Nat) (s : State) : Out :=
  onGlob s ns (fun g =>
    let x := g.ptp
    let sync := x.syncNs + 3 * x.syncEvery ≤ ns
    let ann := x.announceNs + 3 * x.announceEvery ≤ ns
    if x.parent.isNone || !(sync || ann) then g else
    let g := g.unsync
    if ann then g.noMaster else g.put G.PtpPortState psUncalibrated)

/-- The messages of one interval, by message type: Sync, Follow_Up and Announce as master, a delay or peer-delay request otherwise
(R457). -/
def Glob.ptpMessages (g : Glob) : List Nat :=
  let master := g.get G.PtpPortState == psMaster
  (if master then [0x0, 0x8, 0xB] else []) ++
  (if g.ptpPeer then [0x2] else if g.get G.PtpPortState == psSlave || g.get G.PtpPortState == psUncalibrated then [0x1] else [])

/-- PTP_SYNC_INTERVAL: the message interval timer expires. -/
def execPtpSyncInterval (ns : Nat) (s : State) : Out :=
  onGlob s ns (fun g => if g.ptpRuns then g.sendPtp g.ptpMessages else g)

/-! PTP_PPS (R459) -/

/-- PPS_OUTPUT_EDGE: the pin rises at a whole second of the PTP clock, within 10 ns, for PpsWidth ms; the edge serves a pending epoch
strobe. -/
def execPpsOutputEdge (ns : Nat) (t : Strobe4) (s : State) : Out :=
  let g := s.glob.at ns
  let s := { s with glob := g }
  let second := (g.ptpNow + 10) % 1000000000 ≤ 20
  if g.mgmt.boot = .off || !g.flag G.PtpEnable || g.get G.PpsDirection ≠ 0 || !second ||
     !(g.flag G.PtpSynchronised || g.flag G.PpsWhileUnsync) then .next s else
  .next ({ s with glob := g.putPtp { g.ptp with ppsEnd := some (ns + 1000000 * g.get G.PpsWidth) } }.ppsStrobe ns t)

/-- PPS_PULSE_END: the pin returns low. -/
def execPpsPulseEnd (ns : Nat) (s : State) : Out :=
  onGlob s ns (fun g =>
    match g.ptp.ppsEnd with
    | some e => if e ≤ ns then g.putPtp { g.ptp with ppsEnd := none } else g
    | none => g)

/-- PtpEnable is written: the clock starts to listen, or stops (R481). -/
def Glob.ptpEnabled (g : Glob) : Glob :=
  if g.flag G.PtpEnable then (if g.get G.PtpPortState = 1 then g.noMaster else g)
  else
    let x := g.ptp
    ((g.unsync).put G.PtpPortState 1).putPtp
      { Ptp.init with ppsEnd := x.ppsEnd, freq := x.freq, freqNs := x.freqNs, integral := x.integral }

/-- An entry that the best master clock algorithm takes from the dictionary has been written: it decides again (R457, R481). -/
def Glob.reselect (g : Glob) : Glob :=
  match g.ptp.parent with
  | none => g.noMaster
  | some p => if g.get G.PtpRole = 1 && !p.better g.ptpOwn then g.unsync.noMaster else g

/-- A PTP entry has been written: a running clock follows its role and priorities, and starts anew under another profile, transport or
domain (R457, R481). -/
def Glob.ptpWritten (g : Glob) (k : Nat) : Glob :=
  if k = G.PtpEnable then g.ptpEnabled
  else if !g.flag G.PtpEnable then g
  else if k = G.PtpRole || k = G.PtpPriority1 || k = G.PtpPriority2 then g.reselect
  else if k = G.PtpProfile || k = G.PtpTransport || k = G.PtpDomain then g.unsync.noMaster
  else g

end Sys2Proof.Machine
end

