-- ==== Sys2Proof/Machine/Plain.lean ====
section
/-! DEFINITION. What a write of an RW or RWS entry does to its cell or to the shared region: the refusals and ranges that depend on other
entries, and the effects that follow at once (R8, R12 to R14). -/

namespace Sys2Proof.Machine

/-- A value of the entry's type and range (R12). -/
def Entry.valueOk (e : Entry) (v : Nat) : Bool :=
  (match e.ty with | .bool => v ≤ 1 | .real32 => real32Finite v | _ => true) && e.rng.ok (8 * e.ty.bytes) v

/-- A DOMAIN entry's own rule for its length, 0 where it has none; a length that breaks it is a value error (R424). -/
def domLength (k : Nat) : Nat :=
  if k = K.Stage1Coefs || k = K.SymbolPattern then 128 else if k = K.DensityPalette then 1024 else 0

/-! Cell entries -/

/-- The present state refuses a write of the entry: layout entries (R325, R327), DMA channels (R382), playback streams (R384), the pattern
program and its regions (R402). -/
def Cell.refuses (c : Cell) (k : Nat) : Bool :=
  let ix := k / 256
  let sub := k % 256
  let st (key : Nat) : Nat := c.get (key + 256 * (ix - key / 256))
  if (ix = 0x900 && 1 ≤ sub && sub ≤ 5) || ((ix = 0x903 || ix = 0x904) && 1 ≤ sub && sub ≤ 8) then c.get K.AccState ≠ 0
  else if 0xB01 ≤ ix && ix ≤ 0xB08 && 2 ≤ sub && sub ≤ 8 then st K.DmaChannelState ≠ 0 && st K.DmaChannelState ≠ 4
  else if 0xC01 ≤ ix && ix ≤ 0xC04 && 4 ≤ sub && sub ≤ 7 then st K.PlaybackState ≠ 0
  else if ix = 0xD01 || ix = 0xD02 then 1 ≤ c.get K.PatternState && c.get K.PatternState ≤ 3
  else false

/-- The four buffer shares with one of them written (R250). -/
def Cell.sharesWith (c : Cell) (k v : Nat) : Nat :=
  allLanes.foldl (fun a i => a + if streamKey K.BufferShare i = k then v else c.get (streamKey K.BufferShare i)) 0

/-- Ranges that depend on other entries (R119, R250, R382). -/
def Cell.depends (c : Cell) (k v : Nat) : Bool :=
  if k = K.SampleRate then (match c.exe.active with | some m => m.allows v | none => true)
  else if K.BufferShare ≤ k && k ≤ K.BufferShare + 0x300 && k % 256 = 1 then c.sharesWith k v ≤ 1024
  else if K.ChainStart ≤ k && k ≤ K.ChainStart + 0x700 && k % 256 = 2 then
    v ≤ 2047 || (c.flag (k + (K.ChainStartInHost - K.ChainStart)) && v ≤ 0xFFFE)
  else true

/-- A number written to an entry that only holds it, with what follows at once: R132, R135, R285, R293. -/
def Cell.store (c : Cell) (k v : Nat) (e : Entry) : Cell :=
  let c : Cell := if k = K.SelfRefreshEnable && !c.flag k then { c with mem := { c.mem with busyNs := c.nowNs } } else c
  let c := c.put k (e.rng.keep v)
  if e.cls = .swath then c.lateStage
  else if k = K.EvoSelect && v = 0x40 then { c with fab := { c.fab with evo0End := none } }
  else if k = K.EvoSelect + 1 && v = 0x40 then { c with fab := { c.fab with evo1End := none } }
  else if k = K.BgEnable then (if v = 0 then { c with cor := { c.cor with blockDisabled := true } } else c)
  else if k = K.RecalEnable then
    (if v = 0 && c.flag K.RecalPending then
      (let c := c.put K.RecalPending 0; if c.get K.HaywardHolder = 1 then c else c.endWait 1) else c)
  else if k = K.RetrainTempDelta then c.judgeRetrain
  else if k = K.ScrubEnable then c.judgeScrub
  else c

/-- A number written to an RW or RWS entry of a cell. -/
def Cell.writeNum (c : Cell) (g : Glob) (k v : Nat) (e : Entry) : Cell × Nat :=
  if c.refuses k then (c, abortState)
  else if !e.valueOk v || !c.depends k v then (c, abortValue)
  else if k = K.RasterEnable then (if v = 1 then c.enableRaster else (c.disableRaster, 0))
  else if k = K.PortEnable then (if v = 1 then c.enablePort else c.disablePort g, 0)
  else if k % 256 = 1 && K.ChannelEnable ≤ k && k ≤ K.ChannelEnable + 0x700 then
    let ch : Fin 8 := Fin.ofNat 8 (k / 256 - K.ChannelEnable / 256)
    (if v = 1 then c.enableChan ch else c.stopChan ch, 0)
  else (c.store k v e, 0)

def exceptCell (c : Cell) (r : Except Nat Cell) : Cell × Nat :=
  match r with
  | .ok x => (x, 0)
  | .error code => (c, code)

/-- A block written to an RW or RWS entry of a cell. -/
def Cell.writeBlock (c : Cell) (k : Nat) (data : List Byte) : Cell × Nat :=
  let ix := k / 256
  let four : Fin 4 := Fin.ofNat 4 (ix - 0x301)
  if k = K.ImageStaged then exceptCell c (c.writeStaged data)
  else if k = K.DsiStartup then exceptCell c (c.writeStartup data)
  else if ix = 0x200 then exceptCell c (c.writeCoefSet (Fin.ofNat 8 (k - K.CoefSet)) data)
  else if 0x301 ≤ ix && ix ≤ 0x304 then c.writeBank four (if k % 256 = 1 then 0 else 1) data
  else if k = K.PatternProgram then
    if c.refuses k then (c, abortState)
    else if data.length < 8 || 8192 < data.length || data.length % 8 ≠ 0 then (c, abortValue) else (c.patSync.putDom k data, 0)
  else if data.length ≠ domLength k || (k = K.Stage1Coefs && !coefsOk data) then (c, abortValue)
  else if k = K.Stage1Coefs then ((c.putDom k data).lateStage, 0)
  else (c.putDom k data, 0)

/-- A write of an RW or RWS entry of a cell that is not held in reset; a held one takes its Reset-class entries only (R490). -/
def Cell.writeDict (c : Cell) (g : Glob) (k : Nat) (e : Entry) (data : List Byte) : Cell × Nat :=
  if c.held && e.cls != .reset then (c, abortState)
  else if e.ty.isBlock then c.writeBlock k data
  else c.writeNum g k (leNat data) e

/-! Shared entries -/

/-- The life-cycle state an entry's rule looks at (R466). -/
def Glob.lifeState (g : Glob) : Nat := if g.mgmt.life.sessionEnd.isSome then 3 else g.mgmt.life.fused

/-- The present state refuses a write of the entry (R430, R466). -/
def Glob.refusesEntry (g : Glob) (k : Nat) : Bool :=
  if k = G.MacAddress then g.lifeState = 2 || g.lifeState = 4
  else if k = G.OwnerKey then g.lifeState ≠ 0
  else if k = G.WideSelect || k = G.WideLength then g.get G.WideState = 1
  else false

/-- The limits of R478 hold together. -/
def limitsOk (set release critical : Int) (warn fault : Nat) : Bool :=
  800 ≤ release && release + 20 ≤ set && 900 ≤ set && set ≤ 1080 && set + 20 ≤ critical && critical ≤ 1150 &&
  10 ≤ warn && warn ≤ 150 && warn ≤ fault && fault ≤ 200

/-- Ranges that depend on other entries (R478). -/
def Glob.depends (g : Glob) (k v : Nat) : Bool :=
  if k < G.ThermGuardSet || G.VoltFaultPct < k then true else
  let g := g.put k v
  limitsOk (g.geti 16 G.ThermGuardSet) (g.geti 16 G.ThermGuardRelease) (g.geti 16 G.ThermCritical) (g.get G.VoltWarnPct)
    (g.get G.VoltFaultPct)

/-- An entry of an indicator colour: its cell, colour and row. -/
def indOf (k : Nat) : Option (CellNo × Fin 3 × Nat) :=
  if k / 256 < 0x2301 || 0x2304 < k / 256 then none
  else some (Fin.ofNat 4 (k / 256 - 0x2301), Fin.ofNat 3 (k % 256 / 16), k % 16)

/-- An entry of a numeric type takes its value: a colour's mode, parameter and target through the indicator (R480), the clock's entries with
what they restart (R457), every other one as written (R13). -/
def Glob.storeNum (g : Glob) (k v : Nat) (e : Entry) : Except Nat Glob :=
  match indOf k with
  | some (n, col, 2) => g.indCurve n col (.mode v)
  | some (n, col, 3) => g.indCurve n col (.param v)
  | some (n, col, 5) => g.indTarget n col v
  | _ =>
    let g := g.put k (e.rng.keep v)
    .ok (g.ptpWritten k)

/-- A DOMAIN entry's length (R480, R482). -/
def globDomLength (k : Nat) : Nat :=
  if k = G.LifeCycleToken then 104 else if k = G.OwnerKey then 97 else if k / 256 = 0x2300 then 16 else 128

/-- A write of an RW entry of the shared region. -/
def Glob.writeDict (g : Glob) (k : Nat) (e : Entry) (data : List Byte) : Except Nat Glob :=
  if g.refusesEntry k then .error abortState
  else if e.ty.isBlock then (if data.length ≠ globDomLength k then .error abortValue else .ok (g.putDom k data))
  else if !e.valueOk (leNat data) || !g.depends k (leNat data) then .error abortValue
  else g.storeNum k (leNat data) e

end Sys2Proof.Machine
end

