-- ==== Sys2Proof/Machine/Profile.lean ====
section
/-! DEFINITION. Profiles: storing, erasing and activating (R464, R465), and the end of an image's verification, which an activation waits
for (R68). -/

namespace Sys2Proof.Machine

def Glob.prof (g : Glob) : Profiles := g.mgmt.profiles
def Glob.putProf (g : Glob) (x : Profiles) : Glob := { g with mgmt := { g.mgmt with profiles := x } }
def Glob.profile (g : Glob) (p : Fin 4) : Profile := g.prof.slots.get p
def Glob.putProfile (g : Glob) (p : Fin 4) (x : Profile) : Glob := g.putProf { g.prof with slots := g.prof.slots.set p x }
def State.profile (s : State) : Profile := s.glob.profile s.glob.prof.current

/-! What a profile holds (R464) -/

/-- The values of DOMAIN entries that nothing has written. -/
def Cell.domDflt (c : Cell) (k : Nat) : List Byte :=
  let ix := k / 256
  if ix = 0x200 then encodeSet (c.setOf (k - K.CoefSet))
  else if k = K.Stage1Coefs then stage1Default
  else if 0x301 ≤ ix && ix ≤ 0x304 then zeros 2048
  else if k = K.SymbolPattern then zeros 128
  else if k = K.DensityPalette then (List.range 256).flatMap (fun i => leBytes 4 (if i = 0 then 0 else 0xFF000000 + i * 0x010101))
  else []

/-- The present value of an RW or RWS entry of a cell, as bytes. -/
def Cell.bytesOf (c : Cell) (k : Nat) (e : Entry) : List Byte :=
  if k = K.ImageStaged then c.exe.stagedBytes
  else if e.ty.isBlock then c.dom k (c.domDflt k)
  else leBytes e.ty.bytes (c.get k)

/-- The same of the shared region. -/
def Glob.bytesOf (g : Glob) (k : Nat) (e : Entry) : List Byte :=
  if !e.ty.isBlock then leBytes e.ty.bytes (g.get k)
  else g.dom k (if k / 256 = 0x2300 then compDefault else if (indOf k).isSome then linearCurve else [])

/-- The RW and RWS entries of a block, in ascending index and sub-index; ImageStaged travels as an image. -/
def storedOf (rows : List Entry) (block : Nat) : List (Nat × Nat × Entry) :=
  (List.range 256).flatMap (fun i =>
    (rows.filter (fun e => e.hasIx (256 * block + i) && (e.acc == .rw || e.acc == .rws))).flatMap (fun e =>
      ((List.range e.nSub).map (fun j => (256 * block + i, e.sub + j, e))).filter (fun x => 256 * x.1 + x.2.1 != K.ImageStaged)))

def storedGlob : List (Nat × Nat × Entry) := (List.range 8).flatMap (fun b => storedOf (globBlock (0x20 + b)) (0x20 + b))
def storedCell : List (Nat × Nat × Entry) := (List.range 15).flatMap (fun b => storedOf (cellBlock b) b)

/-- The present state as a profile. -/
def State.snapshot (s : State) : Profile :=
  let gs := storedGlob.map (fun x => (x.1, x.2.1, s.glob.bytesOf (256 * x.1 + x.2.1) x.2.2))
  let cs := allCellNos.flatMap (fun n =>
    storedCell.map (fun x => (0x4000 + 0x1000 * n.val + x.1, x.2.1, (s.cell n).bytesOf (256 * x.1 + x.2.1) x.2.2)))
  { valid := false, corrupt := true, entries := gs ++ cs
    active := allCellNos.map (fun n => ((s.cell n).exe.active.map Image.bytes).getD [])
    staged := allCellNos.map (fun n => if (s.cell n).flag K.StagedValid then (s.cell n).exe.stagedBytes else []) }

/-- The stored bytes of a profile, in the model's own order. -/
def Profile.bytes (x : Profile) : List Byte :=
  x.entries.flatMap (fun e => leBytes 2 e.1 ++ leBytes 1 e.2.1 ++ e.2.2) ++ x.active.flatten ++ x.staged.flatten

/-- ProfileStatus, ProfileSize and ProfileHash (R482). -/
def Profile.status (x : Profile) : Nat := if x.valid then 1 else if x.corrupt then 2 else 0
def Profile.size (x : Profile) : Nat := if x.status = 0 then 0 else Config.profileSize x.bytes % 2 ^ 32
def Profile.hash (x : Profile) : List Byte := (List.range 32).map (fun i => BitVec.ofNat 8 (Config.profileHash x.bytes i))

/-! Storing and erasing -/

/-- A profile command is refused while an activation runs (R465), and for a number above 3. -/
def Glob.profileArg (g : Glob) (value : Nat) : Except Nat (Fin 4) :=
  if g.get G.ProfileState = 2 then .error abortState else if 3 < value then .error abortValue else .ok (Fin.ofNat 4 value)

/-- ProfileState but for an activation: what the running store or erase gives. -/
def jobState (jobs : List ProfileJob) : Nat :=
  match jobs with
  | [] => 0
  | .store _ _ :: _ => 1
  | .erase _ :: _ => 3

/-- The first job begins: until it is done the profile fails its hash (R464, R491). -/
def Glob.beginJob (g : Glob) : Glob :=
  match g.prof.jobs with
  | [] => g
  | .store p x :: _ => g.putProfile p x
  | .erase p :: _ =>
    let x := g.profile p
    g.putProfile p { x with valid := false, corrupt := x.valid || x.corrupt }

/-- ProfileState follows the jobs while no activation runs. -/
def Glob.showJobs (g : Glob) : Glob := if g.get G.ProfileState = 2 then g else g.put G.ProfileState (jobState g.prof.jobs)

/-- A store or an erase is accepted; it waits while another runs. -/
def Glob.queueJob (g : Glob) (j : ProfileJob) : Glob :=
  let idle := g.prof.jobs.isEmpty
  let g := g.putProf { g.prof with jobs := g.prof.jobs ++ [j] }
  (if idle then g.beginJob else g).showJobs

/-- The running job is done, with what it leaves; the next one begins. -/
def Glob.endJob (g : Glob) (p : Fin 4) (x : Profile) : Glob :=
  let g := g.putProfile p x
  ((g.putProf { g.prof with jobs := g.prof.jobs.drop 1 }).beginJob).showJobs

/-- PROFILE_STORE: the present state is to be stored (R464). -/
def execProfileStore (ns : Nat) (p : Port) (value : Nat) (s : State) : Out :=
  onGlobPort s ns p G.ProfileStore (fun g => (g.profileArg value).map (fun i => g.queueJob (.store i s.snapshot)))

/-- PROFILE_STORE_DONE. -/
def execProfileStoreDone (ns : Nat) (s : State) : Out :=
  onGlob s ns (fun g =>
    match g.prof.jobs with
    | .store p _ :: _ => g.endJob p { g.profile p with valid := true, corrupt := false }
    | _ => g)

/-- PROFILE_ERASE: the profile is to be emptied. -/
def execProfileErase (ns : Nat) (p : Port) (value : Nat) (s : State) : Out :=
  onGlobPort s ns p G.ProfileErase (fun g => (g.profileArg value).map (fun i => g.queueJob (.erase i)))

/-- PROFILE_ERASE_DONE. -/
def execProfileEraseDone (ns : Nat) (s : State) : Out :=
  onGlob s ns (fun g =>
    match g.prof.jobs with
    | .erase p :: _ => g.endJob p emptyProfile
    | _ => g)

/-! Activation (R465) -/

/-- A write of the activation that failed: entry 1F02h, and its count. -/
def Glob.profileError (g : Glob) (ix sub code : Nat) : Glob :=
  (g.inc32 G.ProfileEntryErrors).logEntry 15 0x1F02 1 (leBytes 2 ix ++ leBytes 1 sub ++ leBytes 4 code)

/-- The result of a write through Pangobor's port. -/
def State.noteWrite (s : State) (ix sub code : Nat) : State :=
  let g := s.glob.answer .pangobor code
  { s with glob := if code = 0 then g else g.profileError ix sub code }

/-- Work on cell `n` at its present cycle. -/
def State.onCellNow (s : State) (n : CellNo) (f : Cell → Cell × Nat) : State × Nat :=
  let w : When := ⟨s.glob.nowNs, (s.cell n).now⟩
  let r := f (s.cellAt n w)
  (s.close n w r.1, r.2)

/-- One stored entry is written. -/
def State.writeStored (s : State) (x : Nat × Nat × List Byte) : State :=
  match cellOfIx x.1 with
  | some (n, ix) =>
    let k := 256 * ix + x.2.1
    match cellEntry? k with
    | none => s
    | some e =>
      let r := s.onCellNow n (fun c => c.writeDict s.glob k e x.2.2)
      r.1.noteWrite x.1 x.2.1 r.2
  | none =>
    let k := 256 * x.1 + x.2.1
    match globEntry? k with
    | none => s
    | some e =>
      match s.glob.writeDict k e x.2.2 with
      | .ok g => ({ s with glob := g } : State).noteWrite x.1 x.2.1 0
      | .error code => s.noteWrite x.1 x.2.1 code

/-- Which step writes a stored entry: 1 the Reset-class entries, 6 the enabling ones, 3 the others. -/
def stepOf (x : Nat × Nat × List Byte) : Nat :=
  let k := 256 * (match cellOfIx x.1 with | some (_, ix) => ix | none => x.1) + x.2.1
  let cell := (cellOfIx x.1).isSome
  let cls := match if cell then cellEntry? k else globEntry? k with | some e => e.cls | none => Class.none
  if cls = .reset then 1
  else if cell && (k = K.RasterEnable || k = K.PortEnable || (k / 256 ≥ 0xB01 && k / 256 ≤ 0xB08 && k % 256 = 1)) then 6
  else 3

def State.writeStep (s : State) (step : Nat) : State :=
  (s.profile.entries.filter (fun x => stepOf x == step)).foldl State.writeStored s

def Glob.putPhase (g : Glob) (n : CellNo) (ph : LoadPhase) : Glob := g.putProf { g.prof with phases := g.prof.phases.set n ph }

/-- An image is written to ImageStaged; a failed write is logged. -/
def State.loadImage (s : State) (n : CellNo) (data : List Byte) (ok : LoadPhase) : State :=
  let r := s.onCellNow n (fun c => if c.held then (c, abortState) else exceptCell c (c.writeStaged data))
  let s := r.1.noteWrite (cellIx n K.ImageStaged) 1 r.2
  { s with glob := s.glob.putPhase n (if r.2 = 0 then ok else .done) }

/-- Step 5 begins in one cell: its active image, or at once its staged one. -/
def State.startImages (s : State) (n : CellNo) : State :=
  let a := (s.profile.active[n.val]?).getD []
  let b := (s.profile.staged[n.val]?).getD []
  if a ≠ [] then s.loadImage n a .active
  else if b ≠ [] then s.loadImage n b .staged
  else { s with glob := s.glob.putPhase n .done }

/-- Step 4 in one cell. -/
def State.commitCell (s : State) (n : CellNo) : State :=
  let r := s.onCellNow n (fun c => if c.held then (c, abortState) else ((c.put K.CommitPending 1).lateStage, 0))
  r.1.noteWrite (cellIx n K.Commit) 1 r.2

/-- Step 1 of an activation. -/
def State.activateFirst (s : State) (p : Fin 4) : State :=
  let g := ((s.glob.putProf { s.glob.prof with current := p, phases := Vector.replicate 4 .done }).put G.ProfileState 2).put
    G.ProfileEntryErrors 0
  { s with glob := g }.writeStep 1

/-- Steps 3 to 5, after the reset of the cells. -/
def State.activateRest (s : State) : State :=
  if !s.profile.valid then s else
  let s := allCellNos.foldl State.commitCell (s.writeStep 3)
  allCellNos.foldl State.startImages s

/-- A profile whose hash fails is not loaded. -/
def Glob.refuseCorrupt (g : Glob) : Glob := g.logEntry 15 0x1F02 1 (leBytes 3 0 ++ leBytes 4 abortInternal)

/-- PROFILE_ACTIVATE: a write of ProfileActivate.  The images and the enabling entries follow as the cells allow. -/
def execProfileActivate (ns : Nat) (p : Port) (value : Nat) (s : State) : Out :=
  let r := onGlobPort s ns p G.ProfileActivate (fun g =>
    (g.profileArg value).map (fun i => (g.putProf { g.prof with current := i }).put G.ProfileState 2))
  match r with
  | .next t =>
    if t.glob.get G.ProfileState ≠ 2 || s.glob.get G.ProfileState = 2 then .next t
    else if t.profile.corrupt then .next { t with glob := ((t.glob.put G.ProfileState 0).showJobs).refuseCorrupt }
    else .next ((t.activateFirst t.glob.prof.current).resetCells 15).activateRest
  | o => o

/-- The activation can end in a cell: its verification and its swap are over. -/
def State.imagesLoaded (s : State) (n : CellNo) : Bool :=
  match s.glob.prof.phases.get n with
  | .active => (s.cell n).exe.bank != .verifying
  | .swap => !(s.cell n).flag K.SwapPending
  | _ => true

/-- The stored staged image follows the swap. -/
def State.lastImage (s : State) (n : CellNo) : State :=
  let b := (s.profile.staged[n.val]?).getD []
  if s.glob.prof.phases.get n = .swap && b ≠ [] then s.loadImage n b .staged else s

/-- PROFILE_ACTIVATION_DONE: once the swaps have applied, the staged images, step 6, and entry 1F01h. -/
def execProfileActivationDone (w : When4) (s : State) : Out :=
  let s := { s with glob := s.glob.at w.ns }
  if s.glob.get G.ProfileState ≠ 2 || !allCellNos.all s.imagesLoaded then .next s else
  let s := allCellNos.foldl (fun s n => if (s.cell n).held then s else s.setCell n { s.cell n with now := (strobeOf w.at' n).cc }) s
  let s := allCellNos.foldl State.lastImage s
  let s := if s.profile.valid then s.writeStep 6 else s
  let g := ((s.glob.put G.ProfileState 0).showJobs).put G.ProfileActive s.glob.prof.current.val
  .next { s with glob := g.logEntry 15 0x1F01 1 (leBytes 1 g.prof.current.val ++ leBytes 4 (g.get G.ProfileEntryErrors)) }

/-! Verification of a staged image (R68) -/

/-- An activation goes on once the image it loaded has been verified: the swap is requested, or the refused image counts as a failed
entry. -/
def State.afterVerify (s : State) (n : CellNo) : State :=
  if s.glob.get G.ProfileState ≠ 2 || s.glob.prof.phases.get n ≠ .active then s else
  if (s.cell n).flag K.StagedValid then
    let r := s.onCellNow n (fun c => exceptCell c c.requestSwap)
    let s := r.1.noteWrite (cellIx n K.SwapRequest) 5 r.2
    { s with glob := s.glob.putPhase n .swap }
  else { s with glob := (s.glob.profileError (cellIx n K.ImageStaged) 1 abortValue).putPhase n .done }

/-- IMAGE_VERIFY_DONE: verification ends with ImageStatus, and StagedValid on success (R67, R68). -/
def execImageVerifyDone (n : CellNo) (w : When) (s : State) : Out :=
  if (s.cell n).held || (s.cell n).exe.bank ≠ .verifying then onCell s n w (fun _ c => c) else
  match onCell s n w (fun g c => c.verifyStaged g n) with
  | .next t => .next (t.afterVerify n)
  | o => o

end Sys2Proof.Machine
end

