-- ==== Sys2Proof/Machine/Update.lean ====
section
/-! DEFINITION. The firmware update path: slots, the update commands, verification, confirmation and the choice of the boot ROM (R460 to
R463). -/

namespace Sys2Proof.Machine

def Glob.upd (g : Glob) : Update := g.mgmt.update
def Glob.putUpd (g : Glob) (u : Update) : Glob := { g with mgmt := { g.mgmt with update := u } }

/-- The state in ProgramStatus [7:0] (R462). -/
def Glob.updState (g : Glob) : Nat := bits (g.get G.ProgramStatus) 0 8

/-- A step of the update: its state and error, logged (R462). -/
def Glob.updStep (g : Glob) (st err : Nat) : Glob :=
  (g.put G.ProgramStatus (st + err * 65536)).logEntry 15 0x1F51 1 (leBytes 1 st ++ leBytes 2 err)

/-- A port may command the running update: it wrote BEGIN, or no update is owned (R462). -/
def Glob.ownedBy (g : Glob) (p : Port) : Bool :=
  match g.upd.owner with
  | some q => q == p
  | none => true

/-- The slot that BEGIN erases: the one that is not running, or slot A when none runs (R462, R463). -/
def Glob.eraseTarget (g : Glob) : Fin 2 := if g.bootRom then 0 else if g.get G.RunningSlot = 0 then 1 else 0

def Update.putSlot (u : Update) (i : Fin 2) (x : Slot) : Update := { u with slots := u.slots.set i x }

/-- The target slot is no longer a valid image. -/
def Update.spoil (u : Update) (i : Fin 2) : Update := u.putSlot i { u.slots.get i with valid := false }

/-- BEGIN: accepted in states 0, 4, 5 and 6, and not while a profile activates (R462, R465). -/
def execBegin (ns : Nat) (p : Port) (s : State) : Out :=
  onGlobPort s ns p G.ProgramControl (fun g =>
    if !([0, 4, 5, 6].contains g.updState) || !g.ownedBy p || g.get G.ProfileState = 2 then .error abortState else
    let t := g.eraseTarget
    let u := g.upd.spoil t
    .ok (((g.putUpd { u with owner := some p, target := t, received := [] }).put G.ProgramOffset 0).updStep 1 0))

/-- ERASE_DONE: the erase ends, or the flash failed. -/
def execEraseDone (ns : Nat) (ok : Bool) (s : State) : Out :=
  onGlob s ns (fun g => if g.updState ≠ 1 then g else if ok then g.updStep 2 0 else g.updStep 6 7)

/-- Bytes of a slot (R460). -/
abbrev slotBytes : Nat := 8388608

/-- PROGRAM_DATA: bytes are appended at ProgramOffset (R462); a write past the end of the slot breaks its length rule. -/
def execProgramData (ns : Nat) (p : Port) (data : List Byte) (ok : Bool) (s : State) : Out :=
  onGlobPort s ns p G.ProgramData (fun g =>
    if 32768 < data.length then .error abortTooLong else
    if g.updState ≠ 2 || !g.ownedBy p then .error abortState else
    let n := g.upd.received.length + data.length
    if slotBytes < n then .error abortValue else
    if !ok then .ok (g.updStep 6 7) else
    .ok ((g.putUpd { g.upd with received := g.upd.received ++ data }).put G.ProgramOffset n))

/-- VERIFY: the checks start (R462). -/
def execVerify (ns : Nat) (p : Port) (s : State) : Out :=
  onGlobPort s ns p G.ProgramControl (fun g => if g.updState ≠ 2 || !g.ownedBy p then .error abortState else .ok (g.updStep 3 0))

/-- The error of a firmware image, in the order header, hash, signature, rollback rule; 0 for none (R461, R462). -/
def imageError (b : List Byte) (counter : Nat) : Nat :=
  let len := fld b 8 4
  if b.length < 256 || fld b 0 4 ≠ 0x4E504657 || fld b 4 2 ≠ 256 || fld b 6 1 ≠ 1 || 63 < fld b 7 1 then 1
  else if fld b 12 4 ≠ 0x4160 then 2
  else if slotBytes < 256 + len || 256 + len < b.length then 3
  else if b.length < 256 + len || sha384 (b.drop 256) ≠ slice b 48 48 then 4
  else if !ecdsaOk Config.firmwareKeyX Config.firmwareKeyY (slice b 0 96) (slice b 96 96) then 5
  else if fld b 7 1 < counter then 6
  else 0

/-- The text of a Version field (R422). -/
def versionText (b : List Byte) : List Byte := b.takeWhile (fun x => x != 0)

/-- VERIFY_DONE: verified, or failed with its error. -/
def execVerifyDone (ns : Nat) (s : State) : Out :=
  onGlob s ns (fun g =>
    if g.updState ≠ 3 then g else
    let u := g.upd
    let e := imageError u.received u.counter
    if e ≠ 0 then g.updStep 6 e else
    (g.putUpd (u.putSlot u.target ⟨true, versionText (slice u.received 16 32), fld u.received 7 1⟩)).updStep 4 0)

/-- ACTIVATE: the new slot is preferred and on trial from the next device reset (R462). -/
def execActivate (ns : Nat) (p : Port) (s : State) : Out :=
  onGlobPort s ns p G.ProgramControl (fun g =>
    if g.updState ≠ 4 || !g.ownedBy p then .error abortState else
    .ok ((g.putUpd { g.upd with owner := none, preferred := g.upd.target, trial := true, attempts := 0 }).updStep 5 0))

/-- CANCEL: the slot is left invalid and the preference unchanged (R462). -/
def execCancel (ns : Nat) (p : Port) (s : State) : Out :=
  onGlobPort s ns p G.ProgramControl (fun g =>
    if g.updState < 1 || 5 < g.updState || !g.ownedBy p then .error abortState else
    .ok ((g.putUpd { g.upd.spoil g.upd.target with owner := none, received := [] }).updStep 0 0))

/-- The self-test ends within 10 s of the slot's start; R463 does not say from which instant (log entry 151). -/
def Glob.inTrial (g : Glob) : Bool := g.nowNs ≤ g.upd.startNs + 10000000000

/-- SLOT_CONFIRM: the trial slot that runs is confirmed, and the fused counter follows its RollbackIndex (R463). -/
def execSlotConfirm (ns : Nat) (s : State) : Out :=
  onGlob s ns (fun g =>
    let u := g.upd
    if g.mgmt.boot ≠ .running || !u.trial || !g.inTrial || g.get G.RunningSlot ≠ u.preferred.val then g else
    let r := (u.slots.get u.preferred).rollback
    let v : Update := { u with trial := false, attempts := 0 }
    if r ≤ u.counter then g.putUpd v else
    (g.putUpd { v with counter := r }).logEntry 15 0x1F52 1 (leBytes 1 u.counter ++ leBytes 1 r))

/-! What the boot ROM starts (R463) -/

def Update.bootable (u : Update) (i : Fin 2) : Bool := (u.slots.get i).valid && u.counter ≤ (u.slots.get i).rollback

/-- The slot started, if any, and whether a trial failed twice.  A start of a trial slot, or a trial slot that does not verify, counts
as one attempt. -/
def Update.choose (u : Update) : Update × Option (Fin 2) × Bool :=
  let other : Fin 2 := if u.preferred = 0 then 1 else 0
  let start := if u.bootable u.preferred then some u.preferred else if u.bootable other then some other else none
  let fallback := if u.bootable other then some other else if u.bootable u.preferred then some u.preferred else none
  if !u.trial then (u, start, false)
  else if u.attempts = 2 || (u.attempts = 1 && !u.bootable u.preferred) then
    ({ u with preferred := other, trial := false, attempts := 0 }, fallback, true)
  else ({ u with attempts := u.attempts + 1 }, start, false)

end Sys2Proof.Machine
end

