-- ==== Sys2Proof/Machine/LifeCycle.lean ====
section
/-! DEFINITION. The life cycle: its transitions, the tokens that authorise them, and the SERVICE session (R466 to R468). -/

namespace Sys2Proof.Machine

/-- The life-cycle state changes; LifeCycleState follows the fuses and the session on top of them (R466). -/
def Glob.putLife (g : Glob) (l : Life) : Glob :=
  let g : Glob := { g with mgmt := { g.mgmt with life := l } }
  g.put G.LifeCycleState g.lifeState

/-- The nonce is renewed (R467). -/
def Life.renew (l : Life) : Life := { l with nonce := drawNonce (l.nonces + 1), nonces := l.nonces + 1 }
def Glob.renewNonce (g : Glob) : Glob := { g with mgmt := { g.mgmt with life := g.mgmt.life.renew } }

/-- The pairs of R467 that need a token, and those that need none. -/
def tokenPair (from' dest : Nat) : Bool := (from' == 2 && dest == 3) || (1 ≤ from' && from' ≤ 3 && dest == 4)
def plainPair (from' dest : Nat) : Bool :=
  (from' == 0 && dest == 1) || (from' == 1 && dest == 2) || (from' == 3 && dest == 2) || (from' == 0 && dest == 4)

/-- Why the token does not authorise a request: 2 no key, 3 malformed, 4 signature, 5 duration; 0 when it does (R467, R468). -/
def Glob.tokenFault (g : Glob) (dest : Nat) : Nat :=
  let t := g.dom G.LifeCycleToken []
  let dur := fld t 4 4
  match pointOf (g.dom G.OwnerKey []) with
  | none => 2
  | some (x, y) =>
    if t.length ≠ 104 || fld t 0 1 ≠ dest then 3
    else if !ecdsaOk x y (leBytes 4 (g.get G.SerialNumber) ++ g.mgmt.life.nonce ++ slice t 0 8) (slice t 8 96) then 4
    else if (if dest = 3 then dur < 60 || 86400 < dur else dur ≠ 0) then 5
    else 0

/-- A wipe, an update erase or a profile activation runs (R468). -/
def Glob.lifeBusy (g : Glob) : Bool :=
  allCellNos.any (fun n => wiping g n) || g.updState == 1 || g.get G.ProfileState == 2

/-- The reason of a refusal, 0 for none; being busy is an access error, which R424 ranks before the value errors. -/
def Glob.lifeReason (g : Glob) (dest : Nat) : Nat :=
  let st := g.lifeState
  if g.lifeBusy then 6
  else if tokenPair st dest then g.tokenFault dest
  else if !plainPair st dest then 1
  else if dest = 1 && (pointOf (g.dom G.OwnerKey [])).isNone then 2
  else 0

/-- The fuses and the session after a transition. -/
def Glob.lifeAfter (g : Glob) (dest : Nat) : Life :=
  let l := g.mgmt.life
  if dest = 3 then { l with sessionEnd := some (g.nowNs + fld (g.dom G.LifeCycleToken []) 4 4 * 1000000000) }
  else { l with fused := dest, sessionEnd := none }

/-- An accepted request is carried out: all cells reset with a wipe, then the state changes (R468). -/
def State.enterLife (s : State) (l : Life) : State :=
  let old := s.glob.lifeState
  let s := s.resetCells 15
  let g := s.glob.putLife l
  { s with glob := g.logEntry 15 0x1F21 1 (leBytes 1 old ++ leBytes 1 g.lifeState) }

/-- A write of LifeCycleRequest for one target (R467, R468). -/
def State.requestLife (s : State) (ns : Nat) (p : Port) (dest : Nat) : State :=
  let s := { s with glob := s.glob.at ns }
  if !s.glob.serves p then s
  else if s.glob.bootRom then { s with glob := s.glob.failed p 0x1F20 2 abortState } else
  let g := s.glob
  let reason := g.lifeReason dest
  let l := g.lifeAfter dest
  let t : State := { s with glob := if tokenPair g.lifeState dest then g.renewNonce else g }
  let l : Life := { l with nonce := t.glob.mgmt.life.nonce, nonces := t.glob.mgmt.life.nonces }
  if reason ≠ 0 then
    { t with glob := (t.glob.put G.LifeCycleError reason).failed p 0x1F20 2 (if reason = 6 then abortState else abortValue) }
  else ({ t with glob := t.glob.answer p 0 } : State).enterLife l

/-- LC_TO_PROVISIONED. -/
def execLcToProvisioned (ns : Nat) (p : Port) (s : State) : Out := .next (s.requestLife ns p 1)

/-- LC_TO_FIELD. -/
def execLcToField (ns : Nat) (p : Port) (s : State) : Out := .next (s.requestLife ns p 2)

/-- LC_TO_SERVICE. -/
def execLcToService (ns : Nat) (p : Port) (s : State) : Out := .next (s.requestLife ns p 3)

/-- LC_TO_RETIRED. -/
def execLcToRetired (ns : Nat) (p : Port) (s : State) : Out := .next (s.requestLife ns p 4)

/-- ServiceRemaining, in s (R468). -/
def Glob.serviceLeft (g : Glob) : Nat :=
  match g.mgmt.life.sessionEnd with
  | some e => ceilDiv (e - g.nowNs) 1000000000
  | none => 0

/-- SERVICE_EXPIRY: at 0 the session returns to FIELD by the same steps. -/
def execServiceExpiry (ns : Nat) (s : State) : Out :=
  let s := { s with glob := s.glob.at ns }
  match s.glob.mgmt.life.sessionEnd with
  | some e => if e ≤ ns then .next (s.enterLife { s.glob.mgmt.life with sessionEnd := none }) else .next s
  | none => .next s

end Sys2Proof.Machine
end

