-- ==== Sys2Proof/Machine/Boot.lean ====
section
/-! DEFINITION. Device resets, PERST_N, power, the boot (R463, R465, R488 to R494) and the test access port (R507). -/

namespace Sys2Proof.Machine

/-! What a device reset leaves (R489) -/

def isGlobReset (k : Nat) : Bool := match globEntry? k with | some e => e.cls = .reset | none => false

/-- The log over a reset: a power-on reset loses the ring and goes on after the newest mirrored entry; a copy that ran is lost (R453,
R489, R491). -/
def EventLog.afterReset (x : EventLog) (power : Bool) : EventLog :=
  if power then
    { ring := [], nextSeq := (match x.mirror with | e :: _ => wrapAdd 32 e.seq 1 | [] => 0), mirror := x.mirror, phase := .idle,
      unmirrored := 0, copying := 0 }
  else { x with phase := .idle, copying := 0 }

/-- The management complex over a device reset: flash and fuses stay, the session ends, the nonce is renewed (R467, R489, R491). -/
def Mgmt.afterReset (m : Mgmt) (power : Bool) : Mgmt :=
  { Mgmt.init with
    boot := .off
    update := { m.update with owner := none, received := [] }
    profiles := { m.profiles with jobs := [], phases := Vector.replicate 4 .done }
    life := { m.life.renew with sessionEnd := none }
    tap := if power then Mgmt.init.tap else m.tap }

/-- The shared region at a device reset: every entry at its default, but for Reset-class entries, which a power-on reset alone
clears (R489). -/
def Glob.afterReset (g : Glob) (power : Bool) : Glob :=
  let kept := if power then [] else g.regs.filter (fun e => isGlobReset e.1)
  { Glob.init with
    nowNs := g.nowNs, regs := kept, rst := kept, fresh := g.fresh
    hst := { HostPort.init with wide := if power then [] else g.hst.wide, perst := g.hst.perst, readyBy := g.nowNs + 50000000 }
    mgmt := g.mgmt.afterReset power, log := g.log.afterReset power }

/-- A cell at a device reset: held.  A power-on reset clears its Reset-class entries and FgCalCount as well (R489). -/
def Cell.afterDevice (c : Cell) (power : Bool) : Cell :=
  if power then { Cell.init with nowNs := c.nowNs, held := true, mem := { Cell.init.mem with fresh := c.mem.fresh } }
  else { c.afterReset with held := true }

def State.resetDevice (s : State) (power : Bool) : State :=
  { s with cells := s.cells.map (fun c => c.afterDevice power), glob := s.glob.afterReset power }

/-! The boot (R463, R465, R494) -/

def Glob.putBoot (g : Glob) (b : Boot) : Glob := { g with mgmt := { g.mgmt with boot := b } }

/-- The boot ROM reads the fuses and starts a slot, or stays in control: with no slot that verifies, or with a flash that is too small
(R460, R463). -/
def Glob.startSlot (g : Glob) (sel : Fin 4) : Glob :=
  let g := (g.putLife g.mgmt.life).put G.ProfilePinValue sel.val
  if g.flashShort then (g.setFault 3).putBoot .released else
  let failed := g.upd.preferred
  let (u, start, fell) := g.upd.choose
  let g := g.putUpd u
  let g := if fell then g.logEntry 15 0x1F53 2 (leBytes 1 failed.val ++ leBytes 1 2) else g
  match start with
  | some i => ((g.putUpd { g.upd with startNs := g.nowNs }).put G.RunningSlot i.val).putBoot .running
  | none => (g.setFault 3).putBoot .released

/-- Pangobor starts the CAN FD and Ethernet ports with the Reset-class values then stored (R438, R444, R465). -/
def Glob.startPorts (g : Glob) : Glob :=
  let g := { g with rst := g.regs.filter (fun e => isGlobReset e.1) }
  let g := g.put G.CanState (if g.inForce G.CanEnable = 1 then 1 else 0)
  g.put G.IpApplied (if g.inForce G.IpMode = 0 then g.inForce G.IpAddress else 0)

/-- The boot of R494, with the profile that PROFILE_SEL[1:0] selects. -/
def State.boot (s : State) (sel : Fin 4) : State :=
  let s := { s with glob := s.glob.startSlot sel }
  if s.glob.mgmt.boot ≠ .running then s else
  let corrupt := (s.glob.profile sel).corrupt
  let s : State := if corrupt then { s with glob := s.glob.refuseCorrupt } else s.activateFirst sel
  let s := ({ s with glob := s.glob.startPorts } : State).releaseFree
  if corrupt then s else s.activateRest

/-- A device reset of any kind but power-on, and the boot that follows it. -/
def State.deviceReset (s : State) (sel : Fin 4) : State := (s.resetDevice false).boot sel

/-- DEVICE_RESET_REQUEST: a write of 1; the reset follows the answer (R483, R489). -/
def execDeviceResetRequest (ns : Nat) (p : Port) (sel : Fin 4) (s : State) : Out :=
  if !s.glob.serves p then .next { s with glob := s.glob.at ns }
  else if s.glob.bootRom then .next { s with glob := (s.glob.at ns).failed p 0x2800 9 abortState }
  else .next (({ s with glob := (s.glob.at ns).answer p 0 } : State).deviceReset sel)

/-- SYSTEM_RESET: SYS_RST_N was low for `low` ns; from 10 µs on it resets the device, under 1 µs it is ignored (R489). -/
def execSystemReset (ns low : Nat) (sel : Fin 4) (s : State) : Out :=
  let s := { s with glob := s.glob.at ns }
  let acts := if 10000 ≤ low then true else if low < 1000 then false else Config.systemResetAt low
  if s.glob.mgmt.boot = .off || !acts then .next s else .next (s.deviceReset sel)

/-- PERST_ASSERT: PERST_N resets the host port alone, or the device, as HostResetScope says (R472, R489). -/
def execPerstAssert (ns : Nat) (sel : Fin 4) (s : State) : Out :=
  let s := { s with glob := s.glob.at ns }
  if s.glob.hst.perst then .next s else
  let g := s.glob
  let s := { s with glob := { g with hst := { g.hst with perst := true } } }
  if g.mgmt.boot = .off then .next s
  else if g.flag G.HostResetScope then .next (s.deviceReset sel)
  else .next s.resetHostPort

/-- PERST_RELEASE: link training starts; configuration requests may be answered with RRS for a while (R493). -/
def execPerstRelease (ns : Nat) (s : State) : Out :=
  let g := s.glob.at ns
  if !g.hst.perst then .next { s with glob := g } else
  .next { s with glob :=
    { g with hst := { g.hst with perst := false, readyBy := ns + if ns < g.hst.readyBy then 50000000 else 5000000 } } }

/-- POWER_DROP: the power-on reset asserts and holds the whole device (R488). -/
def execPowerDrop (ns : Nat) (s : State) : Out := .next (({ s with glob := s.glob.at ns } : State).resetDevice true)

/-- POWER_ON_RELEASE: the power-on reset releases and the boot begins (R488, R494). -/
def execPowerOnRelease (ns : Nat) (sel : Fin 4) (s : State) : Out :=
  let s := { s with glob := s.glob.at ns }
  if s.glob.mgmt.boot = .running || s.glob.bootRom then .next s else
  let g := s.glob
  .next (({ s with glob := { g with hst := { g.hst with readyBy := ns + 50000000 } } } : State).boot sel)

/-! The test access port (R507) -/

/-- The identification code: stepping, part, manufacturer, 1. -/
def Glob.idCode (g : Glob) : Nat := bits (g.get G.RevisionNumber) 16 4 * 2 ^ 28 + 0x4160 * 2 ^ 12 + 0x2B5 * 2 + 1

/-- An instruction is loaded.  A test instruction holds all four cells in reset; the next other one releases them, with a wipe. -/
def State.loadTap (s : State) (ns : Nat) (t : Tap) : State :=
  let s := { s with glob := s.glob.at ns }
  if s.glob.mgmt.boot = .off then s else
  let was := s.glob.mgmt.tap.instr.isTest
  let g := s.glob
  let s : State := { s with glob := { g with mgmt := { g.mgmt with tap := t } } }
  if t.instr.isTest then (if was then s else s.holdAll) else if was then s.releaseFree else s

/-- BYPASS: the one-bit register captures 0. -/
def execBypass (ns : Nat) (s : State) : Out := .next (s.loadTap ns { s.glob.mgmt.tap with instr := .bypass, captured := 0 })

/-- IDCODE. -/
def execIdcode (ns : Nat) (s : State) : Out :=
  .next (s.loadTap ns { s.glob.mgmt.tap with instr := .idcode, captured := s.glob.idCode })

/-- SAMPLE/PRELOAD: the pin states are captured, and the states for the tests loaded. -/
def execSamplePreload (ns pins preload : Nat) (s : State) : Out := .next (s.loadTap ns ⟨.samplePreload, pins, preload⟩)

/-- EXTEST: the preloaded states drive the pins. -/
def execExtest (ns pins : Nat) (s : State) : Out :=
  .next (s.loadTap ns { s.glob.mgmt.tap with instr := .extest, captured := pins })

/-- EXTEST_PULSE and EXTEST_TRAIN, for the AC-coupled lanes. -/
def execExtestPulse (ns pins : Nat) (s : State) : Out :=
  .next (s.loadTap ns { s.glob.mgmt.tap with instr := .extestPulse, captured := pins })

def execExtestTrain (ns pins : Nat) (s : State) : Out :=
  .next (s.loadTap ns { s.glob.mgmt.tap with instr := .extestTrain, captured := pins })

/-- CLAMP: the preloaded states hold, and the bypass register is selected. -/
def execClamp (ns : Nat) (s : State) : Out := .next (s.loadTap ns { s.glob.mgmt.tap with instr := .clamp, captured := 0 })

/-- HIGHZ: the outputs float. -/
def execHighz (ns : Nat) (s : State) : Out := .next (s.loadTap ns { s.glob.mgmt.tap with instr := .highz, captured := 0 })

/-- TAP_RESET: the identification code is selected, and the cells are released. -/
def execTapReset (ns : Nat) (s : State) : Out := .next (s.loadTap ns { s.glob.mgmt.tap with instr := .idcode, captured := 0 })

end Sys2Proof.Machine
end

