-- ==== Sys2Proof/Machine/Fabric.lean ====
section
/-! DEFINITION. The event fabric of a cell (R31 to R34): software events, the EVI and DREQ pins, the EVO outputs, the event counters. -/

namespace Sys2Proof.Machine

/-- SW_EVENT: a write of 1 to SwEvent pulses line 44 + i in the next cc (R34). -/
def execSwEvent (n : CellNo) (w : When) (p : Port) (j : Fin 8) (s : State) : Out :=
  onCellPort s n w p (K.SwEvent + j.val) (fun _ c => .ok (c.pulseAt (44 + j.val) (c.now + 1)))

/-- The event counters of the lines in a mask restart at 0; a line that pulses in this cc reads 1, and pulses that are due later are still
to count (R34). -/
def clearEventCounts (mask : Nat) : Nat → Cell → Cell
  | 0, c => c
  | i + 1, c =>
    let c := clearEventCounts mask i c
    if bit mask i then c.put (K.EventCount + i) (c.fab.pulses.filter (fun e => e.2 == i && c.now ≤ e.1)).length else c

/-- EVENT_COUNT_CLEAR (R34). -/
def execEventCountClear (n : CellNo) (w : When) (p : Port) (mask : Nat) (s : State) : Out :=
  onCellPort s n w p K.EventCountClear (fun _ c => .ok (clearEventCounts mask 64 c))

/-- EviEdge selects this direction: 0 rising, 1 falling, 2 both, 3 disabled (R34). -/
def edgeQualifies (sel : Nat) (rising : Bool) : Bool :=
  match sel with
  | 0 => rising
  | 1 => !rising
  | 2 => true
  | _ => false

/-- EVI_EDGE: an edge at the ball in this cycle pulses line 40 or 41 three or four cycles later, as the synchroniser resolves it
(R33); `late` tells which. -/
def execEviEdge (n : CellNo) (w : When) (pin : Fin 2) (rising late : Bool) (s : State) : Out :=
  onCell s n w (fun _ c =>
    if edgeQualifies (c.get (K.EviEdge + pin.val)) rising then c.pulseAt (40 + pin.val) (c.now + if late then 4 else 3) else c)

/-- DREQ_EDGE: a rising edge pulses line 42 or 43 three or four cycles later (R33). -/
def execDreqEdge (n : CellNo) (w : When) (pin : Fin 2) (late : Bool) (s : State) : Out :=
  onCell s n w (fun _ c => c.pulseAt (42 + pin.val) (c.now + if late then 4 else 3))

/-- The cycle in which an EVO output returns inactive, while it is active. -/
def Cell.evoEnd (c : Cell) (pin : Fin 2) : Option Nat := if pin = 0 then c.fab.evo0End else c.fab.evo1End
def Cell.putEvoEnd (c : Cell) (pin : Fin 2) (e : Option Nat) : Cell :=
  if pin = 0 then { c with fab := { c.fab with evo0End := e } } else { c with fab := { c.fab with evo1End := e } }

/-- The level at the ball: the active state under EvoPolarity (R34). -/
def Cell.evoLevel (c : Cell) (pin : Fin 2) : Bool := (c.evoEnd pin).isSome != bit (c.get K.EvoPolarity) pin.val

/-- EVO_PULSE_START: two cc after a pulse on its selected line the output goes active, or restarts its width count (R33).  DESIGN CHOICE
(log entry 122): EvoSelect and EvoPulseWidth count as they stand in this cc, and a later change of EvoPulseWidth does not move the end. -/
def execEvoPulseStart (n : CellNo) (w : When) (pin : Fin 2) (s : State) : Out :=
  onCell s n w (fun _ c =>
    if c.pulsedAgo 2 (c.get (K.EvoSelect + pin.val))
    then c.putEvoEnd pin (some (c.now + c.get (K.EvoPulseWidth + pin.val))) else c)

/-- EVO_PULSE_END: the width count runs out and the output returns inactive (R33). -/
def execEvoPulseEnd (n : CellNo) (w : When) (pin : Fin 2) (s : State) : Out :=
  onCell s n w (fun _ c =>
    match c.evoEnd pin with
    | some e => if e ≤ c.now then c.putEvoEnd pin none else c
    | none => c)

end Sys2Proof.Machine
end

