-- ==== Sys2Proof/Machine/Maintenance.lean ====
section
/-! DEFINITION. The hayward's commands (R414 to R419): the grant, the end of a grant with its window, the yield of scrub, the clear. -/

namespace Sys2Proof.Machine

/-- What a grant of activity `a` sets beside the token: the wait entries of recalibration and retrain (R141, R301), SkewState
(R243). -/
def Cell.noteActivity (c : Cell) (a : Nat) : Cell :=
  let wait := min (c.pendCc a) (2 ^ 32 - 1)
  match a with
  | 0 => c.put K.RetrainWaitCc wait
  | 1 => c.put K.RecalWaitCc wait
  | 2 => c.put K.SkewState 3
  | _ => c

/-- HAYWARD_GRANT: the free token goes to the requesting activity that comes first (R415); none outside a
running swath, as on the bypass clock (R418). -/
def execHaywardGrant (n : CellNo) (w : When) (s : State) : Out :=
  onCell s n w (fun _ c =>
    if !c.exe.running || c.get K.ClockState ≠ 0 || c.get K.HaywardHolder ≠ 0xFF || c.now < c.hay.freeFrom then c else
    match c.tokenWinner with
    | none => c
    | some a =>
      match c.windowFor a with
      | none => c
      | some (i, left) => (c.noteActivity a).grantToken a i left)

/-- GRANT_WINDOW_END: the grant has lasted as long as it may; the edges a TDC grant collected carry over (R240, R415). -/
def execGrantWindowEnd (n : CellNo) (w : When) (s : State) : Out :=
  onCell s n w (fun _ c =>
    if c.get K.HaywardHolder = 0xFF || c.now < c.hay.grantEnd then c else
    let c := match c.get K.HaywardHolder with
      | 2 => c.put K.SkewState 2
      | 3 => c.put K.TdcHitsCollected c.tdcHits
      | _ => c
    c.releaseToken)

/-- SCRUB_YIELD: scrub releases the token to another requesting activity and counts the preemption (R416). -/
def execScrubYield (n : CellNo) (w : When) (s : State) : Out :=
  onCell s n w (fun _ c =>
    if c.get K.HaywardHolder = 4 && [0, 1, 2, 3].any c.requestsToken then
      let c := (c.inc32 K.ScrubPreemptCount).releaseToken
      { c with hay := { c.hay with scrubYielded := true } }
    else c)

/-- HAYWARD_COUNT_CLEAR: every counter of block cE20h, the longest waits among them (R419). -/
def execHaywardCountClear (n : CellNo) (w : When) (p : Port) (s : State) : Out :=
  onCellPort s n w p K.HaywardCountClear (fun _ c => .ok (c.passedSoFar.clearCounters 0xE20 0xE20))

end Sys2Proof.Machine
end

