-- ==== Sys2Proof/Machine/Dictionary.lean ====
section
/-! DEFINITION. Whole reads and writes of the object dictionary: the checks of R424 in their order, the values that are formed at the
read, the entries whose write is a command of its own, and the wide access (R420 to R424, R429, R430). -/

namespace Sys2Proof.Machine

/-! Reading -/

def State.mapGlob (s : State) (f : Glob → Glob) : State := { s with glob := f s.glob }

/-- The index of the first sample of the cycle that serves a read; on the bypass clock it advances over the gap (R116). -/
def Cell.sampleNow (c : Cell) : Nat := c.strobeSample ⟨c.now, 0⟩

/-- The 32-byte plan entry of an enabled lane (R57, R168). -/
def Cell.lanePlanBytes (c : Cell) (k : Nat) : List Byte :=
  match c.exe.active with
  | none => []
  | some m => ((sectEntries m.bytes 1 32).find? (fun e => fld e.2 0 1 == k && bit (fld e.2 1 1) 0)).elim [] Prod.snd

/-- MemClockHz: 36 memory cycles per 25 cc (R28, R298). -/
def Cell.memHz (c : Cell) : Nat := (2 * 9 * (c.fs).1 + 800 * (c.fs).2) / (2 * 800 * (c.fs).2)

/-- The numeric entries of a cell that are formed at the read. -/
def Cell.formed (c : Cell) (n : CellNo) (k : Nat) : Option Nat :=
  let ix := k / 256
  let four (first : Nat) : Fin 4 := Fin.ofNat 4 (ix - first)
  if k = K.LogicLevels then some (c.logicLevels n)
  else if ix = K.EventCount / 256 then some (c.eventCount (k - K.EventCount))
  else if k = K.BgState then some c.bgState
  else if k = K.BypassCycles && !c.clk.onFcc then some c.now
  else if k = K.TimelineNow then some (c.pos c.sampleNow)
  else if k = K.SampleIndexNow then some c.sampleNow
  else if k = K.TrackerOrigin then some c.trk.line.t0
  else if k = K.TrackerOriginSample then some c.trk.line.s0
  else if k = K.TrackerIncrement then some c.trk.line.d
  else if k = K.FixedReadLatency then some c.fixedLatency
  else if k = K.MemState then some c.memState
  else if 0x806 ≤ ix && ix ≤ 0x809 && k % 256 = 1 then some (c.channelState (four 0x806))
  else if k = K.MemClockHz then some c.memHz
  else if k = K.IntakeStride then some c.accStride
  else if k = K.IntakeBlock then some c.accBlock
  else if k = K.ProgramLength then some c.patLength
  else if k = K.ProgramCounter then some c.pcShown
  else if k = K.LegOverloadActive then some (b2n c.legShown)
  else if k = K.FifoFill then some c.fifoFill
  else if k = K.TdcHitsCollected then some c.tdcHits
  else if 0x301 ≤ ix && ix ≤ 0x304 && k % 256 = 0x09 then some (c.fadeRemaining (four 0x301))
  else if 0x301 ≤ ix && ix ≤ 0x304 && k % 256 = 0x0F then some (c.laneState (four 0x301))
  else if 0x701 ≤ ix && ix ≤ 0x704 && k % 256 = 0x0A then some (c.stream (four 0x701)).stooks.length
  else if 0xC01 ≤ ix && ix ≤ 0xC04 && k % 256 = 0x09 then some (c.playState (four 0xC01))
  else if 0xC01 ≤ ix && ix ≤ 0xC04 && k % 256 = 0x03 then some (c.prt.live.get (four 0xC01)).staged.length
  else none

/-- The blocks of a cell that are formed at the read, or that nothing writes before they hold their default. -/
def Cell.block (c : Cell) (k : Nat) : List Byte :=
  let ix := k / 256
  if k = K.ImageStaged then c.exe.stagedBytes
  else if k = K.ImageActive then (c.exe.active.map Image.bytes).getD []
  else if ix = 0x200 && 9 ≤ k % 256 then encodeSet (c.setOf (k % 256 - 9))
  else if k = K.Stage1CoefsActive then (kvFind K.Stage1Coefs c.actDoms).getD stage1Default
  else if ix = 0x305 then c.lanePlanBytes (k % 256 - 1)
  else if k = K.LastTriggerRecord || k = K.LastAbortRecord || (0x701 ≤ ix && ix ≤ 0x704) then c.dom k (zeros 32)
  else if 0x806 ≤ ix && ix ≤ 0x809 then c.dom k (zeros 144)
  else c.dom k (c.domDflt k)

/-- What the cycles before the present one have brought: samples counted, triggers decided, patterns run, windows passed, releases resolved
ahead (R61, R85, R213, R419). -/
def Cell.caughtUp (c : Cell) (k : Nat) : Cell :=
  ((if k / 256 = 0xD03 then c.patSync else c).settleOver).settleArm.passedSoFar.settleAhead

/-- A cell entry's value at the present cycle.  A cell held in reset gives the defaults, but the written values of class Reset (R490). -/
def Cell.readDict (c : Cell) (n : CellNo) (k : Nat) (e : Entry) : List Byte :=
  if e.acc = .const then leBytes e.ty.bytes e.dflt
  else if c.held && !e.ty.isBlock then leBytes e.ty.bytes (if k = K.FgCalCount then 0 else c.get k) else
  let c := if c.held then c else c.caughtUp k
  if e.ty.isBlock then c.block k
  else leBytes e.ty.bytes ((c.formed n k).getD (c.get k))

/-- The numeric entries of the shared region that are formed at the read. -/
def Glob.formed (g : Glob) (k : Nat) : Option Nat :=
  let ix := k / 256
  if k = G.EntryCount then some entryCount
  else if k = G.RevisionNumber || k = G.SerialNumber then some (g.get k)
  else if 0x1F01 ≤ ix && ix ≤ 0x1F04 && k % 256 = 1 then some (g.profile (Fin.ofNat 4 (ix - 0x1F01))).status
  else if 0x1F01 ≤ ix && ix ≤ 0x1F04 && k % 256 = 2 then some (g.profile (Fin.ofNat 4 (ix - 0x1F01))).size
  else if k = G.ServiceRemaining then some g.serviceLeft
  else if k = G.RollbackCounter then some g.upd.counter
  else if k = G.LogOldest then some g.logOldest
  else if k = G.LogNewest then some g.logNewest
  else if k = G.DebugAccess then some (b2n (g.lifeState = 0 || g.lifeState = 3))
  else none

/-- SoftwareVersion: the running slot's text, empty while the boot ROM runs (R422). -/
def Glob.softwareVersion (g : Glob) : List Byte :=
  if g.mgmt.boot = .running then (g.upd.slots.get (Fin.ofNat 2 (g.get G.RunningSlot))).version else []

def deviceName : List Byte := [0x4E, 0x52, 0x4E, 0x34, 0x31, 0x36, 0x30]

/-- The blocks of the shared region. -/
def Glob.block (g : Glob) (k : Nat) (e : Entry) : List Byte :=
  let ix := k / 256
  if k = G.DeviceName then deviceName
  else if k = G.SoftwareVersion then g.softwareVersion
  else if k = G.EntryDirectory then directoryRecords.flatMap (leBytes 8)
  else if 0x1F01 ≤ ix && ix ≤ 0x1F04 then (g.profile (Fin.ofNat 4 (ix - 0x1F01))).hash
  else if k = G.LifeCycleNonce then g.mgmt.life.nonce
  else g.bytesOf k e

/-- A shared entry's value; a read of LogReadData records where it began (R456). -/
def Glob.readDict (g : Glob) (k : Nat) (e : Entry) : List Byte × Glob :=
  if k = G.LogReadData then g.readLog
  else if e.ty.isBlock then (g.block k e, g)
  else
    let v := match g.formed k with
      | some v => v
      | none => if e.acc = .const then e.dflt else g.get k
    (leBytes e.ty.bytes v, g)

/-- A whole value is read (R421): the value, or the cause of failure in the order of R424. -/
def State.readEntry (s : State) (w : When4) (ix sub : Nat) : Except Nat (List Byte) × State :=
  if rowsOfIx ix = [] then (.error abortNoIndex, s) else
  match entryAt ix sub with
  | none => (.error abortNoSub, s)
  | some e =>
    if e.acc = .wo then (.error abortReadWo, s)
    else if s.glob.bootRom && s.glob.flashShort && !isIdentity ix then (.error abortState, s) else
    match cellOfIx ix with
    | some (n, i) => (.ok ((s.cellAt n ⟨w.ns, (strobeOf w.at' n).cc⟩).readDict n (256 * i + sub) e), s)
    | none =>
      let r := s.glob.readDict (256 * ix + sub) e
      (.ok r.1, { s with glob := r.2 })

/-! Writing -/

/-- The outcome's state; the commands the dictionary starts always have one. -/
def Out.state (o : Out) (s : State) : State := match o with | .next t => t | _ => s

/-- A write that succeeds without effect. -/
def State.accepted (s : State) (p : Port) : State := { s with glob := s.glob.answer p 0 }

/-- A write that fails. -/
def State.rejected (s : State) (p : Port) (ix sub code : Nat) : State := { s with glob := s.glob.failed p ix sub code }

/-- A write of an RW or RWS entry of a cell. -/
def State.writeCell (s : State) (n : CellNo) (x : When) (p : Port) (k : Nat) (e : Entry) (data : List Byte) : State :=
  if s.glob.bootRom then (s.close n x (s.cellAt n x)).rejected p (cellIx n k) (k % 256) abortState else
  let r := (s.cellAt n x).writeDict (s.glob.at x.ns) k e data
  let t := s.close n x r.1
  if r.2 = 0 then t.accepted p else t.rejected p (cellIx n k) (k % 256) r.2

/-- The command a write of 1 to a BOOL command entry of a cell is. -/
def cellCommand (n : CellNo) (x : When) (p : Port) (k : Nat) (s : State) : Out :=
  let ix := k / 256
  let four (first : Nat) : Fin 4 := Fin.ofNat 4 (ix - first)
  if k = K.OverRangeClear then execOverRangeClear n x p s
  else if k = K.RecalRequest then execRecalRequest n x p s
  else if 0x301 ≤ ix && ix ≤ 0x304 then execBankSwapRequest n x p (four 0x301) s
  else if k = K.FilterCountClear then execFilterCountClear n x p s
  else if k = K.TriggerCountClear then execTriggerCountClear n x p s
  else if k = K.ArmRequest then execArmRequest n x p s
  else if k = K.StopAcq then execStopWrite n x p s
  else if k = K.ForceTrigger then execForceTriggerWrite n x p s
  else if k = K.ArmCountClear then execArmCountClear n x p s
  else if k = K.SwapRequest then execSwapRequest n x p s
  else if k = K.Commit then execCommit n x p s
  else if k = K.CaptureCountClear then execCaptureCountClear n x p s
  else if k = K.MemWake then execMemWakeWrite n x p s
  else if k = K.MemErrorClear then execMemErrorClear n x p s
  else if k = K.RetrainRequest then execRetrainRequest n x p s
  else if k = K.AccStart then execAccStart n x p s
  else if k = K.AccFreeze then execAccFreeze n x p s
  else if k = K.AccResume then execAccResume n x p s
  else if k = K.AccClear then execAccClear n x p s
  else if k = K.AccCountClear then execAccCountClear n x p s
  else if k = K.RasterCommit then execRasterCommit n x p s
  else if k = K.RasterCountClear then execRasterCountClear n x p s
  else if k = K.DmaCountClear then execDmaCountClear n x p s
  else if 0xB01 ≤ ix && ix ≤ 0xB08 then execChannelAbort n x p (Fin.ofNat 8 (ix - 0xB01)) s
  else if k = K.PortCountClear then execPortCountClear n x p s
  else if 0xC01 ≤ ix && ix ≤ 0xC04 then execPlaybackStop n x p (four 0xC01) s
  else if k = K.PatternStart then execPatternStart n x p s
  else if k = K.PatternStop then execPatternStop n x p s
  else if k = K.PatternCountClear then execPatternCountClear n x p s
  else if ix = 0xE13 then execSwEvent n x p (Fin.ofNat 8 (k - K.SwEvent)) s
  else execHaywardCountClear n x p s

/-- A write to an entry of a cell.  A BOOL command entry takes 1 as its command, 0 without effect (R13). -/
def State.routeCell (s : State) (w : When4) (p : Port) (n : CellNo) (k : Nat) (e : Entry) (data : List Byte) : State :=
  let x : When := ⟨w.ns, (strobeOf w.at' n).cc⟩
  let v := leNat data
  if e.acc ≠ .wo then s.writeCell n x p k e data
  else if e.ty ≠ .bool then (execEventCountClear n x p v s).state s
  else if 1 < v then s.rejected p (cellIx n k) (k % 256) abortValue
  else if v = 0 then s.accepted p
  else (cellCommand n x p k s).state s

/-- A write of an RW entry of the shared region. -/
def State.writeGlob (s : State) (ns : Nat) (p : Port) (k : Nat) (e : Entry) (data : List Byte) : State :=
  (onGlobPort s ns p k (fun g => g.writeDict k e data)).state s

/-- A write of ProgramControl: the commands of R462. -/
def State.control (s : State) (ns : Nat) (p : Port) (v : Nat) : State :=
  match v with
  | 1 => (execBegin ns p s).state s
  | 2 => (execVerify ns p s).state s
  | 3 => (execActivate ns p s).state s
  | 4 => (execCancel ns p s).state s
  | _ => s.rejected p 0x1F51 1 abortValue

/-- A write of LifeCycleRequest (R467): a target that no pair names is refused with reason 1, as every other pair. -/
def State.lifeRequest (s : State) (ns : Nat) (p : Port) (v : Nat) : State :=
  match v with
  | 1 => (execLcToProvisioned ns p s).state s
  | 2 => (execLcToField ns p s).state s
  | 3 => (execLcToService ns p s).state s
  | 4 => (execLcToRetired ns p s).state s
  | v => s.requestLife ns p v

/-- A write to an entry of the shared region.  WideCommand is refused here: this is the write a wide access performs, and while it runs
another is refused (R430). -/
def State.routeGlob (s : State) (w : When4) (p : Port) (k : Nat) (e : Entry) (data : List Byte) : State :=
  let ns := w.ns
  let v := leNat data
  if e.acc ≠ .wo then s.writeGlob ns p k e data
  else if k = G.WideCommand then s.rejected p 0x2401 3 abortState
  else if k = G.ProfileActivate then (execProfileActivate ns p v s).state s
  else if k = G.ProfileStore then (execProfileStore ns p v s).state s
  else if k = G.ProfileErase then (execProfileErase ns p v s).state s
  else if k = G.LifeCycleRequest then s.lifeRequest ns p v
  else if k = G.ProgramData then (execProgramData ns p data (Config.flashAccepts (s.glob.get G.ProgramOffset)) s).state s
  else if k = G.ProgramControl then s.control ns p v
  else if k = G.IntClear then (execIntClear ns p v s).state s
  else if k = G.CellResetRequest then (execCellResetRequest ns p v s).state s
  else if 1 < v then s.rejected p (k / 256) (k % 256) abortValue
  else if v = 0 then s.accepted p
  else if k = G.EpochStrobe then (execEpochStrobe ns p w.at' s).state s
  else (execDeviceResetRequest ns p w.sel s).state s

/-- The entry a write names, or cause 4, 5 or 7 of R424. -/
def writeTarget (ix sub : Nat) : Except Nat Entry :=
  if rowsOfIx ix = [] then .error abortNoIndex else
  match entryAt ix sub with
  | none => .error abortNoSub
  | some e => if e.acc = .ro || e.acc = .const then .error abortWriteRo else .ok e

/-- The causes 4 to 10 of R424 that do not depend on the state, for a write of `len` bytes. -/
def writeCause (ix sub len : Nat) : Except Nat Entry :=
  match writeTarget ix sub with
  | .error code => .error code
  | .ok e =>
    if !e.ty.isBlock && len ≠ e.ty.bytes then .error abortLength
    else if 32768 < len || (e.ty.isBlock && e.size < len) then .error abortTooLong
    else .ok e

/-- A whole value is written, except to WideCommand. -/
def State.writeInner (s : State) (w : When4) (p : Port) (ix sub : Nat) (data : List Byte) : State :=
  let s := { s with glob := s.glob.at w.ns }
  if !s.glob.serves p then s else
  match writeCause ix sub data.length with
  | .error code => s.rejected p ix sub code
  | .ok e =>
    match cellOfIx ix with
    | some (n, i) => s.routeCell w p n (256 * i + sub) e data
    | none => s.routeGlob w p (256 * ix + sub) e data

/-! The wide access (R430) -/

/-- The access takes the block: WideState reads 1. -/
def Glob.wideBusy (g : Glob) (r : WideRun) : Glob :=
  let g := g.put G.WideState 1
  { g with hst := { g.hst with wideRun := some r } }

/-- A write of WideCommand may start an access. -/
def State.startWide (s : State) (ns : Nat) (p : Port) (f : State → State) : State :=
  let s := { s with glob := s.glob.at ns }
  if !s.glob.serves p then s
  else if s.glob.refuses G.WideCommand || s.glob.get G.WideState = 1 then s.rejected p 0x2401 3 abortState
  else f (s.accepted p)

def State.wideRead (s : State) (w : When4) (p : Port) : State :=
  s.startWide w.ns p (fun s =>
    let sel := s.glob.get G.WideSelect
    let r := s.readEntry w (bits sel 0 16) (bits sel 16 8)
    let run := match r.1 with
      | .ok v => if 32768 < v.length then .failed abortTooLong else .value v
      | .error code => .failed code
    { r.2 with glob := r.2.glob.wideBusy run })

/-- WIDE_READ: the value goes to the buffer at completion. -/
def execWideRead (w : When4) (p : Port) (s : State) : Out := .next (s.wideRead w p)

def State.wideWrite (s : State) (w : When4) (p : Port) : State :=
  s.startWide w.ns p (fun s =>
    let sel := s.glob.get G.WideSelect
    let data := memBytes s.glob.hst.wide 0 (s.glob.get G.WideLength)
    { s with glob := s.glob.wideBusy (.write (bits sel 0 16) (bits sel 16 8) data) })

/-- WIDE_WRITE: WideLength bytes are to be written as one value; the write takes effect whole at its completion (R413). -/
def execWideWrite (w : When4) (p : Port) (s : State) : Out := .next (s.wideWrite w p)

/-- The access ends with a code, 0 for success: WideState, WideAbortCode and the wide-done source. -/
def Glob.endWide (g : Glob) (code : Nat) : Glob :=
  let g : Glob := { g.trigger .wideDone with hst := { g.hst with wideRun := none } }
  (g.put G.WideAbortCode code).put G.WideState (if code = 0 then 2 else 3)

/-- WIDE_DONE: the access in service completes: the value read stands in the buffer, or the write is made, through a port of the access's
own; one that resets the device leaves no access to end. -/
def execWideDone (w : When4) (s : State) : Out :=
  let s : State := { s with glob := s.glob.at w.ns }
  match s.glob.hst.wideRun with
  | none => .next s
  | some (.failed code) => .next { s with glob := s.glob.endWide code }
  | some (.value v) =>
    let g := s.glob.endWide 0
    .next { s with glob := { g.put G.WideLength v.length with hst := { g.hst with wide := memPutBytes 0 v g.hst.wide } } }
  | some (.write ix sub v) =>
    let t := s.writeInner w .wide ix sub v
    .next (if t.glob.hst.wideRun.isNone then t else { t with glob := t.glob.endWide t.glob.answers.wide })

/-! Writing through a port -/

/-- A whole value is written to any entry. -/
def State.writeEntry (s : State) (w : When4) (p : Port) (ix sub : Nat) (data : List Byte) : State :=
  if ix = 0x2401 && sub = 3 && data.length = 1 then
    match leNat data with
    | 1 => s.wideRead w p
    | 2 => s.wideWrite w p
    | _ => s.startWide w.ns p (fun s => s.rejected p ix sub abortValue)
  else s.writeInner w p ix sub data

/-- The bytes a BAR0 write gives an entry of `size` bytes: they must all be enabled (R429). -/
def slotBytes? (size : Nat) (data : List Byte) (enables : List Bool) : Option (List Byte) :=
  if (enables.take size).length = size && (enables.take size).all id && size ≤ data.length then some (data.take size) else none

/-- A BAR0 write to a slot (R429); one with no enabled byte is skipped, and a poisoned one is dropped, noted and recorded (R428). -/
def State.writeSlot (s : State) (w : When4) (ix sub : Nat) (data : List Byte) (enables : List Bool) (ep : Bool) : State :=
  let s := { s with glob := s.glob.at w.ns }
  if !s.glob.serves .pcie || !enables.any id then s
  else if ep then ({ s with glob := s.glob.notePoison } : State).rejected .pcie ix sub abortInternal
  else
    match entryAt ix sub with
    | none => s.writeEntry w .pcie ix sub data
    | some e =>
      if e.acc = .ro || e.acc = .const then s.rejected .pcie ix sub abortWriteRo
      else if e.ty.isBlock || e.ty = .time96 then s.rejected .pcie ix sub abortMethod
      else match slotBytes? e.ty.bytes data enables with
        | some v => s.writeEntry w .pcie ix sub v
        | none => s.rejected .pcie ix sub abortLength

/-- What a BAR0 read of a slot returns: the value in its low bytes, the length of a block, bits [95:32] of a TIME96, or 0 where it fails,
which is recorded (R429). -/
def State.readSlot (s : State) (w : When4) (ix sub : Nat) : List Byte × State :=
  match (s.readEntry w ix sub).1, entryAt ix sub with
  | .error code, _ => (zeros 8, s.rejected .pcie ix sub code)
  | .ok v, some e =>
    let shown := if e.ty.isBlock then leBytes 8 v.length else if e.ty = .time96 then v.drop 4 else v ++ zeros (8 - v.length)
    (shown, s.accepted .pcie)
  | .ok _, none => (zeros 8, s)

/-- The slots BAR0 holds, and those of the host area, which lies below all of them (R16, R430). -/
abbrev bar0Slots : Nat := 2 ^ 24
abbrev hostSlots : Nat := 0x100000

/-- The parts of a TLP in the slots from `slot` on: each with its bytes and their enables, in ascending order (R429). -/
def slotParts (slot : Nat) (data : List Byte) (enables : List Bool) : List (Nat × List Byte × List Bool) :=
  (List.range (ceilDiv data.length 8)).map (fun i => (slot + i, slice data (8 * i) 8, (enables.drop (8 * i)).take 8))

/-- The parts that lie in entry slots. -/
def entryParts (slot : Nat) (data : List Byte) (enables : List Bool) : List (Nat × List Byte × List Bool) :=
  (slotParts slot data enables).filter (fun x => hostSlots ≤ x.1 && x.1 < bar0Slots)

/-- A write TLP to BAR0 from `slot` on: its part in the host area, then one access for each slot (R429, R430). -/
def State.writeTlp (s : State) (w : When4) (slot : Nat) (data : List Byte) (enables : List Bool) (ep : Bool) : State :=
  let host := 8 * (hostSlots - slot)
  let s : State := if slot < hostSlots && s.glob.mgmt.boot != .off then
      { s with glob := (s.glob.at w.ns).hostAreaWrite (8 * slot) (data.take host) (enables.take host) ep }
    else s
  (entryParts slot data enables).foldl (fun s x => s.writeSlot w (x.1 / 256) (x.1 % 256) x.2.1 x.2.2 ep) s

/-- The bytes that are enabled. -/
def enabledOf (data : List Byte) (enables : List Bool) : List Byte := (data.zip enables).filterMap (fun e => if e.2 then some e.1 else none)

/-- One slot of a read TLP: what the enabled bytes return is added; a slot with no enabled byte is skipped. -/
def State.readPart (w : When4) (r : List Byte × State) (x : Nat × List Byte × List Bool) : List Byte × State :=
  if !x.2.2.any id then r
  else if x.1 < hostSlots then
    (r.1 ++ enabledOf ((List.range 8).map (fun i => r.2.glob.hst.byteAt (8 * x.1 + i))) x.2.2, r.2)
  else
    let y := r.2.readSlot w (x.1 / 256) (x.1 % 256)
    (r.1 ++ enabledOf y.1 x.2.2, y.2)

def Glob.completeBar0 (g : Glob) (x : Completion) : Glob := { g with hst := { g.hst with completion := x } }

/-- A read TLP to BAR0 from `slot` on, for the bytes that are enabled: it completes when it lies within the BAR (R426, R429, R430). -/
def State.readTlp (s : State) (w : When4) (slot : Nat) (data : List Byte) (enables : List Bool) : State :=
  let s : State := { s with glob := s.glob.at w.ns }
  if !s.glob.serves .pcie then s
  else if 4096 < data.length || 8 * bar0Slots < 8 * slot + data.length then
    s.mapGlob (fun g => g.completeBar0 ⟨.unsupported, [], false⟩)
  else
    let r := (slotParts slot data enables).foldl (State.readPart w) ([], s)
    r.2.mapGlob (fun g => g.completeBar0 ⟨.success, r.1, false⟩)

/-- DICT_WRITE: a write to an entry completes at the dictionary arbiter.  On PCI Express it is a TLP to BAR0 that begins at the slot of
`ix`/`sub`; the table has no row for a read TLP, which comes here too, with the bytes it asks for in place of `data`. -/
def execDictWrite (w : When4) (p : Port) (ix sub : Nat) (data : List Byte) (enables : List Bool) (kind : Tlp) (s : State) : Out :=
  let slot := 256 * ix + sub
  .next (match p, kind with
    | .pcie, .read => s.readTlp w slot data enables
    | .pcie, .write => s.writeTlp w slot data enables false
    | .pcie, .poisoned => s.writeTlp w slot data enables true
    | _, _ => s.writeEntry w p ix sub data)

end Sys2Proof.Machine
end

