-- ==== Sys2Proof/Machine/Ports.lean ====
section
/-! DEFINITION. The CAN FD port and management Ethernet: dictionary transfers, HDAP, and what else the two ports answer (R435 to R441). -/

namespace Sys2Proof.Machine

/-- A whole value is written through a port; what the port hears. -/
def State.portWrite (s : State) (w : When4) (p : Port) (ix sub : Nat) (data : List Byte) : State × Nat :=
  let t := s.writeEntry w p ix sub data
  (t, match p with | .can => t.glob.answers.can | .eth => t.glob.answers.eth | _ => 0)

/-- The write of DeviceResetRequest that resets the device once its answer has been sent (R483). -/
def resetsDevice (ix sub : Nat) (data : List Byte) : Bool := ix == 0x2800 && sub == 9 && data == [1]

/-! ### CAN FD (R435 to R437) -/

/-- The port takes part in the bus: enabled, the processor runs, and not bus-off. -/
def Glob.canOn (g : Glob) : Bool := g.serves .can && g.inForce G.CanEnable == 1 && g.get G.CanState != 3

/-- CanState by the two error counters (ISO 11898-1). -/
def Glob.judgeCan (g : Glob) : Glob :=
  if g.get G.CanState = 3 then g
  else g.put G.CanState (if 127 < g.get G.TxErrorCounter || 127 < g.get G.RxErrorCounter then 2 else 1)

/-- A frame is received without error. -/
def Glob.canReceived (g : Glob) : Glob :=
  let r := g.get G.RxErrorCounter
  (g.put G.RxErrorCounter (if 127 < r then 119 + Config.canReceiveBack r % 9 else r - 1)).judgeCan

/-- The smallest FD length from 8 bytes on that holds a frame (R436). -/
def fdLength (n : Nat) : Nat :=
  if n ≤ 8 then 8 else if n ≤ 12 then 12 else if n ≤ 16 then 16 else if n ≤ 20 then 20 else if n ≤ 24 then 24
  else if n ≤ 32 then 32 else if n ≤ 48 then 48 else 64

def fdFrame (bs : List Byte) : List Byte := bs ++ zeros (fdLength bs.length - bs.length)

/-- The identifiers of the requests to the device and of its answers (R436). -/
def Glob.requestId (g : Glob) : Nat := 0x600 + g.inForce G.NodeId
def Glob.answerId (g : Glob) : Nat := 0x580 + g.inForce G.NodeId

/-- A frame is sent, with padding of zeros. -/
def Glob.canSendFrame (g : Glob) (bs : List Byte) : Glob :=
  let g := (g.put G.TxErrorCounter (g.get G.TxErrorCounter - 1)).judgeCan
  { g with can := { g.can with answer := fdFrame bs, answerId := g.answerId } }

def Glob.putXfer (g : Glob) (x : Option CanXfer) : Glob := { g with can := { g.can with xfer := x } }

/-- Bytes 0 to 7 of an initiate response or an abort: command, index, sub, a U32. -/
def canHead (cmd ix sub v : Nat) : List Byte := leBytes 1 cmd ++ leBytes 2 ix ++ leBytes 1 sub ++ leBytes 4 v

/-- The transfer in progress, if any, is counted as aborted and discarded. -/
def Glob.dropXfer (g : Glob) : Glob := if g.can.xfer.isSome then (g.inc32 G.SdoAborts).putXfer none else g

/-- An abort frame. -/
def Glob.canAbort (g : Glob) (ix sub code : Nat) : Glob := (g.dropXfer).canSendFrame (canHead 0x80 ix sub code)

/-- A frame with the identifier of requests reaches the port; a port that is off leaves it unanswered. -/
def State.canRequest (s : State) (ns : Nat) (f : State → State) : State :=
  let g := s.glob.at ns
  if !g.canOn then { s with glob := { g with can := { g.can with answer := [] } } }
  else f { s with glob := g.canReceived }

/-- The value of a download is written, and answered with `ok` or an abort frame. -/
def State.canDownload (s : State) (w : When4) (ix sub : Nat) (data ok : List Byte) : State :=
  let done (g : Glob) : Glob := ((g.putXfer none).inc32 G.SdoTransfers).canSendFrame ok
  if resetsDevice ix sub data && !s.glob.bootRom then
    let s := s.mapGlob done
    let t := (s.portWrite w .can ix sub data).1
    { t with glob := { t.glob with can := { t.glob.can with answer := s.glob.can.answer, answerId := s.glob.can.answerId } } }
  else
    let r := s.portWrite w .can ix sub data
    if r.2 = 0 then r.1.mapGlob done
    else r.1.mapGlob (fun g => ((g.putXfer none).inc32 G.SdoAborts).canSendFrame (canHead 0x80 ix sub r.2))

/-- INITIATE_DOWNLOAD_EXPEDITED: `data` are bytes 8 onward, of which the first `size` are the value. -/
def execInitiateDownloadExpedited (w : When4) (ix sub size : Nat) (data : List Byte) (s : State) : Out :=
  .next (s.canRequest w.ns (fun s =>
    let s := s.mapGlob Glob.dropXfer
    if size = 0 || 56 < size || data.length < size then s.mapGlob (fun g => g.canAbort ix sub abortCommand)
    else s.canDownload w ix sub (data.take size) (canHead 0x60 ix sub 0)))

/-- INITIATE_DOWNLOAD_SEGMENTED. -/
def execInitiateDownloadSegmented (ns ix sub size : Nat) (s : State) : Out :=
  .next (s.canRequest ns (fun s => s.mapGlob (fun g =>
    ((g.dropXfer).putXfer (some ⟨true, ix, sub, size, [], false, ns⟩)).canSendFrame (canHead 0x60 ix sub 0))))

/-- A segment meets no transfer of its direction, or another toggle. -/
def Glob.segmentFault (g : Glob) (down toggle : Bool) : Option Nat :=
  match g.can.xfer with
  | none => some abortCommand
  | some x => if x.down ≠ down then some abortCommand else if x.toggle ≠ toggle then some abortToggle else none

/-- The entry a transfer names, for its abort frame. -/
def Glob.xferEntry (g : Glob) : Nat × Nat := match g.can.xfer with | some x => (x.ix, x.sub) | none => (0, 0)

def Glob.segmentAbort (g : Glob) (code : Nat) : Glob := g.canAbort g.xferEntry.1 g.xferEntry.2 code

/-- The response to a download segment. -/
def segmentAnswer (toggle : Bool) : List Byte := leBytes 1 (0x20 + 0x10 * b2n toggle)

/-- DOWNLOAD_SEGMENT: `data` are its n bytes; the last one writes the whole value. -/
def execDownloadSegment (w : When4) (toggle last : Bool) (data : List Byte) (s : State) : Out :=
  .next (s.canRequest w.ns (fun s =>
    match s.glob.segmentFault true toggle, s.glob.can.xfer with
    | some code, _ => s.mapGlob (fun g => g.segmentAbort code)
    | none, none => s
    | none, some x =>
      let value := x.data ++ data
      if data.isEmpty || 62 < data.length || (!last && data.length ≠ 62) then s.mapGlob (fun g => g.segmentAbort abortCommand)
      else if value.length ≤ 32768 && !last then
        s.mapGlob (fun g => (g.putXfer (some { x with data := value, toggle := !toggle, lastNs := w.ns })).canSendFrame
          (segmentAnswer toggle))
      else if value.length ≤ 32768 && value.length ≠ x.size then
        s.mapGlob (fun g => g.segmentAbort (match writeTarget x.ix x.sub with | .error code => code | .ok _ => abortLength))
      else s.canDownload w x.ix x.sub value (segmentAnswer toggle)))

/-- INITIATE_UPLOAD: the whole value is taken. -/
def execInitiateUpload (w : When4) (ix sub : Nat) (s : State) : Out :=
  .next (s.canRequest w.ns (fun s =>
    let s := s.mapGlob Glob.dropXfer
    let r := s.readEntry w ix sub
    match r.1 with
    | .error code => r.2.mapGlob (fun g => ((g.answer .can code).inc32 G.SdoAborts).canSendFrame (canHead 0x80 ix sub code))
    | .ok v => r.2.mapGlob (fun g =>
      let g := g.answer .can 0
      if v.length ≤ 56 then (g.inc32 G.SdoTransfers).canSendFrame (canHead 0x43 ix sub v.length ++ v)
      else (g.putXfer (some ⟨false, ix, sub, v.length, v, false, w.ns⟩)).canSendFrame (canHead 0x41 ix sub v.length))))

/-- UPLOAD_SEGMENT: answered from the copy. -/
def execUploadSegment (ns : Nat) (toggle : Bool) (s : State) : Out :=
  .next (s.canRequest ns (fun s => s.mapGlob (fun g =>
    match g.segmentFault false toggle, g.can.xfer with
    | some code, _ => g.segmentAbort code
    | none, none => g
    | none, some x =>
      let part := x.data.take 62
      let last := x.data.length ≤ 62
      let g := if last then (g.putXfer none).inc32 G.SdoTransfers
        else g.putXfer (some { x with data := x.data.drop 62, toggle := !toggle, lastNs := ns })
      g.canSendFrame (leBytes 1 (0x10 * b2n toggle + b2n last) ++ leBytes 1 part.length ++ part))))

/-- SDO_ABORT: the client ends the transfer; there is no answer. -/
def execSdoAbort (ns : Nat) (s : State) : Out :=
  .next (s.canRequest ns (fun s => s.mapGlob (fun g =>
    let g := g.dropXfer
    { g with can := { g.can with answer := [] } })))

/-- SDO_TIMEOUT: more than SdoTimeout since the last frame of the transfer. -/
def execSdoTimeout (ns : Nat) (s : State) : Out :=
  onGlob s ns (fun g =>
    match g.can.xfer with
    | some x => if g.canOn && x.lastNs + 1000000 * g.get G.SdoTimeout < ns then g.canAbort x.ix x.sub abortTimeout else g
    | none => g)

/-- A frame's first byte is one of a request or of an abort (R436). -/
def canService (head : Nat) : Bool := [0x23, 0x21, 0x40, 0x00, 0x01, 0x10, 0x11, 0x60, 0x70, 0x80].contains head

/-- CAN_FRAME_IGNORED: a frame that is ignored is counted (R435); one with another identifier is received and no more; one to the device
whose byte 0 is no service is answered with an abort frame (R424, R436). -/
def execCanFrameIgnored (f : CanOther) (s : State) : Out :=
  match f with
  | .ignored ns => onGlob s ns (fun g => if g.canOn then g.canReceived.inc32 G.IgnoredFrames else g)
  | .frame ns id head ix sub =>
    .next (s.canRequest ns (fun s => s.mapGlob (fun g =>
      if id = g.requestId && !canService head then g.canAbort ix sub abortCommand
      else { g with can := { g.can with answer := [] } })))

/-- CAN_BUS_ERROR: the counters and the states of ISO 11898-1; above 255 the transmit counter means bus-off. -/
def execCanBusError (ns : Nat) (e : CanError) (s : State) : Out :=
  onGlob s ns (fun g =>
    if !g.canOn then g else
    match e with
    | .transmit =>
      let t := g.get G.TxErrorCounter + 8
      if 255 < t then (g.put G.TxErrorCounter 255).put G.CanState 3 else (g.put G.TxErrorCounter t).judgeCan
    | .receive => (g.put G.RxErrorCounter (min 255 (g.get G.RxErrorCounter + 1))).judgeCan
    | .receiveDominant => (g.put G.RxErrorCounter (min 255 (g.get G.RxErrorCounter + 8))).judgeCan)

/-- BUS_OFF_RECOVERY: error active again, the counters at 0. -/
def execBusOffRecovery (ns : Nat) (s : State) : Out :=
  onGlob s ns (fun g =>
    if g.get G.CanState = 3 then ((g.put G.TxErrorCounter 0).put G.RxErrorCounter 0).put G.CanState 1 else g)

/-! ### HDAP (R439 to R441) -/

/-- The port answers on IPv4: the processor runs, the link is up, and it has an address (R438, R447). -/
def Glob.ethOn (g : Glob) : Bool := g.serves .eth && g.get G.EthLinkState != 0 && g.get G.IpApplied != 0

/-- A response datagram; the more flag is Flags [2]. -/
def hdapAnswer (q : HdapReq) (opcode status : Nat) (more : Bool) (data : List Byte) : List Byte :=
  [0x48, 0x44, 1] ++ leBytes 1 (opcode ||| 0x80) ++ leBytes 4 q.seq ++ leBytes 2 q.ix ++ leBytes 1 q.sub ++
  leBytes 1 (if more then 4 else 0) ++ leBytes 4 q.offset ++ leBytes 2 data.length ++ zeros 2 ++ leBytes 4 status ++ data

/-- A request: a kept response is sent once more (R441), any other request is executed, and its response kept, unless the request
has reset the device. -/
def State.hdap (s : State) (ns : Nat) (q : HdapReq) (opcode : Nat) (f : State → State × List Byte) : State :=
  let g := s.glob.at ns
  if !g.ethOn then { s with glob := { g with eth := { g.eth with answer := [] } } } else
  match g.eth.kept.find? (fun k => k.peer == q.peer && k.seq == q.seq && k.opcode == opcode) with
  | some k => { s with glob := { g.inc32 G.HdapDuplicates with eth := { g.eth with answer := k.answer } } }
  | none =>
    let r := f { s with glob := g.inc32 G.HdapRequests }
    let e := r.1.glob.eth
    let kept := if r.1.glob.mgmt.boot = .running then (⟨q.peer, q.seq, opcode, r.2⟩ :: e.kept).take 16 else e.kept
    { r.1 with glob := { r.1.glob with eth := { e with kept := kept, answer := r.2 } } }

def hdapFault (q : HdapReq) (opcode code : Nat) (s : State) : State × List Byte :=
  (s.mapGlob (fun g => g.answer .eth code), hdapAnswer q opcode code false [])

/-- The bytes wanted of a value. -/
def hdapPart (q : HdapReq) (len : Nat) (v : List Byte) : List Byte :=
  let rest := v.drop q.offset
  hdapAnswer q 1 0 (len < rest.length) (rest.take len)

/-- HDAP_READ: a snapshot of the whole value, and its first bytes. -/
def execHdapRead (w : When4) (q : HdapReq) (len : Nat) (s : State) : Out :=
  .next (s.hdap w.ns q 1 (fun s =>
    let r := s.readEntry w q.ix q.sub
    match r.1 with
    | .error code => hdapFault q 1 code s
    | .ok v =>
      if q.offset ≠ 0 || len = 0 || 1408 < len then hdapFault q 1 abortValue s else
      let e := r.2.glob.eth
      let snaps := (⟨q.peer, q.ix, q.sub, v⟩ ::
        e.snaps.filter (fun x => !(x.peer == q.peer && x.ix == q.ix && x.sub == q.sub))).take 4
      ({ r.2 with glob := { r.2.glob.answer .eth 0 with eth := { e with snaps := snaps } } }, hdapPart q len v)))

/-- The entry has a fixed size, so Offset must be 0 (R439). -/
def hasFixedSize (ix sub : Nat) : Bool := match entryAt ix sub with | some e => !e.ty.isBlock | none => false

/-- The causes 4 to 6 of R424 for a read. -/
def readCause (ix sub : Nat) : Option Nat :=
  if rowsOfIx ix = [] then some abortNoIndex else
  match entryAt ix sub with
  | none => some abortNoSub
  | some e => if e.acc = .wo then some abortReadWo else none

/-- HDAP_READ_CONTINUE: bytes of a kept snapshot. -/
def execHdapReadContinue (w : When4) (q : HdapReq) (len : Nat) (s : State) : Out :=
  .next (s.hdap w.ns q 1 (fun s =>
    match readCause q.ix q.sub with
    | some code => hdapFault q 1 code s
    | none =>
      match s.glob.eth.snaps.find? (fun x => x.peer == q.peer && x.ix == q.ix && x.sub == q.sub) with
      | none => hdapFault q 1 abortSegment s
      | some x =>
        if len = 0 || 1408 < len || (q.offset ≠ 0 && hasFixedSize q.ix q.sub) then hdapFault q 1 abortValue s
        else (s.mapGlob (fun g => g.answer .eth 0), hdapPart q len x.value)))

/-- The whole value of a request is written; the answer follows completion. -/
def State.hdapWrite (s : State) (w : When4) (q : HdapReq) (opcode : Nat) (data : List Byte) : State × List Byte :=
  let r := s.portWrite w .eth q.ix q.sub data
  (r.1, hdapAnswer q opcode r.2 false [])

/-- The whole value of a request whose Offset is not allowed: the causes 4 to 12 of R424 come first, then the value error. -/
def State.hdapMisplaced (s : State) (w : When4) (q : HdapReq) (opcode : Nat) (data : List Byte) : State × List Byte :=
  let code := (s.portWrite w .eth q.ix q.sub data).2
  hdapFault q opcode (if code = 0 || code = abortInternal then abortValue else code) s

/-- HDAP_WRITE. -/
def execHdapWrite (w : When4) (q : HdapReq) (data : List Byte) (s : State) : Out :=
  .next (s.hdap w.ns q 2 (fun s => if q.offset ≠ 0 then s.hdapMisplaced w q 2 data else s.hdapWrite w q 2 data))

/-- The assembly is held: SdoTimeout has not passed since its last accepted segment (R440). -/
def Glob.assemblyHeld (g : Glob) : Option Assembly :=
  match g.eth.assembly with
  | some a => if a.lastNs + 1000000 * g.get G.SdoTimeout < g.nowNs then none else some a
  | none => none

def Glob.putAssembly (g : Glob) (a : Option Assembly) : Glob := { g with eth := { g.eth with assembly := a } }

/-- The bytes a segment follows, when it may be accepted. -/
def Glob.assembled (g : Glob) (q : HdapReq) : Option (List Byte) :=
  match g.assemblyHeld with
  | none => if q.offset = 0 then some [] else none
  | some a =>
    if a.peer ≠ q.peer then none
    else if q.offset = 0 then some []
    else if a.ix = q.ix && a.sub = q.sub && q.offset = a.data.length then some a.data else none

/-- HDAP_WRITE_SEGMENT. -/
def execHdapWriteSegment (w : When4) (q : HdapReq) (last : Bool) (data : List Byte) (s : State) : Out :=
  .next (s.hdap w.ns q 3 (fun s =>
    match s.glob.assembled q with
    | none => hdapFault q 3 (match writeTarget q.ix q.sub with | .error code => code | .ok _ => abortSegment) s
    | some before =>
      let value := before ++ data
      let ends := last || 32768 < value.length
      if q.offset ≠ 0 && hasFixedSize q.ix q.sub then
        if ends then (s.mapGlob (fun g => g.putAssembly none)).hdapMisplaced w q 3 value
        else hdapFault q 3 (match writeTarget q.ix q.sub with | .error code => code | .ok _ => abortValue) s
      else if ends then (s.mapGlob (fun g => g.putAssembly none)).hdapWrite w q 3 value
      else (s.mapGlob (fun g => (g.answer .eth 0).putAssembly (some ⟨q.peer, q.ix, q.sub, value, w.ns⟩)), hdapAnswer q 3 0 false [])))

/-- HDAP_ASSEMBLY_TIMEOUT: the hold lapses. -/
def execHdapAssemblyTimeout (ns : Nat) (s : State) : Out :=
  onGlob s ns (fun g => g.putAssembly g.assemblyHeld)

/-- HDAP_BAD_DATAGRAM: discarded and counted; a reserved opcode is answered (R439). -/
def execHdapBadDatagram (ns : Nat) (b : BadDatagram) (s : State) : Out :=
  match b with
  | .malformed => onGlob s ns (fun g =>
      if !g.ethOn then g else { g.inc32 G.HdapBadDatagrams with eth := { g.eth with answer := [] } })
  | .reserved q opcode => .next (s.hdap ns q opcode (fun s => hdapFault q opcode abortCommand s))

/-! ### The rest of the Ethernet port (R438) -/

/-- ETH_LINK_CHANGE: 0 down, 1 100 Mb/s, 2 1000 Mb/s. -/
def execEthLinkChange (ns : Nat) (speed : Fin 3) (s : State) : Out :=
  onGlob s ns (fun g => if g.mgmt.boot = .running then g.put G.EthLinkState speed.val else g)

/-- DHCP_LEASE: a lease is taken or lost. -/
def execDhcpLease (ns : Nat) (addr : Option (BitVec 32)) (s : State) : Out :=
  onGlob s ns (fun g =>
    if g.serves .eth && g.inForce G.IpMode = 1 then g.put G.IpApplied (match addr with | some a => a.toNat | none => 0) else g)

def Glob.ethSend (g : Glob) (x : EthSent) : Glob := { g with eth := { g.eth with sent := x } }

/-- ARP_REQUEST for an address: answered for the device's own. -/
def execArpRequest (ns : Nat) (target : BitVec 32) (s : State) : Out :=
  onGlob s ns (fun g =>
    g.ethSend (if g.ethOn && g.get G.IpApplied = target.toNat then .arp (g.inForce G.MacAddress) target.toNat else .none))

/-- The most data an echo request can carry in a frame of 1,518 bytes (R438). -/
abbrev echoLimit : Nat := 1472

/-- ICMP_ECHO_REQUEST to an address, from another: answered with an echo reply; a longer frame is not supported. -/
def execIcmpEchoRequest (ns : Nat) (target source : BitVec 32) (ident seq : Nat) (data : List Byte) (s : State) : Out :=
  onGlob s ns (fun g =>
    g.ethSend (if g.ethOn && g.get G.IpApplied = target.toNat && data.length ≤ echoLimit then .echo source.toNat ident seq data else .none))

end Sys2Proof.Machine
end

