-- ==== Sys2Proof/Machine/Dispatch.lean ====
section
/-! DEFINITION. The command dispatcher: one arm per row of the command table, each a direct call of its meaning. -/

namespace Sys2Proof.Machine

def exec (i : Instr) (s : State) : Host.Outcome State Fault Refusal :=
  match i with
  | .dictWrite w p ix sub data enables kind => Sys2Proof.Machine.execDictWrite w p ix sub data enables kind s
  | .swathBoundary n w => Sys2Proof.Machine.execSwathBoundary n w s
  | .trackerUpdate n w ms => Sys2Proof.Machine.execTrackerUpdate n w ms s
  | .sourceLost n w src => Sys2Proof.Machine.execSourceLost n w src s
  | .sourceReturn n w src => Sys2Proof.Machine.execSourceReturn n w src s
  | .epochStrobe ns p t => Sys2Proof.Machine.execEpochStrobe ns p t s
  | .ppsInputEdge ns ptpNs t => Sys2Proof.Machine.execPpsInputEdge ns ptpNs t s
  | .imageStagedWrite n w p data => Sys2Proof.Machine.execImageStagedWrite n w p data s
  | .imageVerifyDone n w => Sys2Proof.Machine.execImageVerifyDone n w s
  | .swapRequest n w p => Sys2Proof.Machine.execSwapRequest n w p s
  | .commit n w p => Sys2Proof.Machine.execCommit n w p s
  | .pulse n w idx => Sys2Proof.Machine.execPulse n w idx s
  | .arm n w idx => Sys2Proof.Machine.execArm n w idx s
  | .stop n w idx => Sys2Proof.Machine.execStop n w idx s
  | .windowOpen n w idx => Sys2Proof.Machine.execWindowOpen n w idx s
  | .windowClose n w idx => Sys2Proof.Machine.execWindowClose n w idx s
  | .segmentStart n w idx => Sys2Proof.Machine.execSegmentStart n w idx s
  | .patternRelease n w idx => Sys2Proof.Machine.execPatternRelease n w idx s
  | .eyeOrigin n w idx => Sys2Proof.Machine.execEyeOrigin n w idx s
  | .forceTrigger n w idx => Sys2Proof.Machine.execForceTrigger n w idx s
  | .accGateOn n w idx => Sys2Proof.Machine.execAccGateOn n w idx s
  | .accGateOff n w idx => Sys2Proof.Machine.execAccGateOff n w idx s
  | .swEvent n w p j => Sys2Proof.Machine.execSwEvent n w p j s
  | .eventCountClear n w p mask => Sys2Proof.Machine.execEventCountClear n w p mask s
  | .eviEdge n w pin rising late => Sys2Proof.Machine.execEviEdge n w pin rising late s
  | .dreqEdge n w pin late => Sys2Proof.Machine.execDreqEdge n w pin late s
  | .evoPulseStart n w pin => Sys2Proof.Machine.execEvoPulseStart n w pin s
  | .evoPulseEnd n w pin => Sys2Proof.Machine.execEvoPulseEnd n w pin s
  | .overRangeSample n w k => Sys2Proof.Machine.execOverRangeSample n w k s
  | .legOverloadEnter n w x => Sys2Proof.Machine.execLegOverloadEnter n w x s
  | .legOverloadExit n w x => Sys2Proof.Machine.execLegOverloadExit n w x s
  | .overRangeClear n w p => Sys2Proof.Machine.execOverRangeClear n w p s
  | .auxEdge n w rising vin => Sys2Proof.Machine.execAuxEdge n w rising vin s
  | .synthLock n w rs => Sys2Proof.Machine.execSynthLock n w rs s
  | .synthUnlock n w rs => Sys2Proof.Machine.execSynthUnlock n w rs s
  | .refActivityLoss n w noEdges hz first => Sys2Proof.Machine.execRefActivityLoss n w noEdges hz first s
  | .refActivityDeclared n w hz => Sys2Proof.Machine.execRefActivityDeclared n w hz s
  | .bypassSwitch n w => Sys2Proof.Machine.execBypassSwitch n w s
  | .holdoffExpiry n w lag => Sys2Proof.Machine.execHoldoffExpiry n w lag s
  | .memPllLock n w lag => Sys2Proof.Machine.execMemPllLock n w lag s
  | .freshSwathStart n w => Sys2Proof.Machine.execFreshSwathStart n w s
  | .fgCalDone n w coarse sets tone durUs => Sys2Proof.Machine.execFgCalDone n w coarse sets tone durUs s
  | .placementCalDone n w r => Sys2Proof.Machine.execPlacementCalDone n w r s
  | .bgBlockEnd n w b => Sys2Proof.Machine.execBgBlockEnd n w b s
  | .recalRequest n w p => Sys2Proof.Machine.execRecalRequest n w p s
  | .recalDone n w => Sys2Proof.Machine.execRecalDone n w s
  | .coefSetWrite n w p r data => Sys2Proof.Machine.execCoefSetWrite n w p r data s
  | .stage2BankWrite n w p k b data => Sys2Proof.Machine.execStage2BankWrite n w p k b data s
  | .bankSwapRequest n w p k => Sys2Proof.Machine.execBankSwapRequest n w p k s
  | .fadeEnd n w k => Sys2Proof.Machine.execFadeEnd n w k s
  | .deferredSwapStart n w k => Sys2Proof.Machine.execDeferredSwapStart n w k s
  | .filterCountClear n w p => Sys2Proof.Machine.execFilterCountClear n w p s
  | .unitEvent n w u fd => Sys2Proof.Machine.execUnitEvent n w u fd s
  | .timeoutEvent n w u fd => Sys2Proof.Machine.execTimeoutEvent n w u fd s
  | .seqExpiry n w => Sys2Proof.Machine.execSeqExpiry n w s
  | .unsettledSampleClear n w lo hi => Sys2Proof.Machine.execUnsettledSampleClear n w lo hi s
  | .symbolMatch n w symbols first outs => Sys2Proof.Machine.execSymbolMatch n w symbols first outs s
  | .cdrBlockEnd n w symbols first outs err => Sys2Proof.Machine.execCdrBlockEnd n w symbols first outs err s
  | .trackBlockEnd n w samps => Sys2Proof.Machine.execTrackBlockEnd n w samps s
  | .triggerCandidate n w => Sys2Proof.Machine.execTriggerCandidate n w s
  | .triggerCountClear n w p => Sys2Proof.Machine.execTriggerCountClear n w p s
  | .armRequest n w p => Sys2Proof.Machine.execArmRequest n w p s
  | .armStartLinePulse n w => Sys2Proof.Machine.execArmStartLinePulse n w s
  | .armedEntry n w => Sys2Proof.Machine.execArmedEntry n w s
  | .autoTimeout n w => Sys2Proof.Machine.execAutoTimeout n w s
  | .forceTriggerWrite n w p => Sys2Proof.Machine.execForceTriggerWrite n w p s
  | .segmentClose n w => Sys2Proof.Machine.execSegmentClose n w s
  | .rearmEnd n w => Sys2Proof.Machine.execRearmEnd n w s
  | .stopWrite n w p => Sys2Proof.Machine.execStopWrite n w p s
  | .stopLinePulse n w => Sys2Proof.Machine.execStopLinePulse n w s
  | .armCountClear n w p => Sys2Proof.Machine.execArmCountClear n w p s
  | .tdcEdge n w src t r digital => Sys2Proof.Machine.execTdcEdge n w src t r digital s
  | .skewRecalDone n w t => Sys2Proof.Machine.execSkewRecalDone n w t s
  | .tdcTableComplete n w => Sys2Proof.Machine.execTdcTableComplete n w s
  | .tdcCalIntervalExpiry n w => Sys2Proof.Machine.execTdcCalIntervalExpiry n w s
  | .stookPack n w k first samps => Sys2Proof.Machine.execStookPack n w k first samps s
  | .stookQueue n w p => Sys2Proof.Machine.execStookQueue n w p s
  | .stookDrain n w j a flip => Sys2Proof.Machine.execStookDrain n w j a flip s
  | .segmentEntryWrite n w p a => Sys2Proof.Machine.execSegmentEntryWrite n w p a s
  | .gapEntryWrite n w p a => Sys2Proof.Machine.execGapEntryWrite n w p a s
  | .captureCountClear n w p => Sys2Proof.Machine.execCaptureCountClear n w p s
  | .bar4Read n w off len flips => Sys2Proof.Machine.execBar4Read n w off len flips s
  | .bar4Write n w off data enables ep => Sys2Proof.Machine.execBar4Write n w off data enables ep s
  | .bar2Read n w off len => Sys2Proof.Machine.execBar2Read n w off len s
  | .bar2Write n w off data enables ep => Sys2Proof.Machine.execBar2Write n w off data enables ep s
  | .memBringUpDone n w r0 r1 r2 r3 => Sys2Proof.Machine.execMemBringUpDone n w r0 r1 r2 r3 s
  | .fixedRead n w a => Sys2Proof.Machine.execFixedRead n w a s
  | .fixedReadData n w flip => Sys2Proof.Machine.execFixedReadData n w flip s
  | .openAdmit n w a => Sys2Proof.Machine.execOpenAdmit n w a s
  | .openReadData n w p flip => Sys2Proof.Machine.execOpenReadData n w p flip s
  | .refresh n w => Sys2Proof.Machine.execRefresh n w s
  | .mr4Poll n w t0 t1 t2 t3 => Sys2Proof.Machine.execMr4Poll n w t0 t1 t2 t3 s
  | .selfRefreshEntry n w => Sys2Proof.Machine.execSelfRefreshEntry n w s
  | .memWake n w => Sys2Proof.Machine.execMemWake n w s
  | .memWakeWrite n w p => Sys2Proof.Machine.execMemWakeWrite n w p s
  | .wakeDone n w r => Sys2Proof.Machine.execWakeDone n w r s
  | .scrubRead n w ch sub => Sys2Proof.Machine.execScrubRead n w ch sub s
  | .scrubYield n w => Sys2Proof.Machine.execScrubYield n w s
  | .retrainDone n w r0 r1 r2 r3 => Sys2Proof.Machine.execRetrainDone n w r0 r1 r2 r3 s
  | .retrainRequest n w p => Sys2Proof.Machine.execRetrainRequest n w p s
  | .retrainIntervalExpiry n w => Sys2Proof.Machine.execRetrainIntervalExpiry n w s
  | .channelFail n w ch atRetrain => Sys2Proof.Machine.execChannelFail n w ch atRetrain s
  | .memErrorClear n w p => Sys2Proof.Machine.execMemErrorClear n w p s
  | .haywardGrant n w => Sys2Proof.Machine.execHaywardGrant n w s
  | .grantWindowEnd n w => Sys2Proof.Machine.execGrantWindowEnd n w s
  | .haywardCountClear n w p => Sys2Proof.Machine.execHaywardCountClear n w p s
  | .accIntake n w q first samps => Sys2Proof.Machine.execAccIntake n w q first samps s
  | .accApply n w flips => Sys2Proof.Machine.execAccApply n w flips s
  | .accStart n w p => Sys2Proof.Machine.execAccStart n w p s
  | .accFreeze n w p => Sys2Proof.Machine.execAccFreeze n w p s
  | .accResume n w p => Sys2Proof.Machine.execAccResume n w p s
  | .accClear n w p => Sys2Proof.Machine.execAccClear n w p s
  | .accFrozen n w => Sys2Proof.Machine.execAccFrozen n w s
  | .accClearDone n w => Sys2Proof.Machine.execAccClearDone n w s
  | .accCountClear n w p => Sys2Proof.Machine.execAccCountClear n w p s
  | .rasterEnable n w p => Sys2Proof.Machine.execRasterEnable n w p s
  | .rasterDisable n w p => Sys2Proof.Machine.execRasterDisable n w p s
  | .rasterFirstFrame n w => Sys2Proof.Machine.execRasterFirstFrame n w s
  | .dsiStartupWrite n w p data => Sys2Proof.Machine.execDsiStartupWrite n w p data s
  | .frameStart n w => Sys2Proof.Machine.execFrameStart n w s
  | .lineStart n w flips => Sys2Proof.Machine.execLineStart n w flips s
  | .vblankStart n w => Sys2Proof.Machine.execVblankStart n w s
  | .modeSwitchEnd n w => Sys2Proof.Machine.execModeSwitchEnd n w s
  | .rasterCommit n w p => Sys2Proof.Machine.execRasterCommit n w p s
  | .commitSample n w => Sys2Proof.Machine.execCommitSample n w s
  | .teEdge n w rising => Sys2Proof.Machine.execTeEdge n w rising s
  | .teTimeout n w => Sys2Proof.Machine.execTeTimeout n w s
  | .cursorFetchDone n w => Sys2Proof.Machine.execCursorFetchDone n w s
  | .rasterCountClear n w p => Sys2Proof.Machine.execRasterCountClear n w p s
  | .dmaRequest n w k => Sys2Proof.Machine.execDmaRequest n w k s
  | .moverTake n w => Sys2Proof.Machine.execMoverTake n w s
  | .descriptorFetch n w k flip0 flip1 => Sys2Proof.Machine.execDescriptorFetch n w k flip0 flip1 s
  | .burstStart n w k flips => Sys2Proof.Machine.execBurstStart n w k flips s
  | .burstEnd n w k => Sys2Proof.Machine.execBurstEnd n w k s
  | .descriptorEnd n w k => Sys2Proof.Machine.execDescriptorEnd n w k s
  | .hostCompletion n w k status data poisoned => Sys2Proof.Machine.execHostCompletion n w k status data poisoned s
  | .dmaCompletionTimeout n w k => Sys2Proof.Machine.execDmaCompletionTimeout n w k s
  | .channelEnable n w p k => Sys2Proof.Machine.execChannelEnable n w p k s
  | .channelDisable n w p k => Sys2Proof.Machine.execChannelDisable n w p k s
  | .channelAbort n w p k => Sys2Proof.Machine.execChannelAbort n w p k s
  | .dmaCountClear n w p => Sys2Proof.Machine.execDmaCountClear n w p s
  | .portEnable n w p => Sys2Proof.Machine.execPortEnable n w p s
  | .portDisable n w p => Sys2Proof.Machine.execPortDisable n w p s
  | .portLocked n w => Sys2Proof.Machine.execPortLocked n w s
  | .portAligned n w => Sys2Proof.Machine.execPortAligned n w s
  | .portUp n w => Sys2Proof.Machine.execPortUp n w s
  | .portDown n w => Sys2Proof.Machine.execPortDown n w s
  | .portTrainTimeout n w => Sys2Proof.Machine.execPortTrainTimeout n w s
  | .portRetrainDelayExpiry n w => Sys2Proof.Machine.execPortRetrainDelayExpiry n w s
  | .rxIdle n w flit => Sys2Proof.Machine.execRxIdle n w flit s
  | .rxDmaData n w flit => Sys2Proof.Machine.execRxDmaData n w flit s
  | .rxRequest n w flit => Sys2Proof.Machine.execRxRequest n w flit s
  | .rxPwrite n w flit => Sys2Proof.Machine.execRxPwrite n w flit s
  | .rxLink n w flit => Sys2Proof.Machine.execRxLink n w flit s
  | .rxBadFlit n w flit => Sys2Proof.Machine.execRxBadFlit n w flit s
  | .txFlit n w flips => Sys2Proof.Machine.execTxFlit n w flips s
  | .liveFlitTimeout n w p flips => Sys2Proof.Machine.execLiveFlitTimeout n w p flips s
  | .playbackStart n w p => Sys2Proof.Machine.execPlaybackStart n w p s
  | .playbackStop n w p k => Sys2Proof.Machine.execPlaybackStop n w p k s
  | .playbackEnd n w p => Sys2Proof.Machine.execPlaybackEnd n w p s
  | .portCountClear n w p => Sys2Proof.Machine.execPortCountClear n w p s
  | .patternStart n w p => Sys2Proof.Machine.execPatternStart n w p s
  | .patternStartPulse n w => Sys2Proof.Machine.execPatternStartPulse n w s
  | .patternStop n w p => Sys2Proof.Machine.execPatternStop n w p s
  | .halt n w => Sys2Proof.Machine.execHalt n w s
  | .play n w => Sys2Proof.Machine.execPlay n w s
  | .hold n w => Sys2Proof.Machine.execHold n w s
  | .setc n w => Sys2Proof.Machine.execSetc n w s
  | .loop n w => Sys2Proof.Machine.execLoop n w s
  | .branch n w word => Sys2Proof.Machine.execBranch n w word s
  | .waitTrig n w => Sys2Proof.Machine.execWaitTrig n w s
  | .waitTrigDone n w => Sys2Proof.Machine.execWaitTrigDone n w s
  | .waitTl n w => Sys2Proof.Machine.execWaitTl n w s
  | .event n w => Sys2Proof.Machine.execEvent n w s
  | .prefetchArrival n w flip => Sys2Proof.Machine.execPrefetchArrival n w flip s
  | .patternCountClear n w p => Sys2Proof.Machine.execPatternCountClear n w p s
  | .msixTrigger w line => Sys2Proof.Machine.execMsixTrigger w line s
  | .intClear ns p value => Sys2Proof.Machine.execIntClear ns p value s
  | .configRequest ns ready op => Sys2Proof.Machine.execConfigRequest ns ready op s
  | .wideRead w p => Sys2Proof.Machine.execWideRead w p s
  | .wideWrite w p => Sys2Proof.Machine.execWideWrite w p s
  | .wideDone w => Sys2Proof.Machine.execWideDone w s
  | .initiateDownloadExpedited w ix sub size data => Sys2Proof.Machine.execInitiateDownloadExpedited w ix sub size data s
  | .initiateDownloadSegmented ns ix sub size => Sys2Proof.Machine.execInitiateDownloadSegmented ns ix sub size s
  | .downloadSegment w toggle last data => Sys2Proof.Machine.execDownloadSegment w toggle last data s
  | .initiateUpload w ix sub => Sys2Proof.Machine.execInitiateUpload w ix sub s
  | .uploadSegment ns toggle => Sys2Proof.Machine.execUploadSegment ns toggle s
  | .sdoAbort ns => Sys2Proof.Machine.execSdoAbort ns s
  | .sdoTimeout ns => Sys2Proof.Machine.execSdoTimeout ns s
  | .canFrameIgnored f => Sys2Proof.Machine.execCanFrameIgnored f s
  | .hdapRead w q len => Sys2Proof.Machine.execHdapRead w q len s
  | .hdapReadContinue w q len => Sys2Proof.Machine.execHdapReadContinue w q len s
  | .hdapWrite w q data => Sys2Proof.Machine.execHdapWrite w q data s
  | .hdapWriteSegment w q last data => Sys2Proof.Machine.execHdapWriteSegment w q last data s
  | .hdapAssemblyTimeout ns => Sys2Proof.Machine.execHdapAssemblyTimeout ns s
  | .hdapBadDatagram ns b => Sys2Proof.Machine.execHdapBadDatagram ns b s
  | .ethLinkChange ns speed => Sys2Proof.Machine.execEthLinkChange ns speed s
  | .dhcpLease ns addr => Sys2Proof.Machine.execDhcpLease ns addr s
  | .ptpSyncRx ns domain every origin arrival correction followUp => Sys2Proof.Machine.execPtpSyncRx ns domain every origin arrival correction followUp s
  | .ptpAnnounceRx ns domain every a => Sys2Proof.Machine.execPtpAnnounceRx ns domain every a s
  | .ptpDelayRx ns domain kind t1 t2 t3 t4 correction => Sys2Proof.Machine.execPtpDelayRx ns domain kind t1 t2 t3 t4 correction s
  | .ptpMessageTimeout ns => Sys2Proof.Machine.execPtpMessageTimeout ns s
  | .ppsOutputEdge ns t => Sys2Proof.Machine.execPpsOutputEdge ns t s
  | .watchdogRestart ns => Sys2Proof.Machine.execWatchdogRestart ns s
  | .managementResume ns => Sys2Proof.Machine.execManagementResume ns s
  | .sensorSample w temps volts => Sys2Proof.Machine.execSensorSample w temps volts s
  | .logMirrorDone ns ok => Sys2Proof.Machine.execLogMirrorDone ns ok s
  | .mirrorIntervalExpiry ns => Sys2Proof.Machine.execMirrorIntervalExpiry ns s
  | .logRead ns p => Sys2Proof.Machine.execLogRead ns p s
  | .ntcSample ns uv => Sys2Proof.Machine.execNtcSample ns uv s
  | .indTarget ns p n col v => Sys2Proof.Machine.execIndTarget ns p n col v s
  | .indCurveWrite ns p n col op => Sys2Proof.Machine.execIndCurveWrite ns p n col op s
  | .begin ns p => Sys2Proof.Machine.execBegin ns p s
  | .eraseDone ns ok => Sys2Proof.Machine.execEraseDone ns ok s
  | .programData ns p data ok => Sys2Proof.Machine.execProgramData ns p data ok s
  | .verify ns p => Sys2Proof.Machine.execVerify ns p s
  | .verifyDone ns => Sys2Proof.Machine.execVerifyDone ns s
  | .activate ns p => Sys2Proof.Machine.execActivate ns p s
  | .cancel ns p => Sys2Proof.Machine.execCancel ns p s
  | .slotConfirm ns => Sys2Proof.Machine.execSlotConfirm ns s
  | .profileStore ns p value => Sys2Proof.Machine.execProfileStore ns p value s
  | .profileStoreDone ns => Sys2Proof.Machine.execProfileStoreDone ns s
  | .profileErase ns p value => Sys2Proof.Machine.execProfileErase ns p value s
  | .profileEraseDone ns => Sys2Proof.Machine.execProfileEraseDone ns s
  | .profileActivate ns p value => Sys2Proof.Machine.execProfileActivate ns p value s
  | .profileActivationDone w => Sys2Proof.Machine.execProfileActivationDone w s
  | .lcToProvisioned ns p => Sys2Proof.Machine.execLcToProvisioned ns p s
  | .lcToField ns p => Sys2Proof.Machine.execLcToField ns p s
  | .lcToService ns p => Sys2Proof.Machine.execLcToService ns p s
  | .lcToRetired ns p => Sys2Proof.Machine.execLcToRetired ns p s
  | .serviceExpiry ns => Sys2Proof.Machine.execServiceExpiry ns s
  | .cellResetRequest ns p mask => Sys2Proof.Machine.execCellResetRequest ns p mask s
  | .wipeSramDone n w => Sys2Proof.Machine.execWipeSramDone n w s
  | .wipeDone ns mask => Sys2Proof.Machine.execWipeDone ns mask s
  | .deviceResetRequest ns p sel => Sys2Proof.Machine.execDeviceResetRequest ns p sel s
  | .systemReset ns low sel => Sys2Proof.Machine.execSystemReset ns low sel s
  | .perstAssert ns sel => Sys2Proof.Machine.execPerstAssert ns sel s
  | .perstRelease ns => Sys2Proof.Machine.execPerstRelease ns s
  | .powerDrop ns => Sys2Proof.Machine.execPowerDrop ns s
  | .powerOnRelease ns sel => Sys2Proof.Machine.execPowerOnRelease ns sel s
  | .bypass ns => Sys2Proof.Machine.execBypass ns s
  | .idcode ns => Sys2Proof.Machine.execIdcode ns s
  | .samplePreload ns pins preload => Sys2Proof.Machine.execSamplePreload ns pins preload s
  | .extest ns pins => Sys2Proof.Machine.execExtest ns pins s
  | .extestPulse ns pins => Sys2Proof.Machine.execExtestPulse ns pins s
  | .extestTrain ns pins => Sys2Proof.Machine.execExtestTrain ns pins s
  | .clamp ns => Sys2Proof.Machine.execClamp ns s
  | .highz ns => Sys2Proof.Machine.execHighz ns s
  | .tapReset ns => Sys2Proof.Machine.execTapReset ns s
  | .rasterStopped n w => Sys2Proof.Machine.execRasterStopped n w s
  | .indPwmPeriod ns col => Sys2Proof.Machine.execIndPwmPeriod ns col s
  | .ppsPulseEnd ns => Sys2Proof.Machine.execPpsPulseEnd ns s
  | .ptpSyncInterval ns => Sys2Proof.Machine.execPtpSyncInterval ns s
  | .canBusError ns e => Sys2Proof.Machine.execCanBusError ns e s
  | .busOffRecovery ns => Sys2Proof.Machine.execBusOffRecovery ns s
  | .arpRequest ns target => Sys2Proof.Machine.execArpRequest ns target s
  | .icmpEchoRequest ns target source ident seq data => Sys2Proof.Machine.execIcmpEchoRequest ns target source ident seq data s
  | .pcieLinkChange ns speed width flit mps mrrs => Sys2Proof.Machine.execPcieLinkChange ns speed width flit mps mrrs s
  | .hostAreaWrite ns off data enables ep => Sys2Proof.Machine.execHostAreaWrite ns off data enables ep s

end Sys2Proof.Machine
end

