-- ==== Sys2Proof/Machine/Step.lean ====
section
/-! DEFINITION. One step of the block: the command at the front of the queue, or idling on an empty one. -/

namespace Sys2Proof.Machine

/-- The state with the commands that wait replaced. -/
def State.withPending (s : State) (q : List Instr) : State := { s with pending := q }

/-- The oldest command is taken and executed on the state with the queue's rest; on an empty queue the block idles (log entry 1). -/
def step (s : State) : Host.Outcome State Fault Refusal :=
  match s.pending with
  | [] => .next s
  | i :: rest => exec i (s.withPending rest)

/-- The host's hook: the command a word spells, at the front of the queue.  No row of the command table has bits (log entry 2). -/
def State.withFetchWord (s : State) (nbits w : Nat) : State :=
  match decodeTableWord nbits w with
  | some i => s.withPending (i :: s.pending)
  | none => s

end Sys2Proof.Machine
end

