-- ==== Sys2Proof/Safety.lean ====
section
/-! DEFINITION. What counts as a safe run: no fault and no refusal, canonical memories, and the bounds the spec gives what it stores;
and the words in which the claims speak of a command: that it completes, what the port hears, what stays as it was. -/

namespace Sys2Proof.Machine

/-- A step that goes on. -/
def Out.goes (o : Out) : Bool := match o with | .next _ => true | _ => false

/-- The four memories of a cell are in canonical form. -/
def Cell.memoriesWf (c : Cell) : Bool := c.cap.memory.wf && c.acc.memory.wf && c.mem.memory.wf && c.dma.sram.wf

/-- Every memory of the part is in canonical form. -/
def State.memoriesWf (s : State) : Bool := s.cells.all Cell.memoriesWf && s.glob.hst.wide.wf

/-- The log ring and its mirror hold at most 8,192 entries (R453, R455). -/
def State.logBounded (s : State) : Bool := s.glob.log.ring.length ≤ 8192 && s.glob.log.mirror.length ≤ 8192

/-- The fused counter lies in 0 to 63, as does the RollbackIndex of every slot that verified (R461, R463). -/
def State.rollbackBounded (s : State) : Bool :=
  s.glob.mgmt.update.counter ≤ 63 && s.glob.mgmt.update.slots.all (fun x => x.rollback ≤ 63)

/-! The words of the claims -/

/-- The command is executed and answers a next state of which `P` holds. -/
def Completes (i : Instr) (s : State) (P : State → Prop) : Prop := ∃ t, exec i s = .next t ∧ P t

/-- Cell `n` is not held in reset (R490). -/
abbrev State.live (s : State) (n : CellNo) : Prop := (s.cell n).held = false

/-- Cell `n` runs on fcc: its clock state is RUN and its domain is clocked by the synthesiser (R111). -/
abbrev State.runs (s : State) (n : CellNo) : Prop :=
  (s.cell n).held = false ∧ (s.cell n).clk.onFcc = true ∧ (s.cell n).get K.ClockState = 0

/-- A port is served (R447, R463, R488). -/
abbrev State.takes (s : State) (p : Port) : Prop := s.glob.serves p = true

/-- Port `p` may write entry `k` of live cell `n` now. -/
abbrev State.writable (s : State) (n : CellNo) (p : Port) : Prop := s.glob.serves p = true ∧ (s.cell n).held = false

/-- Port `p` may write shared entry `k` now (R463). -/
abbrev State.writes (s : State) (p : Port) (k : Nat) : Prop := s.glob.serves p = true ∧ s.glob.refuses k = false

/-- What a port last heard: 0 for success, else the abort code (R424). -/
def State.heard (s : State) (p : Port) : Nat :=
  match p with
  | .pcie => s.glob.answers.pcie
  | .eth => s.glob.answers.eth
  | .can => s.glob.answers.can
  | .pangobor => s.glob.answers.pangobor
  | .wide => s.glob.answers.wide

/-- Cycle `w.cc` is no hand-over cycle, in which a write would be late, whether its boundary has been taken or not (R74). -/
abbrev State.onTime (s : State) (n : CellNo) (w : When) : Prop :=
  w.cc + 1 ≠ (s.cell n).trk.startCc ∧ w.cc ≠ (s.cell n).handOver ∧ (s.cell n).get K.ClockState ≠ 1

/-- Cycle `w.cc` of cell `n` is the last of a block of the estimator: 65,536 cc on fcc, counted from the end of foreground calibration
(R131). -/
abbrev State.blockEnds (s : State) (n : CellNo) (w : When) : Prop :=
  2 ≤ (s.cell n).get K.FgCalState ∧ (s.cell n).clk.onFcc = true ∧ (s.cell n).cor.bgStart ≤ w.cc ∧
  (w.cc + 1 - (s.cell n).cor.bgStart) % 65536 = 0

/-- Power is up (R488). -/
abbrev State.powered (s : State) : Prop := s.glob.mgmt.boot ≠ .off

/-- Line `line` of cell `n` pulses in cycle `t` (R31). -/
abbrev State.pulsed (s : State) (n : CellNo) (line t : Nat) : Prop := (t, line) ∈ (s.cell n).fab.pulses

/-- Entry `idx` of the active image of cell `n` is `e`, with this action, and its instance at position `p` applies now (R48, R59, R61): the
executor runs, the entry is enabled and has that instance next, its position lies in the samples of the cc and, for Base 2, before the end
of the acquisition, and no other instance of this cc comes first. -/
def State.instanceDue (s : State) (n : CellNo) (w : When) (idx action : Nat) (e : EventEntry) (p : Nat) : Prop :=
  (s.cell n).held = false ∧ (s.cell n).exe.running = true ∧ (s.cell n).get K.ClockState = 0 ∧ e.enabled = true ∧ e.action = action ∧
  (∃ r o, (s.cell n).events[idx]? = some e ∧ (s.cell n).exe.runs[idx]? = some r ∧ r.origin = some o ∧ e.hasInst r.next = true ∧
    p = e.at o r.next) ∧
  (s.cell n).pos (128 * w.cc) ≤ p ∧ p < (s.cell n).pos (128 * w.cc + 128) ∧
  (e.base = 2 → ∀ z, (s.cell n).baseEnd = some z → p < z) ∧
  (s.cellAt n w).earlierDue p e.rank idx 0 (s.cell n).events (s.cell n).exe.runs = false

/-- The sample of the mark of position `p` in cc `w.cc`, and the first sample at or after it (R48). -/
def State.markOf (s : State) (n : CellNo) (w : When) (p : Nat) : Nat := (s.cell n).trk.line.mark p w.cc
def State.firstOf (s : State) (n : CellNo) (w : When) (p : Nat) : Nat := (s.cell n).trk.line.firstAt p (s.markOf n w p)

/-- The entries a fired instance writes beside what its action does: the count of its line, EventsMissed and the LastEvent entries (R61,
R76). -/
def eventEntries (e : EventEntry) : List Nat :=
  [K.EventsMissed, K.LastEventIndex, K.LastEventPosition, K.LastEventSample, K.LastEventFraction] ++
    if e.line = 255 then [] else [K.EventCount + (20 + e.line)]

/-- Condition unit `u` of cell `n` judges corrected samples with its configuration `g`, and its next sample `k` lies behind the start
samples of the arms; levels and arm have not changed within its reach, and no sample is unsettled (R172, R203, R205). -/
def State.judging (s : State) (n : CellNo) (u : Fin 4) (g : UnitCfg) (k : Nat) : Prop :=
  s.runs n ∧ 2 ≤ (s.cell n).get K.FgCalState ∧ (s.cell n).unitCfg (s.cell n).arm u.val = g ∧ g.kind = .analog ∧ g.path ≠ 1 ∧
  ((s.cell n).unit u).pos = k ∧ (∀ a ∈ (s.cell n).trg.arms, a.until' < k) ∧ (s.cell n).oldUnit u .analog = none ∧
  (s.cell n).trg.levels = [] ∧ (s.cell n).fe.unsettled = []

/-- The entries an event of unit `u` writes (R173, R210). -/
def unitEntries (u : Fin 4) : List Nat :=
  [K.UnitEventCount + 0x100 * u.val, K.LastUnitSample + 0x100 * u.val, K.LastUnitFraction + 0x100 * u.val]

/-- Unit `u` of cell `n` counts one more event, with its placement at position `p`, in 1/256 sample (R173). -/
def State.unitCounts (s t : State) (n : CellNo) (u : Fin 4) (p : Nat) : Prop :=
  (t.cell n).get (K.UnitEventCount + 0x100 * u.val) = wrapAdd 64 ((s.cell n).get (K.UnitEventCount + 0x100 * u.val)) 1 ∧
  (t.cell n).get (K.LastUnitSample + 0x100 * u.val) = p / 256 ∧ (t.cell n).get (K.LastUnitFraction + 0x100 * u.val) = p % 256

/-- No cause of R224 refuses an arm of cell `n` at start sample `a`. -/
def State.mayArm (s : State) (n : CellNo) (a : Nat) : Prop :=
  (s.cell n).trg.acqs = [] ∧ (s.cell n).get K.ClockState = 0 ∧ (s.cell n).get K.FgCalState ≠ 1 ∧ (s.cell n).plc.startup = false ∧
  s.glob.get (G.WipeState + n.val) ≠ 1 ∧ s.glob.get (G.WipeState + n.val) ≠ 2 ∧ s.glob.get G.LifeCycleState ≠ 4 ∧
  (s.cell n).get K.ThermalHold = 0 ∧
  (3 < (s.cell n).get K.ArmWindow ∨ (s.cell n).insideWindow ((s.cell n).get K.ArmWindow) ((s.cell n).posOf a) = true) ∧
  (s.cell n).trigCheck (s.cell n).armValues = none ∧
  ∃ m, (s.cell n).exe.active = some m ∧ (s.cell n).armConfigCheck m (s.cell n).armValues = none

/-- One acquisition starts at sample `a` and waits for it (R211, R214). -/
def State.armedAt (t : State) (n : CellNo) (a : Nat) : Prop :=
  (∃ q, (t.cell n).trg.acqs = [q] ∧ q.a = a ∧ q.phase = .waiting ∧ q.stop = none) ∧ (t.cell n).get K.ArmState = 1 ∧
  (t.cell n).get K.ArmSample = a

/-- One acquisition `q` of cell `n` fills its pre-trigger samples, and arming has nothing to decide before cc `t` (R214). -/
def State.filling (s : State) (n : CellNo) (t : Nat) (q : Acq) : Prop :=
  (s.cell n).trg.acqs = [q] ∧ q.phase = .prefill ∧ q.stop = none ∧ q.seq = none ∧ 128 * (t + 1) ≤ q.p + q.pre ∧
  (s.cell n).trg.queue = [] ∧ (s.cell n).trg.forces = [] ∧ (s.cell n).trg.segMarks = []

/-- Slot `a` lies in the present cc of cell `n`, in memory cycle `m` of the swath, with slot byte `b` in force; the cell runs on fcc and its
deep memory is up (R49, R54, R288). -/
def State.slotIs (s : State) (n : CellNo) (w : When) (a : SlotAt) (m b : Nat) : Prop :=
  s.runs n ∧ (s.cell n).get K.MemState = 2 ∧ (s.cell n).exe.running = true ∧
  m = ceilDiv (36 * (w.cc - (s.cell n).trk.startCc)) 25 + a.sub ∧ m < ceilDiv (36 * (w.cc - (s.cell n).trk.startCc + 1)) 25 ∧
  (s.cell n).slotByte a m = b

/-- The output of the pattern engine reaches its next instruction in cc `t`, at boundary `u`; `first` says that no output has begun
(R392, R398). -/
def PatOut.reaches (o : PatOut) (t u : Nat) (first : Bool) : Prop :=
  match o with
  | .waiting (some f) _ => f ≤ t ∧ u = boundaryOf t ∧ first = true
  | .waiting none _ => False
  | .word _ _ (some x) => x = u ∧ u / 2 = t + 3 ∧ first = false
  | .word _ _ none => False
  | .play _ x _ _ => x = u ∧ u / 2 = t + 3 ∧ first = false

/-- The engine is within a PLAY. -/
def PatOut.isPlay (o : PatOut) : Bool := match o with | .play _ _ _ _ => true | _ => false

/-- The running engine of cell `n` reaches instruction `v` in this cc, at boundary `u`, with fewer than 64 instructions without output
behind it (R392). -/
def State.patAt (s : State) (n : CellNo) (w : When) (u v : Nat) (first : Bool) : Prop :=
  s.runs n ∧ (s.cell n).get K.PatternState = 1 ∧ (s.cell n).pat.out.reaches w.cc u first ∧ (s.cell n).pat.run < 64 ∧
  (s.cell n).patInstr (s.cell n).patPc = v

/-- Entry `idx` of the active image is the release `e`; its instance at position `p`, due in two cc, has boundary `b`, which is emitted in
this cc and has not been released for its tag, and no other release of this cc comes first (R59, R61, R394). -/
def State.releases (s : State) (n : CellNo) (w : When) (idx : Nat) (e : EventEntry) (p b : Nat) : Prop :=
  s.runs n ∧ (s.cell n).exe.running = true ∧ e.enabled = true ∧ e.action = 6 ∧
  (∃ r o, (s.cell n).events[idx]? = some e ∧ (s.cell n).exe.runs[idx]? = some r ∧ r.origin = some o ∧ e.hasInst r.next = true ∧
    p = e.at o r.next) ∧
  ((s.cell n).lineAhead (w.cc + 2)).pos (128 * (w.cc + 2)) ≤ p ∧ p < ((s.cell n).lineAhead (w.cc + 2)).pos (128 * (w.cc + 3)) ∧
  b = ceilDiv (((s.cell n).lineAhead (w.cc + 2)).firstAt p (((s.cell n).lineAhead (w.cc + 2)).mark p (w.cc + 2))) 64 ∧
  b / 2 = w.cc + 3 ∧ (s.cell n).pat.releases.contains (e.param, b) = false ∧
  (e.base = 2 → ∀ z, (s.cell n).baseEnd = some z → p < z) ∧ (s.cellAt n w).earlierRelease idx p = false

/-- A good PWRITE flit in sequence, of one data stook for stook `at'` (R373, R380). -/
def State.pwriteOf (s : State) (n : CellNo) (flit at' : Nat) : Prop :=
  flitOk flit = true ∧ flitType flit = 5 ∧ flitSeq flit = numAt (s.cell n).prt.received 1 % 32 ∧ flitCount flit = 1 ∧
  (decodeStook (flitSlot flit 0)).bad = false ∧ bits (payload (decodeStook (flitSlot flit 0)).word) 64 2 = 0 ∧
  bits (payload (decodeStook (flitSlot flit 0)).word) 0 64 = at'

/-- Cell `n` has sent a flit: its header fields and its stooks, the freed count of the pool whose turn it was, and the CRC (R369 to R372).
-/
def State.flitSent (s t : State) (n : CellNo) (type target count seq : Nat) (stooks : List Nat) : Prop :=
  let p := numAt creditPools ((s.cell n).prt.rotation % 10)
  (t.cell n).prt.lastFlit =
    buildFlit (headerOf type target count seq) stooks (p * 4096 + numAt (s.cell n).prt.freed p % 4096) ∧
  (t.cell n).prt.rotation = ((s.cell n).prt.rotation + 1) % 10

/-- One data flit more has been sent to the partner's pool `p` (R372). -/
def State.poolSent (s t : State) (n : CellNo) (p : Nat) : Prop :=
  (t.cell n).prt.sent = addAt p 1 (s.cell n).prt.sent ∧
  (t.cell n).get K.FlitsSent = wrapAdd 64 ((s.cell n).get K.FlitsSent) 1

/-- A LIVE flit of stream `p` has been sent: up to 4 of its oldest staged stooks (R376, R377). -/
def State.liveSent (s t : State) (n : CellNo) (w : When) (flips : List (Nat × Nat)) (p : Fin 4) : Prop :=
  let x := (s.cell n).prt.live.get p
  let k := (x.staged.take 4).length
  s.flitSent t n 1 p.val (k - 1) (numAt (s.cell n).prt.sent p.val % 32)
    ((s.cellAt n w).liveStooks x flips x.sent (x.staged.take 4)).1 ∧ s.poolSent t n p.val ∧
  ((t.cell n).prt.live.get p).staged = x.staged.drop 4 ∧
  (t.cell n).get (portKey K.LiveStooksSent p) = wrapAdd 64 ((s.cell n).get (portKey K.LiveStooksSent p)) k

/-- No live stream, and no playback stream, has a flit due and credit for it (R376). -/
def State.noLive (s : State) (n : CellNo) (w : When) : Prop :=
  ∀ p : Fin 4, ((s.cellAt n w).liveDue p && (s.cell n).hasCredit p.val) = false

def State.noPlay (s : State) (n : CellNo) : Prop := ∀ p : Fin 4, ((s.cell n).playDue p && (s.cell n).hasCredit (4 + p.val)) = false

/-- A fixed read of stook `x` has been accepted for a stream: its content as of the slot, due FixedReadLatency later (R278). -/
def State.fixedTaken (s t : State) (n : CellNo) (w : When) (m kind target x : Nat) : Prop :=
  ∃ f, (t.cell n).mem.fixedReads.getLast? = some f ∧ f.due = (s.cellAt n w).absCycle m + 272 + (s.cell n).inForce K.MemReadLatency ∧
    f.kind = kind ∧ f.target = target ∧ f.stook = x ∧ f.data = stookAt (s.cell n).mem.memory x

/-- The memory tiers of a cell. -/
inductive Tier where
  | capture
  | accumulator
  | deep
  | descriptors
deriving DecidableEq, Repr

def Cell.tier (c : Cell) (x : Tier) : Memory :=
  match x with
  | .capture => c.cap.memory
  | .accumulator => c.acc.memory
  | .deep => c.mem.memory
  | .descriptors => c.dma.sram

/-- Every byte of every memory tier of cell `n` reads as before. -/
def State.keepsBytes (s t : State) (n : CellNo) : Prop := ∀ x a, memGet ((t.cell n).tier x) a = memGet ((s.cell n).tier x) a

/-- Address `a` of a memory tier lies outside stook `x`. -/
abbrev outsideStook (x a : Nat) : Prop := a < 18 * x ∨ 18 * x + 18 ≤ a

/-- Every byte of the tiers of cell `n` but one reads as before. -/
def State.keepsBytesBut (s t : State) (n : CellNo) (y : Tier) : Prop :=
  ∀ x a, x ≠ y → memGet ((t.cell n).tier x) a = memGet ((s.cell n).tier x) a

/-- Every byte of the tiers of cell `n` reads as before, but for those of stook `k` of tier `y`. -/
def State.keepsBytesOut (s t : State) (n : CellNo) (y : Tier) (k : Nat) : Prop :=
  ∀ x a, (x = y → outsideStook k a) → memGet ((t.cell n).tier x) a = memGet ((s.cell n).tier x) a

/-- The value `v` stands in front of the delay store of cell `n`, before `vs`: it applies now, and no target or clock fault comes in between
(R307, R308, R319). -/
def State.applies (s : State) (n : CellNo) (w : When) (v : AccVal) (vs : List AccVal) : Prop :=
  (s.cell n).held = false ∧ (s.cell n).clk.onFcc = true ∧ (s.cell n).acc.delay = v :: vs ∧ v.cc + 16384 ≤ w.cc ∧ v.uns = false ∧
  v.clk = false ∧ v.ovr = false ∧ (s.cell n).gateHolds v.ref = true ∧ (s.cell n).inRun v.ref = true ∧ (s.cell n).get K.ValueTarget = 0

/-- The value lies in the one record `r` of cell `n`, at its point `i` (R310). -/
def State.inRecord (s : State) (n : CellNo) (v : AccVal) (r : AccRec) (i : Nat) : Prop :=
  (s.cell n).acc.records = [r] ∧ (r.s : Int) ≤ v.ref ∧ v.ref < (r.e : Int) ∧ (s.cell n).pointOf r v = (i : Int) ∧
  i < (s.cell n).get K.RecordPoints

/-- The stook that holds accumulator word `x` of cell `n` is read without error: its payload is `p` (R304, R322). -/
def State.accReads (s : State) (n : CellNo) (flips : List (Nat × Nat)) (x p : Nat) : Prop :=
  (s.cell n).acc.memory.wf = true ∧
  ∃ v, decodeStook (stookAt (s.cell n).acc.memory (x / 4) ^^^ flipOf flips (x / 4)) = .clean v ∧ payload v = p

/-- After it the stook of accumulator word `x` holds payload `p` with its check symbols, and no other byte of cell `n` has changed. -/
def State.accWrites (s t : State) (n : CellNo) (x p : Nat) : Prop :=
  stookAt (t.cell n).acc.memory (x / 4) = encodeStook p % 2 ^ 144 ∧ s.keepsBytesOut t n .accumulator (x / 4)

/-- What of line `y` of the overlay has come (R345). -/
def Cell.lineStooks (c : Cell) (y : Nat) : List Fetched :=
  match c.ras.stores.find? (fun s => s.tag == lineTag (c.get K.FrameCount) y) with | some x => x.stooks | none => []

/-- Pixel `x` of line `y` of cell `n` as sent: background, density layer, overlay, cursor (R329). -/
def State.shown (s : State) (n : CellNo) (w : When) (flips : List (Nat × Nat)) (y x : Nat) : Nat :=
  let c := s.cell n
  let colours := c.densityColours ((s.cellAt n w).densityBins flips y).1
  let under := blend (c.densityPixel colours x) (c.frame K.BackgroundColour % 2 ^ 24)
  sentPixel (c.frame K.PixelFormat) (blend (c.cursorPixel x y) (blend (c.overlayPixel (c.lineStooks y) x) under))

/-- Slot `a` is a drain slot of stream `j` in memory cycle `m` of the present cc (R54). -/
def State.drainsIn (s : State) (n : CellNo) (w : When) (j : Fin 4) (a : SlotAt) (m : Nat) : Prop := s.slotIs n w a m (1 + 16 * j.val)

/-- Stream `j` of cell `n` offers its oldest stook `p` to channel `ch`: it is queued, and no entry goes before it (R252, R260). -/
def State.drains (s : State) (n : CellNo) (j ch : Fin 4) (p : Packed) (ps : List Packed) : Prop :=
  ((s.cell n).stream j).active = true ∧ (s.cell n).cap.mode ≠ 1 ∧ ((s.cell n).stream j).stooks = p :: ps ∧ p.state = .queued ∧
  (s.cell n).segmentDue ((s.cell n).stream j) = none ∧ ((s.cell n).stream j).gapDue = none ∧
  channelOf ((s.cell n).drainTarget j) = ch

/-- Output `q.next` of the one sequence of lane `k` may enter the packers: its delivery cycle has come and the decision cycle of its
reference sample is past (R155, R251). -/
def State.mayEnter (s : State) (n : CellNo) (w : When) (k : Fin 4) (q : LaneSeq) : Prop :=
  (s.cell n).held = false ∧ (s.cell n).clk.onFcc = true ∧ ((s.cell n).lane k).seqs = [q] ∧ q.stop = none ∧
  (s.cell n).newestOf q q.next / 128 + 19 + 4 * k.val ≤ w.cc ∧
  (q.outRef q.next).toNat / 128 + (s.cell n).get K.TriggerLatencyApplied < w.cc

/-- Every entry of cell `n` outside the list reads as before. -/
def State.keepsEntries (s t : State) (n : CellNo) (ks : List Nat) : Prop := ∀ k, k ∉ ks → (t.cell n).get k = (s.cell n).get k

/-- Every shared entry outside the list reads as before. -/
def State.keepsShared (s t : State) (ks : List Nat) : Prop := ∀ k, k ∉ ks → t.glob.get k = s.glob.get k

/-- Every other cell is as before (R22). -/
def State.keepsOthers (s t : State) (n : CellNo) : Prop := ∀ m, m ≠ n → t.cell m = s.cell m

/-- Everything the management complex and the host port keep beside the log and the entries is as before. -/
def Glob.keepsComplex (g h : Glob) : Prop :=
  h.mgmt = g.mgmt ∧ h.hst = g.hst ∧ h.can = g.can ∧ h.eth = g.eth ∧ h.doms = g.doms ∧ h.rst = g.rst ∧ h.mgmtDown = g.mgmtDown ∧
  h.ptpOff = g.ptpOff ∧ h.readData = g.readData

/-- `k` is a counter of the blocks `lo` to `hi` (R509). -/
def countsIn (lo hi k : Nat) : Bool :=
  lo ≤ k / 256 && k / 256 ≤ hi && match cellEntry? k with | some x => x.counter | none => false

/-- Everything is as before, but for the shared region, which is `g` with other values in the listed shared entries alone. -/
def State.becomes (s t : State) (g : Glob) (ks : List Nat) : Prop :=
  t = { s with glob := { g with regs := t.glob.regs } } ∧ s.keepsShared t ks

/-- Shared entry `k`, named by index and sub-index, is an RW number that its write only stores, and `v` lies in its range (R12, R13). -/
abbrev Glob.plainWrite (g : Glob) (ix sub : Nat) (e : Entry) (v : Nat) : Prop :=
  cellOfIx ix = none ∧ entryAt ix sub = some e ∧ e.acc = .rw ∧ e.ty.isBlock = false ∧ g.refusesEntry (256 * ix + sub) = false ∧
  e.valueOk v = true ∧ g.depends (256 * ix + sub) v = true ∧ indOf (256 * ix + sub) = none ∧
  (256 * ix + sub < G.PtpEnable ∨ G.PtpPriority2 < 256 * ix + sub)

/-- Entry `sub` of `ix` lies in cell `n`, can be read, and reads `v` at the instant `w` (R421). -/
def State.readsInCell (s : State) (w : When4) (ix sub : Nat) (v : List Byte) : Prop :=
  ∃ n i e, cellOfIx ix = some (n, i) ∧ entryAt ix sub = some e ∧ e.acc ≠ .wo ∧
    (s.cellAt n ⟨w.ns, (strobeOf w.at' n).cc⟩).readDict n (256 * i + sub) e = v

/-- The newest entry of the log is a new one, with this code and these first data bytes (R453). -/
def State.logged (s t : State) (code : Nat) (data : List Byte) : Prop :=
  ∃ e, t.glob.log.ring.head? = some e ∧ e.code = code ∧ e.seq = s.glob.log.nextSeq ∧ e.data = (data ++ zeros 16).take 16

/-- `d` is cell `c` after a cell reset (R490): every entry at its default but for the Reset-class entries, whose written value now takes
effect, FgCalCount, PortDownCause of a port that the reset disabled (R374), and ThermalHold, which follows the guard (R449); the clock
states and blocks at their reset, and the memories' contents as they were until the wipe passes them (R469). -/
def Cell.restarted (c d : Cell) : Prop :=
  (∀ k, isReset k = false → k ≠ K.FgCalCount → k ≠ K.ThermalHold → k ≠ K.PortDownCause → d.get k = Cell.init.get k) ∧
  d.get K.PortDownCause = (if c.get K.PortState = 0 then Cell.init.get K.PortDownCause else 6) ∧
  (∀ k, isReset k = true → d.get k = c.get k ∧ d.inForce k = c.get k) ∧ d.get K.FgCalCount = c.get K.FgCalCount ∧ d.doms = [] ∧
  d.exe = Cell.init.exe ∧ d.clk = Cell.init.clk ∧ d.cor = Cell.init.cor ∧ d.trg = Cell.init.trg ∧ d.pat = Cell.init.pat ∧
  d.cap.memory = c.cap.memory ∧ d.acc.memory = c.acc.memory ∧ d.mem.memory = c.mem.memory ∧ d.dma.sram = c.dma.sram

/-- Cell `n` goes through a cell reset; unless it is held its wipe begins (R471, R490). -/
def State.restarts (s t : State) (n : CellNo) : Prop :=
  (s.cell n).restarted (t.cell n) ∧ (t.cell n).held = (s.cell n).held ∧
  ((s.cell n).held = false → t.glob.get (G.WipeState + n.val) = 1 ∧ (t.cell n).get K.ThermalHold = s.glob.get G.ThermGuardActive)

/-- A test instruction of the test access port is loaded: `tap` is what it captures, and all four cells are held in reset (R507). -/
def State.holdsForTest (s t : State) (ns : Nat) (tap : Tap) : Prop :=
  (∀ n, (t.cell n).held = true ∧ (s.cell n).restarted (t.cell n)) ∧
  t.glob = { s.glob with nowNs := ns, mgmt := { s.glob.mgmt with tap := tap } }

/-- The test instruction that held the cells is over: they are released, and a wipe of each that was held begins (R471, R507). -/
def State.releasedFromTest (s t : State) : Prop :=
  t.glob.mgmt.tap.instr.isTest = false ∧
  ∀ n, (t.cell n).held = false ∧ ((s.cell n).held = true → (s.cell n).restarted (t.cell n) ∧ t.glob.get (G.WipeState + n.val) = 1)

/-- The abort code of a refused life-cycle request (R467). -/
def Glob.lifeAbort (g : Glob) (d : Nat) : Nat := if g.lifeReason d = 6 then 0x08000022 else 0x06090030

/-- A request for life-cycle state `d` is refused: its reason is recorded, the nonce is spent where a token was asked for, and nothing else
changes (R467, R468). -/
def State.lifeRefused (s t : State) (ns : Nat) (p : Port) (d : Nat) : Prop :=
  t.heard p = s.glob.lifeAbort d ∧ t.glob.get G.LifeCycleError = s.glob.lifeReason d ∧
  s.becomes t (({ s.glob with
    nowNs := ns
    mgmt := { s.glob.mgmt with
      life := if tokenPair s.glob.lifeState d then s.glob.mgmt.life.renew else s.glob.mgmt.life } } : Glob).answer p
      (s.glob.lifeAbort d)) [G.LifeCycleError]

/-- What fuses and flash hold is as before over a device reset, and what the ports and the session hold is lost (R489, R491). -/
def State.resetsDevice (s t : State) : Prop :=
  t.glob.mgmt.life = { s.glob.mgmt.life.renew with sessionEnd := none } ∧
  t.glob.mgmt.update.slots = s.glob.mgmt.update.slots ∧ t.glob.mgmt.update.counter = s.glob.mgmt.update.counter ∧
  t.glob.mgmt.profiles.slots = s.glob.mgmt.profiles.slots ∧ t.glob.log.mirror = s.glob.log.mirror ∧
  t.glob.mgmt.update.owner = none ∧ t.glob.can = ⟨none, [], 0⟩ ∧ t.glob.eth = EthPort.init

end Sys2Proof.Machine

namespace Sys2Proof

/-- The cell a command is addressed to, for the commands of one cell. -/
def Instr.cellOf (i : Instr) : Option CellNo :=
  match i with
  | .swathBoundary n _ | .trackerUpdate n _ _ | .sourceLost n _ _ | .sourceReturn n _ _ | .imageStagedWrite n _ _ _ | .imageVerifyDone n _
    | .swapRequest n _ _ | .commit n _ _ | .pulse n _ _ | .arm n _ _ | .stop n _ _ | .windowOpen n _ _ | .windowClose n _ _
    | .segmentStart n _ _ | .patternRelease n _ _ | .eyeOrigin n _ _ | .forceTrigger n _ _ | .accGateOn n _ _ | .accGateOff n _ _
    | .swEvent n _ _ _ | .eventCountClear n _ _ _ | .eviEdge n _ _ _ _ | .dreqEdge n _ _ _ | .evoPulseStart n _ _ | .evoPulseEnd n _ _
    | .overRangeSample n _ _ | .legOverloadEnter n _ _ | .legOverloadExit n _ _ | .overRangeClear n _ _ | .auxEdge n _ _ _
    | .synthLock n _ _ | .synthUnlock n _ _ | .refActivityLoss n _ _ _ _ | .refActivityDeclared n _ _ | .bypassSwitch n _
    | .holdoffExpiry n _ _ | .memPllLock n _ _ | .freshSwathStart n _ | .fgCalDone n _ _ _ _ _ | .placementCalDone n _ _
    | .bgBlockEnd n _ _ | .recalRequest n _ _ | .recalDone n _ | .coefSetWrite n _ _ _ _ | .stage2BankWrite n _ _ _ _ _
    | .bankSwapRequest n _ _ _ | .fadeEnd n _ _ | .deferredSwapStart n _ _ | .filterCountClear n _ _ | .unitEvent n _ _ _
    | .timeoutEvent n _ _ _ | .seqExpiry n _ | .unsettledSampleClear n _ _ _ | .symbolMatch n _ _ _ _ | .cdrBlockEnd n _ _ _ _ _
    | .trackBlockEnd n _ _ | .triggerCandidate n _ | .triggerCountClear n _ _ | .armRequest n _ _ | .armStartLinePulse n _
    | .armedEntry n _ | .autoTimeout n _ | .forceTriggerWrite n _ _ | .segmentClose n _ | .rearmEnd n _ | .stopWrite n _ _
    | .stopLinePulse n _ | .armCountClear n _ _ | .tdcEdge n _ _ _ _ _ | .skewRecalDone n _ _ | .tdcTableComplete n _
    | .tdcCalIntervalExpiry n _ | .stookPack n _ _ _ _ | .stookQueue n _ _ | .stookDrain n _ _ _ _ | .segmentEntryWrite n _ _ _
    | .gapEntryWrite n _ _ _ | .captureCountClear n _ _ | .bar4Read n _ _ _ _ | .bar4Write n _ _ _ _ _ | .bar2Read n _ _ _
    | .bar2Write n _ _ _ _ _ | .memBringUpDone n _ _ _ _ _ | .fixedRead n _ _ | .fixedReadData n _ _ | .openAdmit n _ _
    | .openReadData n _ _ _ | .refresh n _ | .mr4Poll n _ _ _ _ _ | .selfRefreshEntry n _ | .memWake n _ | .memWakeWrite n _ _
    | .wakeDone n _ _ | .scrubRead n _ _ _ | .scrubYield n _ | .retrainDone n _ _ _ _ _ | .retrainRequest n _ _
    | .retrainIntervalExpiry n _ | .channelFail n _ _ _ | .memErrorClear n _ _ | .haywardGrant n _ | .grantWindowEnd n _
    | .haywardCountClear n _ _ | .accIntake n _ _ _ _ | .accApply n _ _ | .accStart n _ _ | .accFreeze n _ _ | .accResume n _ _
    | .accClear n _ _ | .accFrozen n _ | .accClearDone n _ | .accCountClear n _ _ | .rasterEnable n _ _ | .rasterDisable n _ _
    | .rasterFirstFrame n _ | .dsiStartupWrite n _ _ _ | .frameStart n _ | .lineStart n _ _ | .vblankStart n _ | .modeSwitchEnd n _
    | .rasterCommit n _ _ | .commitSample n _ | .teEdge n _ _ | .teTimeout n _ | .cursorFetchDone n _ | .rasterCountClear n _ _
    | .dmaRequest n _ _ | .moverTake n _ | .descriptorFetch n _ _ _ _ | .burstStart n _ _ _ | .burstEnd n _ _ | .descriptorEnd n _ _
    | .hostCompletion n _ _ _ _ _ | .dmaCompletionTimeout n _ _ | .channelEnable n _ _ _ | .channelDisable n _ _ _ | .channelAbort n _ _ _
    | .dmaCountClear n _ _ | .portEnable n _ _ | .portDisable n _ _ | .portLocked n _ | .portAligned n _ | .portUp n _ | .portDown n _
    | .portTrainTimeout n _ | .portRetrainDelayExpiry n _ | .rxIdle n _ _ | .rxDmaData n _ _ | .rxRequest n _ _ | .rxPwrite n _ _
    | .rxLink n _ _ | .rxBadFlit n _ _ | .txFlit n _ _ | .liveFlitTimeout n _ _ _ | .playbackStart n _ _ | .playbackStop n _ _ _
    | .playbackEnd n _ _ | .portCountClear n _ _ | .patternStart n _ _ | .patternStartPulse n _ | .patternStop n _ _ | .halt n _
    | .play n _ | .hold n _ | .setc n _ | .loop n _ | .branch n _ _ | .waitTrig n _ | .waitTrigDone n _ | .waitTl n _ | .event n _
    | .prefetchArrival n _ _ | .patternCountClear n _ _ | .wipeSramDone n _ | .rasterStopped n _ => some n
  | _ => none

end Sys2Proof
end

