-- ==== Sys2Proof/Certificates/Slice0/Obligations.lean ====
section
/-! DEFINITION. The statements for the provers. -/

open Sys2Proof Sys2Proof.Machine

/-! Timeline and schedule -/

/-- R44, R73, R75: the hand-over cycle of a swath with nothing to retune starts the next swath in the following cc, on a line that begins
at its first sample; the line SWATH pulses in its first cc; that the causes of breach are forgotten there is the model's reading of R72
(log entry 119).  R14, R73: a pending commit applies the staged value of every Swath-class number that waits for nothing else, and records
the swath it starts.  R69, R75: a pending swap to an image that allows the achieved rate puts the banks in each other's place.  R44: in
cc -4 the tracker fixes T0' on the present line, so that the timeline is continuous, and for SAMPLE D' is 1 and the residual 0. -/
def Obligations.BoundaryAndTrackerComplete : Prop :=
  (∀ (s : State) (n : CellNo) (w : When), s.runs n → (s.cell n).exe.running = true → w.cc = (s.cell n).handOver →
    (s.cell n).get K.CommitPending = 0 → (s.cell n).clk.retune = none →
    Completes (.swathBoundary n w) s (fun t =>
      (t.cell n).trk.startCc = w.cc + 1 ∧ (t.cell n).trk.line.s0 = 128 * (w.cc + 1) ∧ (t.cell n).trk.nextLine = none ∧
      (t.cell n).exe.running = true ∧ (t.cell n).exe.breachSeen = 0 ∧ t.pulsed n 36 (w.cc + 1) ∧ s.keepsOthers t n)) ∧
  (∀ (s : State) (n : CellNo) (w : When) (k : Nat) (e : Entry), s.runs n → (s.cell n).exe.running = true → w.cc = (s.cell n).handOver →
    (s.cell n).get K.CommitPending = 1 → cellEntry? k = some e → e.cls = .swath → e.ty.isBlock = false → (s.cell n).keepsOut k = false →
    Completes (.swathBoundary n w) s (fun t =>
      (t.cell n).swath k = (s.cell n).get k ∧ (t.cell n).get K.CommitPending = 0 ∧
      (t.cell n).get K.LastCommitSwath = wrapAdd 64 ((s.cell n).get K.SwathCount) 1 ∧ s.keepsOthers t n)) ∧
  (∀ (s : State) (n : CellNo) (w : When) (m : Image), s.runs n → (s.cell n).exe.running = true → w.cc = (s.cell n).handOver →
    (s.cell n).get K.CommitPending = 0 → (s.cell n).clk.retune = none → (s.cell n).get K.SwapPending = 1 →
    2 ≤ (s.cell n).get K.FgCalState → (s.cell n).exe.staged = some m → m.allows ((s.cell n).get K.SampleRateApplied) = true →
    Completes (.swathBoundary n w) s (fun t =>
      (t.cell n).exe.active = some m ∧ (t.cell n).exe.staged = (s.cell n).exe.active ∧ (t.cell n).get K.SwapPending = 0 ∧
      (t.cell n).get K.ActiveImageId = m.id ∧ (t.cell n).swathLen = m.swathCc ∧ s.keepsOthers t n)) ∧
  (∀ (s : State) (n : CellNo) (w : When) (ms : List MeasIn), s.runs n → (s.cell n).exe.running = true →
    w.cc + 4 = (s.cell n).handOver → (s.cell n).source = 0 →
    Completes (.trackerUpdate n w ms) s (fun t =>
      (t.cell n).trk.nextLine =
        some (⟨(s.cell n).trk.line.s0 + 128 * (s.cell n).swathLen,
               (s.cell n).pos ((s.cell n).trk.line.s0 + 128 * (s.cell n).swathLen), 2 ^ 56⟩, 0) ∧ s.keepsBytes t n))

/-- R45: while the source of the active image is lost, SourceLost is set and TimelineLocked is cleared at once; when it returns,
SourceLost clears.  R38: AUX is lost when two consecutive swaths brought no edge, and present again with the next edge.  No other entry
changes, and no byte of memory. -/
def Obligations.SourceLossAndReturn : Prop :=
  (∀ (s : State) (n : CellNo) (w : When) (src : Nat), s.live n → src ≠ 4 → (s.cell n).source = src →
    (s.cell n).srcLost s.glob src = true →
    Completes (.sourceLost n w src) s (fun t =>
      (t.cell n).get K.SourceLost = 1 ∧ (t.cell n).get K.TimelineLocked = 0 ∧
      s.keepsEntries t n [K.SourceLost, K.TimelineLocked] ∧ s.keepsBytes t n ∧ s.keepsOthers t n)) ∧
  (∀ (s : State) (n : CellNo) (w : When), s.live n → (s.cell n).source = 4 → (s.cell n).trk.auxQuiet = 2 →
    (s.cell n).trk.auxSeen = false →
    Completes (.sourceLost n w 4) s (fun t =>
      (t.cell n).trk.auxLost = true ∧ (t.cell n).get K.SourceLost = 1 ∧ (t.cell n).get K.TimelineLocked = 0 ∧
      s.keepsEntries t n [K.SourceLost, K.TimelineLocked] ∧ s.keepsBytes t n ∧ s.keepsOthers t n)) ∧
  (∀ (s : State) (n : CellNo) (w : When) (src : Nat), s.live n → src ≠ 4 → (s.cell n).source = src →
    (s.cell n).srcLost s.glob src = false →
    Completes (.sourceReturn n w src) s (fun t =>
      (t.cell n).get K.SourceLost = 0 ∧ s.keepsEntries t n [K.SourceLost] ∧ s.keepsBytes t n ∧ s.keepsOthers t n)) ∧
  (∀ (s : State) (n : CellNo) (w : When), s.live n → (s.cell n).source = 4 → (s.cell n).trk.auxSeen = true →
    Completes (.sourceReturn n w 4) s (fun t =>
      (t.cell n).trk.auxLost = false ∧ (t.cell n).get K.SourceLost = 0 ∧ s.keepsEntries t n [K.SourceLost] ∧ s.keepsBytes t n ∧
      s.keepsOthers t n))

/-- R40, R41: a write of 1 to EpochStrobe with every selected cell idle gives each selected cell the value to load at its next boundary,
and the write clears EpochLoaded; with EpochStrobeSource 1 it waits for the edge of PTP_PPS instead; with a selected cell armed it fails
with an access error and no cell takes the epoch.  R459: an edge of PTP_PPS as input is time-stamped. -/
def Obligations.EpochStrobes : Prop :=
  (∀ (s : State) (ns : Nat) (p : Port) (x : Strobe4) (n : CellNo), s.writes p G.EpochStrobe →
    s.anySelectedArmed (s.glob.get G.EpochCellMask) = false → s.glob.get G.EpochStrobeSource = 0 →
    bit (s.glob.get G.EpochCellMask) n.val = true → s.live n →
    Completes (.epochStrobe ns p x) s (fun t =>
      t.heard p = 0 ∧ t.glob.get G.EpochLoaded = 0 ∧ s.keepsBytes t n ∧
      ∃ ep, (t.cell n).trk.epoch = some ep ∧ ep.value = s.glob.get G.EpochValue)) ∧
  (∀ (s : State) (ns : Nat) (p : Port) (x : Strobe4), s.writes p G.EpochStrobe →
    s.anySelectedArmed (s.glob.get G.EpochCellMask) = false → s.glob.get G.EpochStrobeSource = 1 →
    Completes (.epochStrobe ns p x) s (fun t =>
      t.heard p = 0 ∧ t.glob.get G.EpochPending = 1 ∧ t.cells = s.cells)) ∧
  (∀ (s : State) (ns : Nat) (p : Port) (x : Strobe4), s.writes p G.EpochStrobe →
    s.anySelectedArmed (s.glob.get G.EpochCellMask) = true →
    Completes (.epochStrobe ns p x) s (fun t => t.heard p = 0x08000022 ∧ t.cells = s.cells)) ∧
  (∀ (s : State) (ns ptpNs : Nat) (x : Strobe4), s.glob.mgmt.boot = .running → s.glob.get G.PpsDirection = 1 →
    Completes (.ppsInputEdge ns ptpNs x) s (fun t => t.glob.get G.PpsLastEdge = ptpNs % 2 ^ 64))

/-- R67: a staged image is loaded and verified, and its status names the first failing check of R68; StagedValid is set on success only.
R69: a swap request needs a valid staged image and fails without one.  R73: a commit waits for the next boundary. -/
def Obligations.ImagesAndCommits : Prop :=
  (∀ (s : State) (n : CellNo) (w : When) (p : Port) (data : List Byte), s.writable n p → data.length ≤ 32768 →
    (s.cell n).get K.SwapPending = 0 → (s.cell n).exe.bank ≠ .verifying →
    Completes (.imageStagedWrite n w p data) s (fun t =>
      t.heard p = 0 ∧ (t.cell n).exe.stagedBytes = data ∧ (t.cell n).exe.bank = .verifying ∧ (t.cell n).get K.StagedValid = 0 ∧
      (t.cell n).exe.active = (s.cell n).exe.active ∧ s.keepsEntries t n [K.StagedValid, K.StagedImageId] ∧ s.keepsBytes t n ∧
      s.keepsOthers t n)) ∧
  (∀ (s : State) (n : CellNo) (w : When), s.live n → (s.cell n).exe.bank = .verifying → s.glob.get G.ProfileState ≠ 2 →
    Completes (.imageVerifyDone n w) s (fun t =>
      (t.cell n).get K.ImageStatus =
        statusOf (verifyImage (s.cell n).exe.stagedBytes (bits (s.glob.get G.RevisionNumber) 16 16) n.val
          ((s.cell n).get K.SampleRateApplied)) ∧
      (verifyImage (s.cell n).exe.stagedBytes (bits (s.glob.get G.RevisionNumber) 16 16) n.val
          ((s.cell n).get K.SampleRateApplied) = none →
        (t.cell n).get K.StagedValid = 1 ∧ (t.cell n).exe.bank = .verified ∧
        (t.cell n).exe.staged = some (parseImage (s.cell n).exe.stagedBytes)) ∧
      (verifyImage (s.cell n).exe.stagedBytes (bits (s.glob.get G.RevisionNumber) 16 16) n.val
          ((s.cell n).get K.SampleRateApplied) ≠ none →
        (t.cell n).get K.StagedValid = (s.cell n).get K.StagedValid ∧ (t.cell n).exe.bank = .refused) ∧
      (t.cell n).exe.active = (s.cell n).exe.active ∧
      s.keepsEntries t n [K.ImageStatus, K.StagedValid, K.StagedImageId] ∧ s.keepsBytes t n ∧ s.keepsOthers t n)) ∧
  (∀ (s : State) (n : CellNo) (w : When) (p : Port), s.writable n p → (s.cell n).get K.StagedValid = 1 →
    s.onTime n w →
    Completes (.swapRequest n w p) s (fun t =>
      t.heard p = 0 ∧ (t.cell n).get K.SwapPending = 1 ∧ s.keepsEntries t n [K.SwapPending] ∧ s.keepsBytes t n ∧ s.keepsOthers t n)) ∧
  (∀ (s : State) (n : CellNo) (w : When) (p : Port), s.writable n p → (s.cell n).get K.StagedValid = 0 →
    Completes (.swapRequest n w p) s (fun t =>
      t.heard p = 0x08000022 ∧ s.keepsEntries t n [] ∧ s.keepsBytes t n ∧ s.keepsOthers t n)) ∧
  (∀ (s : State) (n : CellNo) (w : When) (p : Port), s.writable n p → s.onTime n w →
    Completes (.commit n w p) s (fun t =>
      t.heard p = 0 ∧ (t.cell n).get K.CommitPending = 1 ∧ s.keepsEntries t n [K.CommitPending] ∧ s.keepsBytes t n ∧
      s.keepsOthers t n))

/-- R61, R76: the instance of an entry that lies in the sample window of this cc fires: its line pulses in this cc, and the LastEvent
entries record it.  R60: for PULSE that is all, and no byte of memory changes. -/
def Obligations.DueInstanceFires : Prop :=
  ∀ (s : State) (n : CellNo) (w : When) (idx : Nat) (e : EventEntry) (p : Nat), s.instanceDue n w idx 0 e p →
    Completes (.pulse n w idx) s (fun t =>
      (e.line ≤ 15 → t.pulsed n (20 + e.line) w.cc) ∧ (t.cell n).get K.LastEventIndex = idx ∧
      (t.cell n).get K.LastEventPosition = p ∧ (t.cell n).get K.LastEventSample = s.markOf n w p ∧
      (t.cell n).get K.LastEventFraction = (s.cell n).trk.line.fraction p (s.markOf n w p) ∧
      s.keepsEntries t n (eventEntries e) ∧ s.keepsBytes t n ∧ s.keepsOthers t n)

/-- R60: what an instance at position `p` does when it fires: the window its Param names opens at `p`, or closes; a stop ends the
acquisition at the first sample of its cc; a segment starts at its first sample at or after `p` while PREFILL or ARMED runs, which states
those are being the model's choice (log entry 60), an eye origin and the accumulator's gate take `p` and that sample; a forced trigger
waits for its decision at the first sample of its cc.  R225: a window that closes ends the acquisition armed in it with ArmWindowStop.
Beside that only the entries of R76 change, and no byte of memory. -/
def Obligations.EventActionsComplete : Prop :=
  (∀ (s : State) (n : CellNo) (w : When) (idx : Nat) (e : EventEntry) (p : Nat), s.instanceDue n w idx 3 e p →
    Completes (.windowOpen n w idx) s (fun t =>
      (t.cell n).windowOpen e.param = true ∧ ((s.cell n).windowOpen e.param = false → ⟨e.param, p, none⟩ ∈ (t.cell n).exe.windows) ∧
      s.keepsEntries t n (eventEntries e) ∧ s.keepsBytes t n ∧ s.keepsOthers t n)) ∧
  (∀ (s : State) (n : CellNo) (w : When) (idx : Nat) (e : EventEntry) (p : Nat), s.instanceDue n w idx 4 e p →
    (s.cell n).trg.acqs = [] →
    Completes (.windowClose n w idx) s (fun t =>
      (t.cell n).windowOpen e.param = false ∧ s.keepsEntries t n (eventEntries e) ∧ s.keepsBytes t n ∧ s.keepsOthers t n)) ∧
  (∀ (s : State) (n : CellNo) (w : When) (idx : Nat) (e : EventEntry) (p : Nat) (q : Acq), s.instanceDue n w idx 4 e p →
    s.filling n w.cc q → q.val K.ArmWindow = e.param → q.val K.ArmWindowStop ≠ 0 →
    Completes (.windowClose n w idx) s (fun t =>
      (t.cell n).windowOpen e.param = false ∧ (t.cell n).trg.acqs = [{ q with stop := some (s.firstOf n w p, 7) }] ∧
      s.keepsEntries t n (eventEntries e) ∧ s.keepsBytes t n ∧ s.keepsOthers t n)) ∧
  (∀ (s : State) (n : CellNo) (w : When) (idx : Nat) (e : EventEntry) (p : Nat) (q : Acq), s.instanceDue n w idx 2 e p →
    s.filling n w.cc q →
    Completes (.stop n w idx) s (fun t =>
      (t.cell n).trg.acqs = [{ q with stop := some (128 * w.cc, 3) }] ∧ s.keepsEntries t n (eventEntries e) ∧ s.keepsBytes t n ∧
      s.keepsOthers t n)) ∧
  (∀ (s : State) (n : CellNo) (w : When) (idx : Nat) (e : EventEntry) (p : Nat), s.instanceDue n w idx 2 e p →
    Completes (.stop n w idx) s (fun t =>
      (∀ q ∈ (t.cell n).trg.acqs, ∃ z cause, q.stop = some (z, cause) ∧ z ≤ 128 * w.cc) ∧ s.keepsOthers t n)) ∧
  (∀ (s : State) (n : CellNo) (w : When) (idx : Nat) (e : EventEntry) (p : Nat) (q : Acq), s.instanceDue n w idx 5 e p →
    s.filling n w.cc q →
    Completes (.segmentStart n w idx) s (fun t =>
      (t.cell n).trg.segMarks = [s.firstOf n w p] ∧
      (t.cell n).trg.segStart = some (s.markOf n w p, (s.cell n).trk.line.fraction p (s.markOf n w p)) ∧
      s.keepsEntries t n (eventEntries e) ∧ s.keepsBytes t n ∧ s.keepsOthers t n)) ∧
  (∀ (s : State) (n : CellNo) (w : When) (idx : Nat) (e : EventEntry) (p : Nat), s.instanceDue n w idx 7 e p →
    Completes (.eyeOrigin n w idx) s (fun t =>
      (t.cell n).get K.EyeOrigin = p ∧ (t.cell n).acc.origins.head? = some (s.firstOf n w p, p) ∧
      s.keepsEntries t n (K.EyeOrigin :: eventEntries e) ∧ s.keepsBytes t n ∧ s.keepsOthers t n)) ∧
  (∀ (s : State) (n : CellNo) (w : When) (idx : Nat) (e : EventEntry) (p : Nat) (q : Acq), s.instanceDue n w idx 8 e p →
    s.filling n w.cc q → (s.cell n).clk.onFcc = true →
    Completes (.forceTrigger n w idx) s (fun t =>
      (t.cell n).trg.forces = [(128 * w.cc, false)] ∧ s.keepsEntries t n (eventEntries e) ∧ s.keepsBytes t n ∧ s.keepsOthers t n)) ∧
  (∀ (s : State) (n : CellNo) (w : When) (idx : Nat) (e : EventEntry) (p : Nat), s.instanceDue n w idx 9 e p →
    Completes (.accGateOn n w idx) s (fun t =>
      (t.cell n).acc.gate.any (fun g => g.stop.isNone) = true ∧
      ((s.cell n).acc.gate.all (fun g => g.stop.isSome) = true → ⟨s.firstOf n w p, none⟩ ∈ (t.cell n).acc.gate) ∧
      s.keepsEntries t n (eventEntries e) ∧ s.keepsBytes t n ∧
      s.keepsOthers t n)) ∧
  (∀ (s : State) (n : CellNo) (w : When) (idx : Nat) (e : EventEntry) (p : Nat), s.instanceDue n w idx 10 e p →
    Completes (.accGateOff n w idx) s (fun t =>
      (t.cell n).acc.gate.all (fun g => g.stop.isSome) = true ∧ s.keepsEntries t n (eventEntries e) ∧ s.keepsBytes t n ∧
      s.keepsOthers t n))


/-! Event fabric, inputs, sample clock -/

/-- R34: a write of 1 to SwEvent pulses its line in the next cc, and a clear restarts the counters of the lines in its mask, where a line
that pulses in the cc of the clear reads 1.  R33: an edge of EVI that EviEdge selects, and a rising edge of DREQ, pulse their lines three or
four cycles later; two cc after a pulse on its selected line an EVO output goes active for EvoPulseWidth cycles, and returns; that selection
and width count in the cc in which it goes active is the model's choice (log entry 122).  R83: an over-range sample and the 4 samples that
follow it are flagged.  R84: an overload flags every sample from its first on, and 32 samples more once both legs are back, by a hysteresis
that the model takes as one-sided (log entry 134).  R100: the clear restarts the three counters.  R97, R101: an edge of the auxiliary
comparator changes its level and counts; that either direction is an edge of the source AUX is the model's choice (log entry 124). -/
def Obligations.InputsAndFabricComplete : Prop :=
  (∀ (s : State) (n : CellNo) (w : When) (p : Port) (j : Fin 8), s.writable n p →
    Completes (.swEvent n w p j) s (fun t =>
      t.heard p = 0 ∧ t.pulsed n (44 + j.val) (w.cc + 1) ∧ s.keepsEntries t n [K.EventCount + (44 + j.val)] ∧ s.keepsBytes t n ∧
      s.keepsOthers t n)) ∧
  (∀ (s : State) (n : CellNo) (w : When) (p : Port) (mask : Nat) (l : Fin 64), s.writable n p → bit mask l.val = true →
    Completes (.eventCountClear n w p mask) s (fun t =>
      t.heard p = 0 ∧
      ((s.cell n).fab.pulses.Nodup → (∀ x ∈ (s.cell n).fab.pulses, x.2 = l.val → x.1 ≤ w.cc) →
        (t.cell n).eventCount l.val = if (w.cc, l.val) ∈ (s.cell n).fab.pulses then 1 else 0) ∧
      (∀ k, (∀ i : Fin 64, bit mask i.val = true → k ≠ K.EventCount + i.val) → (t.cell n).get k = (s.cell n).get k) ∧
      s.keepsBytes t n ∧ s.keepsOthers t n)) ∧
  (∀ (s : State) (n : CellNo) (w : When) (pin : Fin 2) (rising late : Bool), s.live n →
    edgeQualifies ((s.cell n).get (K.EviEdge + pin.val)) rising = true →
    Completes (.eviEdge n w pin rising late) s (fun t =>
      t.pulsed n (40 + pin.val) (w.cc + if late then 4 else 3) ∧ s.keepsEntries t n [K.EventCount + (40 + pin.val)] ∧
      s.keepsBytes t n ∧ s.keepsOthers t n)) ∧
  (∀ (s : State) (n : CellNo) (w : When) (pin : Fin 2) (late : Bool), s.live n →
    Completes (.dreqEdge n w pin late) s (fun t =>
      t.pulsed n (42 + pin.val) (w.cc + if late then 4 else 3) ∧ s.keepsEntries t n [K.EventCount + (42 + pin.val)] ∧
      s.keepsBytes t n ∧ s.keepsOthers t n)) ∧
  (∀ (s : State) (n : CellNo) (w : When) (pin : Fin 2), s.live n →
    (s.cell n).fab.carriedAt + 2 ≤ w.cc → s.pulsed n ((s.cell n).get (K.EvoSelect + pin.val)) (w.cc - 2) →
    Completes (.evoPulseStart n w pin) s (fun t =>
      (t.cell n).evoEnd pin = some (w.cc + (s.cell n).get (K.EvoPulseWidth + pin.val)) ∧ s.keepsEntries t n [] ∧ s.keepsBytes t n ∧
      s.keepsOthers t n)) ∧
  (∀ (s : State) (n : CellNo) (w : When) (pin : Fin 2) (e : Nat), s.live n → (s.cell n).evoEnd pin = some e → e ≤ w.cc →
    Completes (.evoPulseEnd n w pin) s (fun t =>
      (t.cell n).evoEnd pin = none ∧ s.keepsEntries t n [] ∧ s.keepsBytes t n ∧ s.keepsOthers t n)) ∧
  (∀ (s : State) (n : CellNo) (w : When) (k : Nat), s.live n → (s.cell n).get K.FgCalState ≠ 1 →
    Completes (.overRangeSample n w k) s (fun t =>
      (∀ j, k ≤ j → j ≤ k + 4 → (t.cell n).overAt j = true) ∧ s.keepsEntries t n [K.OverRangeCount, K.OverRangeLastSample] ∧
      s.keepsBytes t n ∧ s.keepsOthers t n)) ∧
  (∀ (s : State) (n : CellNo) (w : When) (k : Nat) (v q : Int), s.live n → (s.cell n).get K.FgCalState ≠ 1 →
    (s.cell n).fe.legsOut = false → (v < -600000 ∨ 1500000 < v ∨ q < -600000 ∨ 1500000 < q) →
    Completes (.legOverloadEnter n w ⟨k, v, q⟩) s (fun t =>
      (t.cell n).fe.legsOut = true ∧ (t.cell n).get K.LegOverloadActive = 1 ∧
      (t.cell n).get K.LegOverloadCount = wrapAdd 32 ((s.cell n).get K.LegOverloadCount) 1 ∧
      ((s.cell n).clk.onFcc = true → (t.cell n).fe.overloadFrom = some k ∧ ∀ j, k ≤ j → (t.cell n).overAt j = true) ∧
      s.keepsEntries t n [K.LegOverloadActive, K.LegOverloadCount, K.OverRangeCount, K.OverRangeLastSample] ∧ s.keepsBytes t n ∧
      s.keepsOthers t n)) ∧
  (∀ (s : State) (n : CellNo) (w : When) (k f : Nat) (v q : Int), s.live n → (s.cell n).get K.FgCalState ≠ 1 →
    (s.cell n).fe.legsOut = true → (s.cell n).fe.overloadFrom = some f → -550000 ≤ v → v ≤ 1450000 → -550000 ≤ q → q ≤ 1450000 →
    Completes (.legOverloadExit n w ⟨k, v, q⟩) s (fun t =>
      (t.cell n).fe.legsOut = false ∧ (t.cell n).get K.LegOverloadActive = 0 ∧ (t.cell n).fe.overloadFrom = none ∧
      (∀ j, f ≤ j → j < k + 32 → (t.cell n).overAt j = true) ∧ (∀ j, f ≤ j → j < k → (t.cell n).inOverload j = true) ∧
      s.keepsEntries t n [K.LegOverloadActive, K.OverRangeCount, K.OverRangeLastSample] ∧ s.keepsBytes t n ∧ s.keepsOthers t n)) ∧
  (∀ (s : State) (n : CellNo) (w : When) (p : Port), s.writable n p →
    Completes (.overRangeClear n w p) s (fun t =>
      t.heard p = 0 ∧ (t.cell n).get K.OverRangeCount = 0 ∧ (t.cell n).get K.OverRangeLastSample = 0 ∧
      (t.cell n).get K.LegOverloadCount = (if (s.cell n).fe.legEntry.1 = w.cc then (s.cell n).fe.legEntry.2 else 0) ∧
      (∀ j, (t.cell n).overAt j = (s.cell n).overAt j) ∧ (t.cell n).fe.overloadFrom = (s.cell n).fe.overloadFrom ∧
      s.keepsEntries t n [K.OverRangeCount, K.OverRangeLastSample, K.LegOverloadCount] ∧ s.keepsBytes t n ∧ s.keepsOthers t n)) ∧
  (∀ (s : State) (n : CellNo) (w : When) (vin : Int), s.live n → (s.cell n).get K.AuxLevel = 0 →
    auxTrip (s.cell n).act true ≤ vin →
    Completes (.auxEdge n w true vin) s (fun t =>
      (t.cell n).get K.AuxLevel = 1 ∧ (t.cell n).get K.AuxRisingCount = wrapAdd 64 ((s.cell n).get K.AuxRisingCount) 1 ∧
      (t.cell n).trk.auxSeen = true ∧
      s.keepsEntries t n [K.AuxLevel, K.AuxRisingCount] ∧ s.keepsBytes t n ∧ s.keepsOthers t n)) ∧
  (∀ (s : State) (n : CellNo) (w : When) (vin : Int), s.live n → (s.cell n).get K.AuxLevel = 1 →
    vin ≤ auxTrip (s.cell n).act false →
    Completes (.auxEdge n w false vin) s (fun t =>
      (t.cell n).get K.AuxLevel = 0 ∧ (t.cell n).get K.AuxFallingCount = wrapAdd 64 ((s.cell n).get K.AuxFallingCount) 1 ∧
      (t.cell n).trk.auxSeen = true ∧
      s.keepsEntries t n [K.AuxLevel, K.AuxFallingCount] ∧ s.keepsBytes t n ∧ s.keepsOthers t n))

/-- R107, R108, R111: a long enough run of reference cycles within the lock window declares lock, and with activity declared too a cell in
SEARCH enters HOLDOFF; a long enough run outside the unlock window declares unlock, which in HOLDOFF goes back to SEARCH and in RUN begins
the switch to the bypass clock. -/
def Obligations.LockDetectorCompletes : Prop :=
  (∀ (s : State) (n : CellNo) (w : When) (err : Int) (cycles first : Nat), s.live n → (s.cell n).get K.SynthLocked = 0 →
    err.natAbs ≤ 4 * (s.cell n).get K.LockWindow → (s.cell n).get K.LockCount ≤ (s.cell n).clk.inRun + cycles →
    Completes (.synthLock n w [⟨err, cycles, first⟩]) s (fun t =>
      (t.cell n).get K.SynthLocked = 1 ∧ (t.cell n).get K.PhaseError = raw 16 err ∧
      ((s.cell n).get K.RefActive = 1 → (s.cell n).get K.ClockState = 2 → (t.cell n).get K.ClockState = 3) ∧
      ((s.cell n).get K.ClockState ≠ 2 → (t.cell n).get K.ClockState = (s.cell n).get K.ClockState) ∧
      s.keepsEntries t n [K.PhaseError, K.SynthLocked, K.ClockState] ∧ s.keepsBytes t n ∧ s.keepsOthers t n)) ∧
  (∀ (s : State) (n : CellNo) (w : When) (err : Int) (cycles first : Nat), s.live n → (s.cell n).get K.SynthLocked = 1 →
    4 * (s.cell n).get K.LockWindow < err.natAbs → 1 ≤ cycles → (s.cell n).get K.UnlockCount ≤ (s.cell n).clk.outRun + cycles →
    (s.cell n).get K.ClockState = 0 →
    Completes (.synthUnlock n w [⟨err, cycles, first⟩]) s (fun t =>
      (t.cell n).get K.ClockState = 1 ∧ (t.cell n).get K.LastFaultCause = 1 ∧ (t.cell n).get K.SynthLocked = 0 ∧
      (t.cell n).get K.ClockFaultFirstSample = (if (s.cell n).clk.outRun = 0 then first else (s.cell n).clk.outFirst) ∧
      (t.cell n).exe.running = false ∧ s.keepsOthers t n)) ∧
  (∀ (s : State) (n : CellNo) (w : When) (err : Int) (cycles first : Nat), s.live n → (s.cell n).get K.SynthLocked = 1 →
    4 * (s.cell n).get K.LockWindow < err.natAbs → 1 ≤ cycles → (s.cell n).get K.UnlockCount ≤ (s.cell n).clk.outRun + cycles →
    (s.cell n).get K.ClockState = 3 →
    Completes (.synthUnlock n w [⟨err, cycles, first⟩]) s (fun t =>
      (t.cell n).get K.SynthLocked = 0 ∧ (t.cell n).get K.ClockState = 2 ∧
      (t.cell n).get K.HoldoffRestarts = wrapAdd 32 ((s.cell n).get K.HoldoffRestarts) 1 ∧
      s.keepsEntries t n [K.PhaseError, K.OutOfWindowCycles, K.SynthLocked, K.ClockState, K.HoldoffRestarts] ∧ s.keepsBytes t n ∧
      s.keepsOthers t n)) ∧
  (∀ (s : State) (n : CellNo) (w : When) (rs : List RefRun), s.live n → (s.cell n).get K.SynthLocked = 0 →
    (s.cell n).get K.LockCount ≤ ((s.cellAt n w).refRuns rs).clk.inRun → (s.cell n).get K.RefActive = 0 →
    Completes (.synthLock n w rs) s (fun t =>
      (t.cell n).get K.SynthLocked = 1 ∧ s.keepsEntries t n [K.PhaseError, K.OutOfWindowCycles, K.SynthLocked] ∧ s.keepsBytes t n ∧
      s.keepsOthers t n)) ∧
  (∀ (s : State) (n : CellNo) (w : When) (rs : List RefRun), s.live n → (s.cell n).get K.SynthLocked = 0 →
    (s.cell n).get K.LockCount ≤ ((s.cellAt n w).refRuns rs).clk.inRun → (s.cell n).get K.RefActive = 1 →
    (s.cell n).get K.ClockState = 2 →
    Completes (.synthLock n w rs) s (fun t =>
      (t.cell n).get K.SynthLocked = 1 ∧ (t.cell n).get K.ClockState = 3 ∧
      (t.cell n).clk.holdoffEnd = w.cc + (if (s.cell n).clk.planned then 0 else 500 * (s.cell n).get K.RelockHoldoff) ∧
      s.keepsEntries t n [K.PhaseError, K.OutOfWindowCycles, K.SynthLocked, K.ClockState] ∧ s.keepsBytes t n ∧ s.keepsOthers t n)) ∧
  (∀ (s : State) (n : CellNo) (w : When) (rs : List RefRun), s.live n → (s.cell n).get K.SynthLocked = 1 →
    (s.cell n).get K.UnlockCount ≤ ((s.cellAt n w).refRuns rs).clk.outRun → (s.cell n).get K.ClockState = 3 →
    Completes (.synthUnlock n w rs) s (fun t =>
      (t.cell n).get K.SynthLocked = 0 ∧ (t.cell n).get K.ClockState = 2 ∧
      (t.cell n).get K.HoldoffRestarts = wrapAdd 32 ((s.cell n).get K.HoldoffRestarts) 1 ∧
      s.keepsEntries t n [K.PhaseError, K.OutOfWindowCycles, K.SynthLocked, K.ClockState, K.HoldoffRestarts] ∧ s.keepsBytes t n ∧
      s.keepsOthers t n)) ∧
  (∀ (s : State) (n : CellNo) (w : When) (rs : List RefRun), s.live n → (s.cell n).get K.SynthLocked = 1 →
    (s.cell n).get K.UnlockCount ≤ ((s.cellAt n w).refRuns rs).clk.outRun → (s.cell n).get K.ClockState = 0 →
    Completes (.synthUnlock n w rs) s (fun t =>
      (t.cell n).get K.ClockState = 1 ∧ (t.cell n).get K.LastFaultCause = 1 ∧ (t.cell n).exe.running = false ∧ s.keepsOthers t n))

/-- R109, R111: activity loss counts as unlock at once: in RETURN on the bypass clock the cell goes back to SEARCH, in RUN the switch
begins with the cause of the loss; a window within tolerance declares activity. -/
def Obligations.ReferenceMonitorCompletes : Prop :=
  (∀ (s : State) (n : CellNo) (w : When) (hz first : Nat), s.live n → (s.cell n).get K.ClockState = 4 → (s.cell n).clk.onFcc = false →
    Completes (.refActivityLoss n w true hz first) s (fun t =>
      (t.cell n).get K.RefActive = 0 ∧ (t.cell n).get K.SynthLocked = 0 ∧ (t.cell n).get K.ClockState = 2 ∧
      (t.cell n).get K.RelockAborted = wrapAdd 32 ((s.cell n).get K.RelockAborted) 1 ∧
      s.keepsEntries t n [K.RefActive, K.SynthLocked, K.ClockState, K.RelockAborted] ∧ s.keepsBytes t n ∧ s.keepsOthers t n)) ∧
  (∀ (s : State) (n : CellNo) (w : When) (hz first : Nat) (noEdges : Bool), s.live n → (s.cell n).get K.ClockState = 0 →
    (noEdges = true ∨ (s.cell n).inTolerance hz = false) →
    Completes (.refActivityLoss n w noEdges hz first) s (fun t =>
      (t.cell n).get K.ClockState = 1 ∧ (t.cell n).get K.LastFaultCause = (if noEdges then 2 else 3) ∧ (t.cell n).exe.running = false ∧
      s.keepsOthers t n)) ∧
  (∀ (s : State) (n : CellNo) (w : When) (hz : Nat), s.live n → (s.cell n).inTolerance hz = true → (s.cell n).get K.SynthLocked = 0 →
    Completes (.refActivityDeclared n w hz) s (fun t =>
      (t.cell n).get K.RefActive = 1 ∧ (t.cell n).get K.RefFrequencyMeasured = hz % 2 ^ 32 ∧
      s.keepsEntries t n [K.RefActive, K.RefFrequencyMeasured] ∧ s.keepsBytes t n ∧ s.keepsOthers t n)) ∧
  (∀ (s : State) (n : CellNo) (w : When) (hz : Nat), s.live n → (s.cell n).inTolerance hz = true → (s.cell n).get K.SynthLocked = 1 →
    (s.cell n).get K.ClockState = 2 →
    Completes (.refActivityDeclared n w hz) s (fun t =>
      (t.cell n).get K.RefActive = 1 ∧ (t.cell n).get K.ClockState = 3 ∧
      s.keepsEntries t n [K.RefActive, K.RefFrequencyMeasured, K.ClockState] ∧ s.keepsBytes t n ∧ s.keepsOthers t n))

/-- R112, R113: 40 cc after cc 0 of the switch the cell runs on the bypass clock, from bypass cycle 0.  R116: when the holdoff has run out
RETURN begins, with the memory PLL locked the domain goes back to fcc at once, else when it locks; the first cc after the memory reports
ready begins the fresh swath. -/
def Obligations.DomainSwitchesComplete : Prop :=
  (∀ (s : State) (n : CellNo) (w : When), s.live n → (s.cell n).get K.ClockState = 1 → w.cc = (s.cell n).clk.faultCc + 40 →
    Completes (.bypassSwitch n w) s (fun t =>
      (t.cell n).clk.onFcc = false ∧ (t.cell n).now = 0 ∧ (t.cell n).get K.BypassCycles = 0 ∧
      (t.cell n).get K.LastSynthSample = 128 * w.cc + 127 ∧
      ((t.cell n).get K.ClockState = 2 ∨ (t.cell n).get K.ClockState = 3) ∧ s.keepsOthers t n)) ∧
  (∀ (s : State) (n : CellNo) (w : When) (lag : Fin 5), s.live n → (s.cell n).get K.ClockState = 3 → (s.cell n).clk.holdoffEnd ≤ w.cc →
    (s.cell n).clk.pllLocked = false →
    Completes (.holdoffExpiry n w lag) s (fun t =>
      (t.cell n).get K.ClockState = 4 ∧ s.keepsEntries t n [K.ClockState] ∧ s.keepsBytes t n ∧ s.keepsOthers t n)) ∧
  (∀ (s : State) (n : CellNo) (w : When) (lag : Fin 5), s.live n → (s.cell n).get K.ClockState = 3 → (s.cell n).clk.holdoffEnd ≤ w.cc →
    (s.cell n).clk.pllLocked = true →
    Completes (.holdoffExpiry n w lag) s (fun t =>
      (t.cell n).get K.ClockState = 4 ∧ (t.cell n).clk.onFcc = true ∧ (t.cell n).get K.BypassCycles = w.cc + lag.val ∧
      s.keepsOthers t n)) ∧
  (∀ (s : State) (n : CellNo) (w : When) (lag : Fin 5), s.live n → (s.cell n).get K.ClockState ≠ 4 →
    Completes (.memPllLock n w lag) s (fun t =>
      (t.cell n).clk.pllLocked = true ∧ s.keepsEntries t n [] ∧ s.keepsBytes t n ∧ s.keepsOthers t n)) ∧
  (∀ (s : State) (n : CellNo) (w : When) (lag : Fin 5), s.live n → (s.cell n).get K.ClockState = 4 → (s.cell n).clk.onFcc = false →
    Completes (.memPllLock n w lag) s (fun t =>
      (t.cell n).clk.pllLocked = true ∧ (t.cell n).clk.onFcc = true ∧ (t.cell n).get K.BypassCycles = w.cc + lag.val ∧
      s.keepsOthers t n)) ∧
  (∀ (s : State) (n : CellNo) (w : When), s.live n → (s.cell n).get K.ClockState = 4 → (s.cell n).clk.onFcc = true →
    (s.cell n).get K.MemState ≠ 1 → (s.cell n).get K.MemState ≠ 4 → (s.cell n).get K.MemState ≠ 6 → wiping s.glob n = false →
    Completes (.freshSwathStart n w) s (fun t =>
      (t.cell n).get K.ClockState = 0 ∧ (t.cell n).exe.running = true ∧ (t.cell n).trk.startCc = w.cc ∧ (t.cell n).clk.everRun = true ∧
      t.pulsed n 36 w.cc ∧
      s.keepsOthers t n))

/-! Interleave correction, filter -/

/-- R127 to R129, R235: foreground calibration ends at its boundary, in state 2, or in state 3 with the status of the first failure, and
the placement calibration starts; that one ends with its trims in force and its histograms, which the model takes with it by its own choice
(log entry 139).  R140: a valid coefficient set is staged, an invalid one fails with a value error; that the staged copy keeps the stored
status bytes is the model's choice (log entry 34). -/
def Obligations.CalibrationCompletes : Prop :=
  (∀ (s : State) (n : CellNo) (w : When) (coarse : List Int) (sets : List FgSet) (tone : Option ToneFail) (durUs : Nat), s.live n →
    (s.cell n).get K.FgCalState = 1 → w.cc + 1 = (s.cell n).trk.startCc →
    Completes (.fgCalDone n w coarse sets tone durUs) s (fun t =>
      (t.cell n).get K.FgCalState = (if fgFirstFail tone (fit 8 coarse) sets = none then 2 else 3) ∧
      (t.cell n).get K.FgCalStatus = (fgFirstFail tone (fit 8 coarse) sets).getD 0 ∧
      (t.cell n).get K.FgCalCount = wrapAdd 32 ((s.cell n).get K.FgCalCount) 1 ∧ (t.cell n).get K.SkewState = 1 ∧
      (t.cell n).plc.startup = true ∧ s.keepsBytes t n ∧ s.keepsOthers t n)) ∧
  (∀ (s : State) (n : CellNo) (w : When) (x : SkewTrims) (h0 h1 : List Nat), s.live n → (s.cell n).plc.startup = true →
    Completes (.placementCalDone n w ⟨x, h0, h1⟩) s (fun t =>
      (t.cell n).get K.SkewState = 2 ∧ (t.cell n).plc.startup = false ∧ (t.cell n).get K.AuxSkewTrim = raw 32 x.aux ∧
      (t.cell n).get K.EdgeSkewTrim = raw 32 x.edge ∧ (t.cell n).plc.tables = #v[h0, h1] ∧
      (t.cell n).get K.TdcCalTemp = raw 16 (chipTemp s.glob n) ∧
      s.keepsEntries t n [K.AuxSkewTrim, K.EdgeSkewTrim, K.LogicSkewTrim, K.SkewCalTemp, K.SkewState, K.TdcCalTemp] ∧
      s.keepsBytes t n ∧ s.keepsOthers t n)) ∧
  (∀ (s : State) (n : CellNo) (w : When) (p : Port) (r : Fin 8) (data : List Byte), s.writable n p → data.length = 800 →
    (decodeSet data).valid = true →
    Completes (.coefSetWrite n w p r data) s (fun t =>
      t.heard p = 0 ∧ r.val ∈ (t.cell n).cor.written ∧
      (t.cell n).dom (K.CoefSet + r.val) [] = (encodeSet ((s.cell n).setOf r.val)).take 16 ++ data.drop 16 ∧
      s.keepsEntries t n [K.LateStage, K.LateStageCount, K.CommitPending] ∧
      s.keepsBytes t n ∧ s.keepsOthers t n)) ∧
  (∀ (s : State) (n : CellNo) (w : When) (p : Port) (r : Fin 8) (data : List Byte), s.writable n p → data.length = 800 →
    (decodeSet data).valid = false →
    Completes (.coefSetWrite n w p r data) s (fun t =>
      t.heard p = 0x06090030 ∧ (t.cell n).doms = (s.cell n).doms ∧ s.keepsEntries t n [] ∧ s.keepsBytes t n ∧ s.keepsOthers t n))

/-- R131 to R133: a block that a cause of R132 meets is rejected and counted with that cause; another is accepted, and the count that
leads to convergence goes on.  R135: a request for recalibration is refused unless BgState is 2.  R137: a granted recalibration leaves its
shadow set and releases the hayward. -/
def Obligations.EstimatorCompletes : Prop :=
  (∀ (s : State) (n : CellNo) (w : When) (b : BgBlock), s.live n → s.blockEnds n w → (s.cell n).blockReject b ≠ 0 →
    Completes (.bgBlockEnd n w b) s (fun t =>
      (t.cell n).get K.BgLastRejectCause = (s.cell n).blockReject b ∧
      (t.cell n).get K.BgBlocksRejected = wrapAdd 32 ((s.cell n).get K.BgBlocksRejected) 1 ∧ (t.cell n).cor.accepted = 0 ∧
      (t.cell n).cor.est = (s.cell n).cor.est ∧ s.keepsEntries t n [K.BgLastRejectCause, K.BgBlocksRejected] ∧ s.keepsBytes t n ∧
      s.keepsOthers t n)) ∧
  (∀ (s : State) (n : CellNo) (w : When) (b : BgBlock), s.live n → s.blockEnds n w → (s.cell n).blockReject b = 0 →
    (s.cell n).get K.RecalEnable = 0 →
    Completes (.bgBlockEnd n w b) s (fun t =>
      (t.cell n).get K.BgBlocksAccepted = wrapAdd 32 ((s.cell n).get K.BgBlocksAccepted) 1 ∧
      (t.cell n).cor.accepted = min 64 ((s.cell n).cor.accepted + 1) ∧ (t.cell n).cor.lastRejected = false ∧
      (∀ e, (s.cell n).cor.est[(s.cell n).get K.RangeApplied]? = some e →
        (t.cell n).cor.est[(s.cell n).get K.RangeApplied]? = some (e.accept b ((s.cell n).blockEst b))) ∧
      s.keepsEntries t n [K.BgBlocksAccepted, K.BgTimingSkipped, K.SpurEstimateOffset, K.SpurEstimateGainTiming,
        K.SpurEstimateBandwidth, K.SpurEstimateWorst] ∧ s.keepsBytes t n ∧ s.keepsOthers t n)) ∧
  (∀ (s : State) (n : CellNo) (w : When) (p : Port), s.writable n p → (s.cell n).bgState = 2 → (s.cell n).get K.RecalPending = 0 →
    Completes (.recalRequest n w p) s (fun t =>
      t.heard p = 0 ∧ (t.cell n).get K.RecalPending = 1 ∧ (t.cell n).get K.LastRecalCause = 3 ∧
      s.keepsEntries t n [K.RecalPending, K.LastRecalCause] ∧ s.keepsBytes t n ∧ s.keepsOthers t n)) ∧
  (∀ (s : State) (n : CellNo) (w : When) (p : Port), s.writable n p → (s.cell n).bgState ≠ 2 →
    Completes (.recalRequest n w p) s (fun t =>
      t.heard p = 0x08000022 ∧ s.keepsEntries t n [] ∧ s.keepsBytes t n ∧ s.keepsOthers t n)) ∧
  (∀ (s : State) (n : CellNo) (w : When), s.live n → (s.cell n).get K.HaywardHolder = 1 →
    Completes (.recalDone n w) s (fun t =>
      (t.cell n).get K.HaywardHolder = 255 ∧ (t.cell n).get K.RecalPending = 0 ∧ 
      (∃ x, (t.cell n).cor.shadow = some x ∧ x.range = (s.cell n).get K.RangeApplied ∧ x.cause = (s.cell n).cor.cause) ∧
      (t.cell n).cor.sets = (s.cell n).cor.sets ∧ s.keepsEntries t n [K.HaywardHolder, K.RecalPending, K.CoarseRetrimCount] ∧
      s.keepsBytes t n ∧ s.keepsOthers t n))

/-- R157: a bank that may be written takes 512 valid coefficients; the active bank of an enabled lane refuses them and counts.  R158: a
swap request waits for its boundary.  R160: a fade ends once the reference sample of its last output has come, and a latched swap then
starts.  R167: the clear restarts the counters of the filter. -/
def Obligations.FilterCommandsComplete : Prop :=
  (∀ (s : State) (n : CellNo) (w : When) (p : Port) (k : Fin 4) (b : Fin 2) (data : List Byte), s.writable n p →
    ((s.cell n).lane k).plan = none → data.length = 2048 → coefsOk data = true →
    Completes (.stage2BankWrite n w p k b data) s (fun t =>
      t.heard p = 0 ∧ (t.cell n).dom (bankKey k b) [] = data ∧ s.keepsEntries t n [] ∧ s.keepsBytes t n ∧ s.keepsOthers t n)) ∧
  (∀ (s : State) (n : CellNo) (w : When) (p : Port) (k : Fin 4) (b : Fin 2) (data : List Byte), s.writable n p →
    ((s.cell n).lane k).plan ≠ none → (s.cell n).get (laneKey K.LaneActiveBank k) = b.val → data.length = 2048 →
    Completes (.stage2BankWrite n w p k b data) s (fun t =>
      t.heard p = 0x08000022 ∧
      (t.cell n).get (laneKey K.BankWriteRefused k) = wrapAdd 32 ((s.cell n).get (laneKey K.BankWriteRefused k)) 1 ∧
      (t.cell n).doms = (s.cell n).doms ∧ s.keepsEntries t n [laneKey K.BankWriteRefused k] ∧ s.keepsBytes t n ∧ s.keepsOthers t n)) ∧
  (∀ (s : State) (n : CellNo) (w : When) (p : Port) (k : Fin 4), s.writable n p → ((s.cell n).lane k).latch = none →
    ((s.cell n).lane k).plan = none → (s.cell n).get (laneKey K.SwapWaiting k) = 0 → s.onTime n w →
    Completes (.bankSwapRequest n w p k) s (fun t =>
      t.heard p = 0 ∧ (t.cell n).get (laneKey K.SwapWaiting k) = 1 ∧ s.keepsEntries t n [laneKey K.SwapWaiting k] ∧
      s.keepsBytes t n ∧ s.keepsOthers t n)) ∧
  (∀ (s : State) (n : CellNo) (w : When) (k : Fin 4) (e : Nat) (sq : LaneSeq), s.live n → ((s.cell n).lane k).fadeEnd = some e →
    ((s.cell n).lane k).seqs.getLast? = some sq → sq.stop = none → sq.refOf (e - 1) < 128 * (w.cc + 1) →
    Completes (.fadeEnd n w k) s (fun t =>
      ((t.cell n).lane k).fadeEnd = none ∧ (t.cell n).get (laneKey K.FadeActive k) = 0 ∧
      s.keepsEntries t n [laneKey K.FadeActive k] ∧ s.keepsBytes t n ∧ s.keepsOthers t n)) ∧
  (∀ (s : State) (n : CellNo) (w : When) (k : Fin 4) (len : Nat) (sq : LaneSeq) (r : BankRun) (rs : List BankRun), s.live n →
    ((s.cell n).lane k).latch = some len → ((s.cell n).lane k).seqs.getLast? = some sq → sq.stop = none →
    ((s.cell n).lane k).fadeEnd = none → sq.runs = r :: rs → sq.refOf (r.startQ + r.fade) < 128 * (w.cc + 1) →
    Completes (.deferredSwapStart n w k) s (fun t =>
      ((t.cell n).lane k).latch = none ∧ (t.cell n).get (laneKey K.SwapDeferred k) = 0 ∧
      (t.cell n).get (laneKey K.LaneActiveBank k) = 1 - (s.cell n).get (laneKey K.LaneActiveBank k) ∧
      s.keepsEntries t n [laneKey K.SwapDeferred k, laneKey K.LaneActiveBank k, laneKey K.SwapCount k,
        laneKey K.LastSwapReference k, laneKey K.FadeActive k] ∧ s.keepsBytes t n ∧ s.keepsOthers t n)) ∧
  (∀ (s : State) (n : CellNo) (w : When) (p : Port) (k : Fin 4), s.writable n p →
    Completes (.filterCountClear n w p) s (fun t =>
      t.heard p = 0 ∧ (t.cell n).get K.Stage1SatCount = 0 ∧ (t.cell n).get (laneKey K.Stage2SatCount k) = 0 ∧
      (t.cell n).get (laneKey K.Stage3SatCount k) = 0 ∧ (t.cell n).get (laneKey K.UnsettledCount k) = 0 ∧
      (t.cell n).get (laneKey K.BankWriteRefused k) = 0 ∧ (t.cell n).get (laneKey K.LatchDiscarded k) = 0 ∧
      (t.cell n).get (laneKey K.SwapCount k) = (s.cell n).get (laneKey K.SwapCount k) ∧ s.keepsBytes t n ∧ s.keepsOthers t n))

/-! Condition units, recovery, level tracking -/

/-- R173 to R175, R184: a unit of type EDGE counts a crossing of its level that its polarity takes, at the sample before the crossing and
the fraction of R230, and any unit the one event its input yields, when the unit takes samples and no qualifier window is selected.  R181:
a TIMEOUT unit fires when no crossing came for its time-out.  R172: unsettled samples restart the analog units, counted once per run. -/
def Obligations.UnitEventsComplete : Prop :=
  (∀ (s : State) (n : CellNo) (w : When) (u : Fin 4) (g : UnitCfg) (k : Nat) (x0 x : Int), s.judging n u g k → g.typ = 1 →
    g.polarity ≠ 1 → unitVal (s.cell n).arm K.QualWindow u.val = 255 → ((s.cell n).unit u).last = some x0 →
    ((s.cell n).unit u).level.rise = true → x0 < g.level → g.level ≤ x → ((s.cell n).unit u).lastEvent ≠ some (k - 1) →
    g.polarity ≤ 2 →
    Completes (.unitEvent n w u (.analog [(x, 1)])) s (fun t =>
      s.unitCounts t n u (256 * (k - 1) + crossFrac g.level x0 x) ∧ s.keepsEntries t n (unitEntries u) ∧ s.keepsBytes t n ∧
      s.keepsOthers t n)) ∧
  (∀ (s : State) (n : CellNo) (w : When) (u : Fin 4) (g : UnitCfg) (k : Nat) (x0 x : Int), s.judging n u g k → g.typ = 1 →
    (g.polarity = 1 ∨ g.polarity = 2) → unitVal (s.cell n).arm K.QualWindow u.val = 255 → ((s.cell n).unit u).last = some x0 →
    ((s.cell n).unit u).level.fall = true → g.level ≤ x0 → x < g.level → ((s.cell n).unit u).lastEvent ≠ some (k - 1) →
    Completes (.unitEvent n w u (.analog [(x, 1)])) s (fun t =>
      s.unitCounts t n u (256 * (k - 1) + crossFrac g.level x0 x) ∧ s.keepsEntries t n (unitEntries u) ∧ s.keepsBytes t n ∧
      s.keepsOthers t n)) ∧
  (∀ (s : State) (n : CellNo) (w : When) (u : Fin 4) (runs : List (Int × Nat)) (x : UnitSt) (p : Nat), s.runs n →
    2 ≤ (s.cell n).get K.FgCalState → (s.cell n).isAnalogUnit u = true →
    (s.cell n).oldUnit u .analog = none →
    (s.cell n).analogFeed u.val none runs ((s.cell n).unit u) = (x, [p]) → (s.cell n).spanUnsettled (p / 256) = false →
    ((s.cell n).cfgAt u.val (p / 256)).path ≠ 1 → unitVal ((s.cell n).armAt (p / 256)) K.QualWindow u.val = 255 →
    x.lastEvent ≠ some (p / 256) →
    Completes (.unitEvent n w u (.analog runs)) s (fun t =>
      s.unitCounts t n u p ∧ s.keepsEntries t n (unitEntries u) ∧ s.keepsBytes t n ∧ s.keepsOthers t n)) ∧
  (∀ (s : State) (n : CellNo) (w : When) (u : Fin 4) (g : UnitCfg) (k m p : Nat) (x : Int), s.judging n u g k → g.typ = 6 →
    g.mode = 2 → unitVal (s.cell n).arm K.QualWindow u.val = 255 → ((s.cell n).unit u).last = some x →
    ((s.cell n).unit u).fired = false → ((s.cell n).unit u).p0.map (· + g.timeout) = some p →
    (∀ a ∈ (s.cell n).trg.arms, a.until' ≤ p / 256) → p / 256 + 2 ≤ k + m → 1 ≤ m → ((s.cell n).unit u).lastEvent ≠ some (p / 256) →
    Completes (.timeoutEvent n w u (.analog [(x, m)])) s (fun t =>
      s.unitCounts t n u p ∧ s.keepsEntries t n (unitEntries u) ∧ s.keepsBytes t n ∧ s.keepsOthers t n)) ∧
  (∀ (s : State) (n : CellNo) (w : When) (lo hi : Nat), s.live n → (s.cell n).clk.onFcc = true → 2 ≤ (s.cell n).get K.FgCalState →
    lo ≤ hi → (s.cell n).unsettledAt lo = true → (s.cell n).unsettledAt hi = true → (s.cell n).trg.lastUnsettled = none →
    Completes (.unsettledSampleClear n w lo hi) s (fun t =>
      (t.cell n).get K.UnsettledRestarts = wrapAdd 32 ((s.cell n).get K.UnsettledRestarts) 1 ∧
      (t.cell n).trg.lastUnsettled = some hi ∧
      (∀ u, (s.cell n).isAnalogUnit u = true → ((s.cell n).unit u).pos ≤ hi →
        (t.cell n).unit u = ((s.cell n).unit u).clearAt (hi + 1)) ∧
      s.keepsEntries t n [K.UnsettledRestarts] ∧ s.keepsBytes t n ∧ s.keepsOthers t n)) ∧
  (∀ (s : State) (n : CellNo) (w : When) (src : TdcSource) (k : Nat) (r : TdcReading) (digital : Nat) (p : Int), s.live n →
    (s.cellAt n w).tdcTakes src digital = true →
    (∀ d, (s.cell n).trg.lastEdge = some d → d + 512 ≤ digital) →
    p = 32768 * k + 256 * ((s.cell n).tdcTime r digital * 50 + (s.cell n).trimsAt (src == .aux) digital) * (s.cell n).fs.1 /
      (100000000000000 * (s.cell n).fs.2 : Nat) →
    digital ≤ p / 256 + 1 → p / 256 ≤ digital + 1 →
    Completes (.tdcEdge n w src k r digital) s (fun t =>
      (t.cell n).trg.tdc.head? = some ⟨src == .aux, digital, (p / 256).toNat, (p % 256).toNat, false⟩ ∧
      (t.cell n).trg.lastEdge = some digital ∧
      ((∀ e ∈ (s.cell n).trg.queue, e.digital ≠ digital) → s.keepsEntries t n []) ∧ s.keepsBytes t n ∧ s.keepsOthers t n)) ∧
  (∀ (s : State) (n : CellNo) (w : When) (src : TdcSource) (k : Nat) (r : TdcReading) (digital d : Nat), s.live n →
    (s.cellAt n w).tdcTakes src digital = true →
    (s.cell n).trg.lastEdge = some d → digital < d + 512 → (src = .aux → (s.cell n).auxUnitAt digital = true) →
    Completes (.tdcEdge n w src k r digital) s (fun t =>
      (t.cell n).get K.TdcMissCount = wrapAdd 32 ((s.cell n).get K.TdcMissCount) 1 ∧
      (t.cell n).trg.tdc.head? = some ⟨src == .aux, digital, digital, 128, true⟩ ∧
      s.keepsEntries t n [K.TdcMissCount] ∧ s.keepsBytes t n ∧ s.keepsOthers t n))

/-- R188: with the symbols of its 4,096 UI taken, a block whose integrator moved little enough, with transitions enough, leads to lock, and
the second failing one in a row unlocks.  R185, R189, R191, R192: a valid symbol moves the loop, gives the boundary that ends it, and
counts, and one with which the pattern matches counts as a match, and as an event of the SERIAL unit while the recovery is locked; how far
the detectors and the loop's paths move it is free (log entries 40 and 131).  R201: a block whose levels can be split sets the first
estimates, another is rejected and holds them. -/
def Obligations.RecoveryCompletes : Prop :=
  (∀ (s : State) (n : CellNo) (w : When) (symbols : List SymbolIn) (first : Nat) (outs : List Int) (last : SymbolIn) (d : Cell),
    s.live n → (s.cell n).cdrRuns = true → d = (s.cellAt n w).takeSymbols (symbols ++ [last]) first outs → 4096 ≤ d.trg.cdr.uis →
    (d.trg.cdr.integrator - d.trg.cdr.blockFrom).natAbs < 100 * d.swath K.CdrLockPpm → 128 ≤ d.trg.cdr.edges →
    d.get K.CdrLocked = 0 → d.swath K.CdrLockBlocks ≤ min 255 (d.trg.cdr.good + 1) →
    Completes (.cdrBlockEnd n w symbols first outs last) s (fun t =>
      (t.cell n).get K.CdrLocked = 1 ∧ (t.cell n).get K.CdrFrequencyOffset = raw 32 d.trg.cdr.integrator ∧
      (t.cell n).trg.cdr.uis = d.trg.cdr.uis - 4096 ∧ (t.cell n).trg.cdr.blockFrom = d.trg.cdr.integrator ∧
      (∀ k, k ∉ [K.CdrFrequencyOffset, K.CdrLocked, K.CdrState] → (t.cell n).get k = d.get k) ∧ s.keepsBytes t n ∧
      s.keepsOthers t n)) ∧
  (∀ (s : State) (n : CellNo) (w : When) (symbols : List SymbolIn) (first : Nat) (outs : List Int) (last : SymbolIn) (d : Cell),
    s.live n → (s.cell n).cdrRuns = true → d = (s.cellAt n w).takeSymbols (symbols ++ [last]) first outs → 4096 ≤ d.trg.cdr.uis →
    d.trg.cdr.edges < 128 → d.get K.CdrLocked = 1 → 1 ≤ d.trg.cdr.bad → d.source ≠ 2 →
    Completes (.cdrBlockEnd n w symbols first outs last) s (fun t =>
      (t.cell n).get K.CdrLocked = 0 ∧ (t.cell n).get K.CdrLockLossCount = wrapAdd 32 (d.get K.CdrLockLossCount) 1 ∧
      (∀ k, k ∉ [K.CdrFrequencyOffset, K.CdrLocked, K.CdrLockLossCount, K.CdrState] → (t.cell n).get k = d.get k) ∧
      s.keepsBytes t n ∧ s.keepsOthers t n)) ∧
  (∀ (s : State) (n : CellNo) (w : When) (symbols : List SymbolIn) (first : Nat) (outs : List Int) (last : SymbolIn) (d : Cell),
    s.live n → (s.cell n).cdrRuns = true → d = (s.cellAt n w).takeSymbols (symbols ++ [last]) first outs → 4096 ≤ d.trg.cdr.uis →
    d.source ≠ 2 →
    Completes (.cdrBlockEnd n w symbols first outs last) s (fun t =>
      (t.cell n).trg.cdr.uis = d.trg.cdr.uis - 4096 ∧ (t.cell n).trg.cdr.integrator = d.trg.cdr.integrator ∧
      (t.cell n).get K.CdrFrequencyOffset = raw 32 d.trg.cdr.integrator ∧
      (∀ k, k ∉ [K.CdrFrequencyOffset, K.CdrLocked, K.CdrLockLossCount, K.CdrState] → (t.cell n).get k = d.get k) ∧
      s.keepsOthers t n)) ∧
  (∀ (s : State) (n : CellNo) (w : When) (symbols : List SymbolIn) (first : Nat) (outs : List Int) (last : SymbolIn) (d : Cell),
    s.live n → (s.cell n).cdrRuns = true → d = (s.cellAt n w).takeSymbols (symbols ++ [last]) first outs → d.trg.cdr.uis < 4096 →
    Completes (.cdrBlockEnd n w symbols first outs last) s (fun t =>
      (t.cell n).trg = d.trg ∧ (∀ k, (t.cell n).get k = d.get k) ∧ s.keepsBytes t n ∧ s.keepsOthers t n)) ∧
  (∀ (s : State) (n : CellNo) (w : When) (x : SymbolIn) (first : Nat) (outs : List Int) (b : Nat), s.runs n →
    (s.cell n).cdrRuns = true → (s.cell n).symbolValid x = true → b = (s.cell n).symbolEnds first outs x →
    (s.cell n).serialUnit (b / 65536) = none →
    patternMatches ((s.cell n).symbolPattern (b / 65536))
      (regGet (cellDflt K.SymbolPatternLength) K.SymbolPatternLength ((s.cell n).armAt (b / 65536)))
      (((s.cell n).decideSymbol first outs x :: (s.cell n).trg.cdr.history).take 256) = true →
    Completes (.symbolMatch n w [x] first outs) s (fun t =>
      (t.cell n).get K.SymbolMatchCount = wrapAdd 64 ((s.cell n).get K.SymbolMatchCount) 1 ∧
      (t.cell n).get K.UiCount = wrapAdd 64 ((s.cell n).get K.UiCount) 1 ∧ (t.cell n).trg.cdr.edge = some b ∧
      (t.cell n).trg.cdr.integrator = (s.cell n).loopAfter ((s.cell n).loopError first outs x) ∧
      (t.cell n).trg.cdr.history = ((s.cell n).decideSymbol first outs x :: (s.cell n).trg.cdr.history).take 256 ∧
      s.keepsEntries t n [K.SymbolMatchCount, K.UiCount] ∧ s.keepsBytes t n ∧ s.keepsOthers t n)) ∧
  (∀ (s : State) (n : CellNo) (w : When) (x : SymbolIn) (first : Nat) (outs : List Int) (u : Fin 4) (b : Nat), s.runs n →
    (s.cell n).cdrRuns = true → (s.cell n).symbolValid x = true → b = (s.cell n).symbolEnds first outs x →
    (s.cell n).serialUnit (b / 65536) = some u → (s.cell n).get K.CdrLocked = 1 →
    unitVal ((s.cell n).armAt (b / 65536)) K.QualWindow u.val = 255 → ((s.cell n).unit u).lastEvent ≠ some (b / 65536) →
    patternMatches ((s.cell n).symbolPattern (b / 65536))
      (regGet (cellDflt K.SymbolPatternLength) K.SymbolPatternLength ((s.cell n).armAt (b / 65536)))
      (((s.cell n).decideSymbol first outs x :: (s.cell n).trg.cdr.history).take 256) = true →
    Completes (.symbolMatch n w [x] first outs) s (fun t =>
      (t.cell n).get K.SymbolMatchCount = wrapAdd 64 ((s.cell n).get K.SymbolMatchCount) 1 ∧ s.unitCounts t n u (b / 256) ∧
      s.keepsEntries t n (K.SymbolMatchCount :: K.UiCount :: unitEntries u) ∧ s.keepsBytes t n ∧ s.keepsOthers t n)) ∧
  (∀ (s : State) (n : CellNo) (w : When) (samps : List TrackRun) (x : TrackLevels), s.live n → (s.cell n).clk.onFcc = true →
    2 ≤ (s.cell n).get K.FgCalState → (s.cell n).trackOn = true → (s.cell n).swath K.TrackSource = 0 →
    w.cc + 1 = (s.cell n).trg.track.blockFrom + 65536 → (s.cell n).trg.track.est = none →
    splitLevels (trackHistogram samps) (histMedian (trackHistogram samps)) ((s.cell n).swath K.CdrModulation = 1)
      ((s.cell n).swath K.TrackMinAmplitude) = some x →
    Completes (.trackBlockEnd n w samps) s (fun t =>
      (t.cell n).trg.track.est = some x ∧ (t.cell n).get K.TrackBase = raw 16 x.base ∧ (t.cell n).get K.TrackTop = raw 16 x.top ∧
      (t.cell n).get K.TrackState = 2 ∧ s.keepsEntries t n [K.TrackBase, K.TrackTop, K.TrackPam4Levels, K.TrackState] ∧
      s.keepsBytes t n ∧ s.keepsOthers t n)) ∧
  (∀ (s : State) (n : CellNo) (w : When) (samps : List TrackRun), s.live n → (s.cell n).clk.onFcc = true →
    2 ≤ (s.cell n).get K.FgCalState → (s.cell n).trackOn = true → (s.cell n).swath K.TrackSource = 0 →
    w.cc + 1 = (s.cell n).trg.track.blockFrom + 65536 → (s.cell n).trg.track.est = none →
    splitLevels (trackHistogram samps) (histMedian (trackHistogram samps)) ((s.cell n).swath K.CdrModulation = 1)
      ((s.cell n).swath K.TrackMinAmplitude) = none →
    Completes (.trackBlockEnd n w samps) s (fun t =>
      (t.cell n).get K.TrackBlocksRejected = wrapAdd 32 ((s.cell n).get K.TrackBlocksRejected) 1 ∧ (t.cell n).get K.TrackState = 3 ∧
      s.keepsEntries t n [K.TrackBlocksRejected, K.TrackState] ∧ s.keepsBytes t n ∧ s.keepsOthers t n))

/-! Arming -/

/-- R211, R223, R224: a request that no cause of R224 refuses starts an acquisition that waits for its start sample, whether an event of
the image, a line pulse or a port asks; a refused request records its cause, and from a port it fails. -/
def Obligations.ArmRequestsComplete : Prop :=
  (∀ (s : State) (n : CellNo) (w : When) (idx : Nat) (e : EventEntry) (p : Nat), s.instanceDue n w idx 1 e p →
    (s.cell n).trg.armTaken ≠ some w.cc → s.mayArm n (s.firstOf n w p) →
    Completes (.arm n w idx) s (fun t => t.armedAt n (s.firstOf n w p) ∧ s.keepsBytes t n ∧ s.keepsOthers t n)) ∧
  (∀ (s : State) (n : CellNo) (w : When), s.live n → s.pulsed n ((s.cell n).get K.ArmStartLine) w.cc →
    (s.cell n).trg.armTaken ≠ some w.cc → s.mayArm n (128 * (w.cc + 1)) →
    Completes (.armStartLinePulse n w) s (fun t => t.armedAt n (128 * (w.cc + 1)) ∧ s.keepsBytes t n ∧ s.keepsOthers t n)) ∧
  (∀ (s : State) (n : CellNo) (w : When) (p : Port), s.writable n p → (s.cell n).trg.armTaken ≠ some w.cc →
    s.mayArm n (128 * (w.cc + 1)) →
    Completes (.armRequest n w p) s (fun t =>
      t.heard p = 0 ∧ t.armedAt n (128 * (w.cc + 1)) ∧ s.keepsBytes t n ∧ s.keepsOthers t n)) ∧
  (∀ (s : State) (n : CellNo) (w : When) (p : Port) (d : Cell) (cause : Nat), s.writable n p → (s.cell n).trg.acqs = [] →
    (s.cell n).trg.armTaken ≠ some w.cc → (s.cellAt n w).refusal (s.glob.at w.ns) n (128 * (w.cc + 1)) = (d, cause) → cause ≠ 0 →
    Completes (.armRequest n w p) s (fun t =>
      t.heard p = (if cause = 8 then 0x06090030 else 0x08000022) ∧ (t.cell n).trg.acqs = [] ∧
      (t.cell n).get K.LastArmRefuseCause = cause ∧
      (t.cell n).get K.ArmRefusedCount = wrapAdd 32 ((s.cell n).get K.ArmRefusedCount) 1 ∧
      s.keepsEntries t n [K.ArmConfigError, K.TrigConfigError, K.LastArmRefuseCause, K.ArmRefusedCount] ∧ s.keepsBytes t n ∧
      s.keepsOthers t n))

/-- R221: a force while idle counts as ignored, and in an acquisition waits for its decision.  R228: a stop ends every acquisition no
later than the first sample of the next cc; on the bypass clock it does nothing. -/
def Obligations.StopsAndForcesComplete : Prop :=
  (∀ (s : State) (n : CellNo) (w : When) (p : Port), s.writable n p → (s.cell n).trg.acqs = [] →
    Completes (.forceTriggerWrite n w p) s (fun t =>
      t.heard p = 0 ∧ (t.cell n).get K.ForceIgnored = wrapAdd 32 ((s.cell n).get K.ForceIgnored) 1 ∧
      s.keepsEntries t n [K.ForceIgnored] ∧ s.keepsBytes t n ∧ s.keepsOthers t n)) ∧
  (∀ (s : State) (n : CellNo) (w : When) (p : Port) (q : Acq), s.writable n p → (s.cell n).clk.onFcc = true → s.filling n w.cc q →
    Completes (.forceTriggerWrite n w p) s (fun t =>
      t.heard p = 0 ∧ (t.cell n).trg.forces = [(128 * (w.cc + 1), true)] ∧ s.keepsEntries t n [] ∧ s.keepsBytes t n ∧
      s.keepsOthers t n)) ∧
  (∀ (s : State) (n : CellNo) (w : When) (p : Port), s.writable n p → (s.cell n).clk.onFcc = true →
    Completes (.stopWrite n w p) s (fun t =>
      t.heard p = 0 ∧ (∀ q ∈ (t.cell n).trg.acqs, ∃ z cause, q.stop = some (z, cause) ∧ z ≤ 128 * (w.cc + 1)) ∧ s.keepsOthers t n)) ∧
  (∀ (s : State) (n : CellNo) (w : When) (p : Port), s.writable n p → (s.cell n).clk.onFcc = false →
    Completes (.stopWrite n w p) s (fun t =>
      t.heard p = 0 ∧ (t.cell n).trg = (s.cell n).trg ∧ s.keepsEntries t n [] ∧ s.keepsBytes t n ∧ s.keepsOthers t n)) ∧
  (∀ (s : State) (n : CellNo) (w : When), s.live n → (s.cell n).clk.onFcc = true → s.pulsed n ((s.cell n).get K.StopLine) w.cc →
    Completes (.stopLinePulse n w) s (fun t =>
      (∀ q ∈ (t.cell n).trg.acqs, ∃ z cause, q.stop = some (z, cause) ∧ z ≤ 128 * (w.cc + 1)) ∧ s.keepsOthers t n))

/-- R213 to R220, R197: in the decision cycle of a sample the acquisition `q`, alone and with no sequence, moves on: from pre-fill to
armed; from armed to post-fill at the time-out of Auto mode or at a candidate of the combiner; its segment closes; from re-arm back to
pre-fill; and a sequence whose time limit has passed expires.  The further premises say that nothing else falls in the cycle. -/
def Obligations.DecisionsComplete : Prop :=
  (∀ (s : State) (n : CellNo) (w : When) (q : Acq), s.live n → (s.cell n).clk.onFcc = true → (s.cell n).trg.acqs = [q] →
    (s.cell n).trg.queue = [] → (s.cell n).trg.forces = [] → (s.cell n).trg.segMarks = [] → q.stop = none → q.seq = none →
    q.phase = .prefill → q.p + q.pre < 128 * (w.cc + 1 - q.latency) → q.val K.ArmMode ≠ 2 →
    Completes (.armedEntry n w) s (fun t =>
      (t.cell n).get K.ArmState = 2 ∧ (∃ r, (t.cell n).trg.acqs = [r] ∧ r.phase = .armed ∧ r.p = q.p) ∧
      t.pulsed n 2 ((q.p + q.pre) / 128 + q.latency) ∧ s.keepsEntries t n [K.ArmState, K.EventCount + 2] ∧ s.keepsBytes t n ∧
      s.keepsOthers t n)) ∧
  (∀ (s : State) (n : CellNo) (w : When) (q : Acq) (b : Nat), s.live n → (s.cell n).clk.onFcc = true → (s.cell n).trg.acqs = [q] →
    (s.cell n).trg.queue = [] → (s.cell n).trg.forces = [] → (s.cell n).trg.segMarks = [] → q.stop = none → q.seq = none →
    q.phase = .armed → q.auto = some b → b / 128 + q.latency = w.cc →
    128 * (w.cc + 1 - q.latency) < b + q.val K.PostTriggerSamples →
    Completes (.autoTimeout n w) s (fun t =>
      (t.cell n).get K.LastTrigSample = b ∧ (t.cell n).get K.ArmState = 3 ∧
      (∃ r x, (t.cell n).trg.acqs = [r] ∧ r.phase = .postfill ∧ r.trig = some x ∧ x.sample = b ∧ x.forced = true) ∧
      t.pulsed n 0 (b / 128 + q.latency) ∧ s.keepsBytes t n ∧ s.keepsOthers t n)) ∧
  (∀ (s : State) (n : CellNo) (w : When) (q : Acq) (e : UnitEvent), s.live n → (s.cell n).clk.onFcc = true →
    (s.cell n).trg.acqs = [q] → (s.cell n).trg.queue = [e] → (s.cell n).trg.forces = [] → (s.cell n).trg.segMarks = [] →
    (s.cell n).trg.lastCand = none →
    q.stop = none → q.seq = none → q.hold = none → q.auto = none → q.phase = .armed →
    q.val K.TriggerMode = 0 → bit (q.val K.SourceEnable) e.unit = true → e.digital / 128 + q.latency = w.cc →
    128 * (w.cc + 1 - q.latency) < e.sample + q.val K.PostTriggerSamples →
    Completes (.triggerCandidate n w) s (fun t =>
      (t.cell n).get K.LastTrigSample = e.sample ∧ (t.cell n).get K.LastTrigFraction = e.frac ∧ (t.cell n).get K.ArmState = 3 ∧
      (t.cell n).get K.CandidatesDelivered = wrapAdd 64 ((s.cell n).get K.CandidatesDelivered) 1 ∧
      t.pulsed n 0 (e.digital / 128 + q.latency) ∧ s.keepsBytes t n ∧ s.keepsOthers t n)) ∧
  (∀ (s : State) (n : CellNo) (w : When) (q : Acq), s.live n → (s.cell n).clk.onFcc = true → (s.cell n).trg.acqs = [q] →
    (s.cell n).trg.queue = [] → (s.cell n).trg.forces = [] → (s.cell n).trg.segMarks = [] → q.stop = none → q.seq = none →
    q.phase = .postfill → q.closed = false → 0 < q.segEnd → q.segEnd = 128 * (w.cc + 1 - q.latency) →
    Completes (.segmentClose n w) s (fun t =>
      (t.cell n).get K.SegmentsRecorded = (q.segments + 1) % 2 ^ 32 ∧
      (∃ r, (t.cell n).trg.acqs = [r] ∧ r.closed = true ∧ r.segments = q.segments + 1) ∧
      t.pulsed n 4 ((q.segEnd - 1) / 128 + q.latency) ∧ s.keepsBytes t n ∧ s.keepsOthers t n)) ∧
  (∀ (s : State) (n : CellNo) (w : When) (q : Acq), s.live n → (s.cell n).clk.onFcc = true → (s.cell n).trg.acqs = [q] →
    (s.cell n).trg.queue = [] → (s.cell n).trg.forces = [] → (s.cell n).trg.segMarks = [] → q.stop = none → q.seq = none →
    q.phase = .rearm → q.segEnd + 4096 < 128 * (w.cc + 1 - q.latency) →
    128 * (w.cc + 1 - q.latency) ≤ q.segEnd + 4096 + q.pre →
    Completes (.rearmEnd n w) s (fun t =>
      (t.cell n).get K.ArmState = 1 ∧
      (∃ r, (t.cell n).trg.acqs = [r] ∧ r.phase = .prefill ∧ r.p = q.segEnd + 4096 ∧ r.trig = none) ∧
      s.keepsEntries t n [K.ArmState] ∧ s.keepsBytes t n ∧ s.keepsOthers t n)) ∧
  (∀ (s : State) (n : CellNo) (w : When) (q : Acq) (r : SeqRun) (x : Nat), s.live n → (s.cell n).clk.onFcc = true →
    (s.cell n).trg.acqs = [q] → (s.cell n).trg.queue = [] → (s.cell n).trg.forces = [] → (s.cell n).trg.segMarks = [] → q.stop = none →
    q.phase = .armed →
    q.auto = none → q.seq = some r → q.expiry = some x → x < (s.cell n).posOf (128 * (w.cc + 1 - q.latency)) →
    Completes (.seqExpiry n w) s (fun t =>
      (t.cell n).get K.SeqExpiredCount = wrapAdd 32 ((s.cell n).get K.SeqExpiredCount) 1 ∧ (t.cell n).get K.SeqState = 0 ∧
      (∃ y, (t.cell n).trg.acqs = [y] ∧ y.seq = none ∧ y.phase = .armed) ∧
      s.keepsEntries t n [K.SeqExpiredCount, K.SeqState, K.SeqBCount] ∧ s.keepsBytes t n ∧ s.keepsOthers t n))

/-- R236, R239, R240: a granted skew recalibration leaves its trims for the boundary and releases the token; so does a full table of the
spare TDC unit; and once TdcCalInterval has passed since the last toggle a linearity calibration is pending. -/
def Obligations.PlacementMaintenanceCompletes : Prop :=
  (∀ (s : State) (n : CellNo) (w : When) (x : SkewTrims), s.live n → (s.cell n).get K.HaywardHolder = 2 →
    Completes (.skewRecalDone n w x) s (fun t =>
      (t.cell n).plc.trims = some x ∧ (t.cell n).get K.SkewState = 2 ∧ (t.cell n).get K.HaywardHolder = 255 ∧
      s.keepsEntries t n [K.SkewState, K.HaywardHolder] ∧ s.keepsBytes t n ∧ s.keepsOthers t n)) ∧
  (∀ (s : State) (n : CellNo) (w : When) (hist : List Nat), s.live n → (s.cell n).get K.HaywardHolder = 3 →
    (s.cellAt n w).tdcHits = 262144 → (s.cell n).plc.toggle = false →
    Completes (.tdcTableComplete n ⟨w, hist⟩) s (fun t =>
      (t.cell n).plc.toggle = true ∧ (t.cell n).plc.tables.get (Fin.ofNat 2 (1 - (s.cell n).get K.TdcActiveUnit)) = hist ∧
      (t.cell n).get K.TdcHitsCollected = 262144 ∧ (t.cell n).get K.HaywardHolder = 255 ∧
      s.keepsEntries t n [K.TdcHitsCollected, K.HaywardHolder] ∧ s.keepsBytes t n ∧ s.keepsOthers t n)) ∧
  (∀ (s : State) (n : CellNo) (w : When), s.live n → (s.cell n).get K.TdcCalInterval ≠ 0 → 2 ≤ (s.cell n).get K.SkewState →
    (s.cell n).get K.TdcPending = 0 → (s.cell n).plc.toggledNs + (s.cell n).get K.TdcCalInterval * 1000000 ≤ w.ns →
    Completes (.tdcCalIntervalExpiry n w) s (fun t =>
      (t.cell n).get K.TdcPending = 1 ∧ s.keepsEntries t n [K.TdcPending] ∧ s.keepsBytes t n ∧ s.keepsOthers t n))

/-! Capture, accumulation -/

/-- R251: the lane's next output enters the packers once it may, and what it saturated counts; the value a stream takes stands behind
those of its open stook.  R252: the oldest held stook, where it belongs to a segment or a stream-mode acquisition, is queued, or kept in
burst mode, once its interval is decided, and one that no trigger can place in a segment any more is free.  R258: a queued stook that
finds the data region full is dropped and counted, another is counted as drained and, where its place of deep memory is mapped on a sound
channel, stands there with its release bits. -/
def Obligations.PackingCompletes : Prop :=
  (∀ (s : State) (n : CellNo) (w : When) (k : Fin 4) (first : Nat) (samps : List Samp) (q : LaneSeq), s.mayEnter n w k q →
    (∀ i, ((s.cell n).stream i).active = false) → (∀ i, ((s.cell n).prt.live.get i).active = false) →
    Completes (.stookPack n w k first samps) s (fun t =>
      ((t.cell n).lane k).seqs = [{ q with next := q.next + 1, counted := max q.counted (q.dueWith q.next) }] ∧
      (t.cell n).get (laneKey K.Stage2SatCount k) =
        wrapAdd 32 ((s.cell n).get (laneKey K.Stage2SatCount k))
          ((s.cellAt n w).stage2Saturated k.val q (max q.counted (q.dueWith q.next)) first samps) ∧
      (t.cell n).get (laneKey K.Stage3SatCount k) =
        wrapAdd 32 ((s.cell n).get (laneKey K.Stage3SatCount k)) ((s.cellAt n w).laneOutput k.val q q.next first samps).sat3 ∧
      s.keepsEntries t n [K.Stage1SatCount, laneKey K.Stage2SatCount k, laneKey K.Stage3SatCount k, laneKey K.UnsettledCount k] ∧
      s.keepsBytes t n ∧ s.keepsOthers t n)) ∧
  (∀ (s : State) (n : CellNo) (w : When) (k : Fin 4) (first : Nat) (samps : List Samp) (q : LaneSeq) (j : Fin 4) (v : Int),
    s.mayEnter n w k q →
    (∀ i, i ≠ j → ((s.cell n).stream i).active = false) → (∀ i, ((s.cell n).prt.live.get i).active = false) →
    ((s.cell n).stream j).active = true → ((s.cell n).stream j).done = false → ((s.cell n).stream j).lane = k.val →
    ((s.cell n).stream j).n0 = q.n0 → ((s.cellAt n w).laneOutput k.val q q.next first samps).vals = [v] →
    (s.cell n).cap.stop = none → (s.cell n).cap.segments = [] →
    ((s.cell n).cap.start : Int) ≤ ((s.cell n).stream j).refOf ((s.cell n).stream j).nextVal →
    ((s.cell n).stream j).openVals.length + 1 < ((s.cell n).stream j).per →
    Completes (.stookPack n w k first samps) s (fun t =>
      ((t.cell n).stream j).openVals =
        ((s.cell n).stream j).openVals ++ [reduceValue ((s.cell n).stream j).plan.packing v] ∧
      ((t.cell n).stream j).stooks = ((s.cell n).stream j).stooks ∧ s.keepsBytes t n ∧ s.keepsOthers t n)) ∧
  (∀ (s : State) (n : CellNo) (w : When) (j : Fin 4) (p : Packed) (ps : List Packed), s.live n → (s.cell n).clk.onFcc = true →
    (s.cell n).cap.stop = none → ((s.cell n).stream j).stooks = p :: ps → p.state = .held →
    (p.segment.isSome = true ∨ (s.cell n).cap.mode = 2) →
    ((s.cell n).stream j).intervalEnd p.last / 128 + (s.cell n).get K.TriggerLatencyApplied < w.cc →
    Completes (.stookQueue n w j) s (fun t =>
      ((t.cell n).stream j).stooks = { p with state := if (s.cell n).cap.mode = 1 then .kept else .queued } :: ps ∧
      s.keepsEntries t n [] ∧ s.keepsBytes t n ∧ s.keepsOthers t n)) ∧
  (∀ (s : State) (n : CellNo) (w : When) (j : Fin 4) (p : Packed) (ps : List Packed), s.live n → (s.cell n).clk.onFcc = true →
    (s.cell n).cap.stop = none → ((s.cell n).stream j).stooks = p :: ps → p.state = .held → p.segment = none →
    (s.cell n).cap.mode ≠ 2 → (s.cellAt n w).outOfReach ((s.cell n).stream j) p = true →
    Completes (.stookQueue n w j) s (fun t =>
      ((t.cell n).stream j).stooks = ps ∧ s.keepsEntries t n [streamKey K.StreamState j] ∧ s.keepsBytes t n ∧ s.keepsOthers t n)) ∧
  (∀ (s : State) (n : CellNo) (w : When) (j : Fin 4) (a : SlotAt) (flip m : Nat) (p : Packed) (ps : List Packed),
    s.drainsIn n w j a m → s.drains n j a.ch p ps → (s.cell n).deepFullNow j = true →
    Completes (.stookDrain n w j a flip) s (fun t =>
      (t.cell n).get (streamKey K.DeepFull j) = 1 ∧
      (t.cell n).get (streamKey K.DeepFullDropped j) = wrapAdd 64 ((s.cell n).get (streamKey K.DeepFullDropped j)) 1 ∧
      ((t.cell n).stream j).stooks = ps ∧ s.keepsBytes t n ∧ s.keepsOthers t n)) ∧
  (∀ (s : State) (n : CellNo) (w : When) (j : Fin 4) (a : SlotAt) (flip m : Nat) (p : Packed) (ps : List Packed),
    s.drainsIn n w j a m → s.drains n j a.ch p ps → (s.cell n).deepFullNow j = false →
    Completes (.stookDrain n w j a flip) s (fun t =>
      (t.cell n).get (streamKey K.StooksDrained j) = wrapAdd 64 ((s.cell n).get (streamKey K.StooksDrained j)) 1 ∧
      ((s.cell n).mem.memory.wf = true → (s.cell n).drainTarget j < (s.cell n).capacity → (s.cell n).channelFailed a.ch = false →
        stookAt (t.cell n).mem.memory ((s.cell n).drainTarget j) =
          (s.cell n).drainWord j p ((s.cell n).readPlace j p.place flip).1 % 2 ^ 144) ∧
      ((t.cell n).stream j).stooks = ps ∧ s.keepsBytesOut t n .deep ((s.cell n).drainTarget j) ∧ s.keepsOthers t n))

/-- R259 to R261: the entry of the oldest segment whose stooks have left the buffer, and the entry of a gap, are written as two stooks of
deep memory, each in a slot of its own, and stand there where the memory is mapped on a sound channel; with the second the entry counts,
and the last entry of the stream reads as they do.  No other byte changes. -/
def Obligations.EntriesComplete : Prop :=
  (∀ (s : State) (n : CellNo) (w : When) (j : Fin 4) (a : SlotAt) (m : Nat) (x : SegStore) (g : Segment),
    s.drainsIn n w j a m → channelOf ((s.cell n).entryStook j) = a.ch → ((s.cell n).stream j).half = none →
    (s.cell n).segmentDue ((s.cell n).stream j) = some (x, g) →
    Completes (.segmentEntryWrite n w j a) s (fun t =>
      ((t.cell n).stream j).half = some ((s.cell n).segmentEntry j x g).bytes ∧
      ((s.cell n).mem.memory.wf = true → (s.cell n).entryStook j < (s.cell n).capacity → (s.cell n).channelFailed a.ch = false →
        stookAt (t.cell n).mem.memory ((s.cell n).entryStook j) = stookOf ((s.cell n).segmentEntry j x g).bytes % 2 ^ 144) ∧
      (t.cell n).get (streamKey K.EntriesWritten j) = (s.cell n).get (streamKey K.EntriesWritten j) ∧
      s.keepsBytesOut t n .deep ((s.cell n).entryStook j) ∧ s.keepsOthers t n)) ∧
  (∀ (s : State) (n : CellNo) (w : When) (j : Fin 4) (a : SlotAt) (m : Nat) (x : SegStore) (g : Segment) (bs : List Byte),
    s.drainsIn n w j a m → channelOf ((s.cell n).entryStook j + 1) = a.ch → ((s.cell n).stream j).half = some bs →
    bit (leNat bs) 248 = false → (s.cell n).segmentDue ((s.cell n).stream j) = some (x, g) →
    Completes (.segmentEntryWrite n w j a) s (fun t =>
      (t.cell n).get (streamKey K.EntriesWritten j) = wrapAdd 32 ((s.cell n).get (streamKey K.EntriesWritten j)) 1 ∧
      (t.cell n).dom (streamKey K.LastEntry j) [] = bs ∧ ((t.cell n).stream j).half = none ∧
      ((t.cell n).stream j).stores = ((s.cell n).stream j).stores.drop 1 ∧
      ((s.cell n).mem.memory.wf = true → (s.cell n).entryStook j + 1 < (s.cell n).capacity → (s.cell n).channelFailed a.ch = false →
        stookAt (t.cell n).mem.memory ((s.cell n).entryStook j + 1) = stookOf (bs.drop 16) % 2 ^ 144) ∧
      s.keepsBytesOut t n .deep ((s.cell n).entryStook j + 1) ∧ s.keepsOthers t n)) ∧
  (∀ (s : State) (n : CellNo) (w : When) (j : Fin 4) (a : SlotAt) (m : Nat) (g : Gap),
    s.drainsIn n w j a m → channelOf ((s.cell n).entryStook j) = a.ch → ((s.cell n).stream j).half = none →
    ((s.cell n).stream j).gapDue = some g →
    Completes (.gapEntryWrite n w j a) s (fun t =>
      ((t.cell n).stream j).half = some ((s.cell n).gapEntry j g).bytes ∧
      ((s.cell n).mem.memory.wf = true → (s.cell n).entryStook j < (s.cell n).capacity → (s.cell n).channelFailed a.ch = false →
        stookAt (t.cell n).mem.memory ((s.cell n).entryStook j) = stookOf ((s.cell n).gapEntry j g).bytes % 2 ^ 144) ∧
      (t.cell n).get (streamKey K.EntriesWritten j) = (s.cell n).get (streamKey K.EntriesWritten j) ∧
      s.keepsBytesOut t n .deep ((s.cell n).entryStook j) ∧ s.keepsOthers t n)) ∧
  (∀ (s : State) (n : CellNo) (w : When) (j : Fin 4) (a : SlotAt) (m : Nat) (g : Gap) (bs : List Byte),
    s.drainsIn n w j a m → channelOf ((s.cell n).entryStook j + 1) = a.ch → ((s.cell n).stream j).half = some bs →
    bit (leNat bs) 248 = true → ((s.cell n).stream j).gapDue = some g →
    Completes (.gapEntryWrite n w j a) s (fun t =>
      (t.cell n).get (streamKey K.EntriesWritten j) = wrapAdd 32 ((s.cell n).get (streamKey K.EntriesWritten j)) 1 ∧
      (t.cell n).dom (streamKey K.LastEntry j) [] = bs ∧ ((t.cell n).stream j).half = none ∧
      ((t.cell n).stream j).gaps = ((s.cell n).stream j).gaps.drop 1 ∧
      ((s.cell n).mem.memory.wf = true → (s.cell n).entryStook j + 1 < (s.cell n).capacity → (s.cell n).channelFailed a.ch = false →
        stookAt (t.cell n).mem.memory ((s.cell n).entryStook j + 1) = stookOf (bs.drop 16) % 2 ^ 144) ∧
      s.keepsBytesOut t n .deep ((s.cell n).entryStook j + 1) ∧ s.keepsOthers t n))

/-- R115, R276, R277, R283: the windows of deep memory.  A read or write of a cell parked on its bypass clock is aborted or dropped and
counted, a read beyond the capacity is unsupported and each stook of it that is not mapped counts, both as the model reads R277 (log entry
87); otherwise the read waits for its stooks, and a write for its slot. -/
def Obligations.DeepWindowCompletes : Prop :=
  (∀ (s : State) (n : CellNo) (w : When) (off len : Nat), s.live n → wiping s.glob n = false → badTlp n bar2Window off len = false →
    (s.cell n).parked = true →
    Completes (.bar2Read n w off len) s (fun t =>
      (t.cell n).mem.completion = ⟨.aborted, [], false⟩ ∧ s.keepsEntries t n [] ∧ s.keepsBytes t n ∧ s.keepsOthers t n)) ∧
  (∀ (s : State) (n : CellNo) (w : When) (off len : Nat), s.live n → wiping s.glob n = false → badTlp n bar2Window off len = false →
    (s.cell n).parked = false → (s.cell n).capacity < (stookSpan off len).1 + (stookSpan off len).2 →
    Completes (.bar2Read n w off len) s (fun t =>
      (t.cell n).mem.completion = ⟨.unsupported, [], false⟩ ∧
      (t.cell n).get K.UnmappedAccessCount = wrapAdd 32 ((s.cell n).get K.UnmappedAccessCount)
        ((s.cell n).unmappedOf (stookSpan off len).1 (stookSpan off len).2) ∧
      s.keepsEntries t n [K.UnmappedAccessCount] ∧ s.keepsBytes t n ∧ s.keepsOthers t n)) ∧
  (∀ (s : State) (n : CellNo) (w : When) (off len : Nat), s.live n → wiping s.glob n = false → badTlp n bar2Window off len = false →
    (s.cell n).parked = false → (stookSpan off len).1 + (stookSpan off len).2 ≤ (s.cell n).capacity → 0 < len →
    Completes (.bar2Read n w off len) s (fun t =>
      (t.cell n).mem.hostReads = (s.cell n).mem.hostReads ++ [(off, len)] ∧
      (t.cell n).requestsOf .host = (s.cell n).requestsOf .host ++ [⟨(stookSpan off len).1, (stookSpan off len).2, none, 0⟩] ∧
      s.keepsEntries t n [] ∧ s.keepsBytes t n ∧ s.keepsOthers t n)) ∧
  (∀ (s : State) (n : CellNo) (w : When) (off : Nat) (data : List Byte) (enables : List Bool) (ep : Bool), s.live n →
    wiping s.glob n = false → badTlp n bar2Window off data.length = false → (s.cell n).parked = true →
    Completes (.bar2Write n w off data enables ep) s (fun t =>
      (t.cell n).get K.ParkedAccessCount = wrapAdd 32 ((s.cell n).get K.ParkedAccessCount) 1 ∧
      s.keepsEntries t n [K.ParkedAccessCount] ∧ s.keepsBytes t n ∧ s.keepsOthers t n)) ∧
  (∀ (s : State) (n : CellNo) (w : When) (off : Nat) (data : List Byte) (enables : List Bool) (ep : Bool) (x : StookWrite), s.live n →
    wiping s.glob n = false → badTlp n bar2Window off data.length = false → (s.cell n).parked = false →
    hostWrites off data enables ep = [x] → x.stook < (s.cell n).capacity →
    Completes (.bar2Write n w off data enables ep) s (fun t =>
      (t.cell n).requestsOf .host = (s.cell n).requestsOf .host ++ [⟨x.stook, 1, some x.write, 0⟩] ∧
      s.keepsEntries t n [] ∧ s.keepsBytes t n ∧ s.keepsOthers t n)) ∧
  (∀ (s : State) (n : CellNo) (w : When) (off len : Nat), (s.cell n).held = true → badTlp n bar2Window off len = false →
    Completes (.bar2Read n w off len) s (fun t =>
      (t.cell n).mem.completion = ⟨.aborted, [], false⟩ ∧
      t.glob.get G.WipeAccessRefused = wrapAdd 32 (s.glob.get G.WipeAccessRefused) 1 ∧ s.keepsBytes t n ∧ s.keepsOthers t n))

/-- R253, R263, R322, R431: the windows of the on-die memories.  A read inside a memory succeeds, one that leaves it is unsupported; a
write to the capture buffer takes effect while the cell is idle and is dropped and counted once otherwise. -/
def Obligations.OnDieWindowsComplete : Prop :=
  (∀ (s : State) (n : CellNo) (w : When) (off len : Nat) (flips : List (Nat × Nat)), s.live n → wiping s.glob n = false →
    badTlp n bar4Window off len = false → (bar4Space off).2.1 + (bar4Space off).2.2 < off + len →
    Completes (.bar4Read n w off len flips) s (fun t =>
      (t.cell n).mem.completion = ⟨.unsupported, [], false⟩ ∧ s.keepsEntries t n [] ∧ s.keepsBytes t n ∧ s.keepsOthers t n)) ∧
  (∀ (s : State) (n : CellNo) (w : When) (off len : Nat) (flips : List (Nat × Nat)), s.live n → wiping s.glob n = false →
    badTlp n bar4Window off len = false → off + len ≤ (bar4Space off).2.1 + (bar4Space off).2.2 →
    Completes (.bar4Read n w off len flips) s (fun t =>
      (t.cell n).mem.completion.status = .success ∧ s.keepsBytesBut t n .accumulator ∧ s.keepsOthers t n)) ∧
  (∀ (s : State) (n : CellNo) (w : When) (off : Nat) (data : List Byte) (enables : List Bool) (ep : Bool) (x : StookWrite), s.live n →
    wiping s.glob n = false → badTlp n bar4Window off data.length = false → off < 0x4000000 →
    hostWrites off data enables ep = [x] → 16 * x.stook < 16 * capturePlaces → (s.cell n).get K.ArmState = 0 →
    Completes (.bar4Write n w off data enables ep) s (fun t =>
      (t.cell n).cap.memory = writeTier (s.cell n).cap.memory x.stook x.write ∧ s.keepsEntries t n [] ∧
      s.keepsBytesOut t n .capture x.stook ∧ s.keepsOthers t n)) ∧
  (∀ (s : State) (n : CellNo) (w : When) (off : Nat) (data : List Byte) (enables : List Bool) (ep : Bool), s.live n →
    wiping s.glob n = false → badTlp n bar4Window off data.length = false → off + data.length ≤ 16 * capturePlaces →
    hostWrites off data enables ep ≠ [] → (s.cell n).get K.ArmState ≠ 0 →
    Completes (.bar4Write n w off data enables ep) s (fun t =>
      (t.cell n).get K.DirectWriteDropped = wrapAdd 32 ((s.cell n).get K.DirectWriteDropped) 1 ∧
      s.keepsEntries t n [K.DirectWriteDropped] ∧ s.keepsBytes t n ∧ s.keepsOthers t n))

/-- R426: a TLP of more than 4,096 bytes, or one that leaves its BAR, is malformed; that the model stops on it by name is its choice (log
entry 9).  A TLP within both bounds completes in every state. -/
def Obligations.MalformedTlpStops : Prop :=
  (∀ (s : State) (n : CellNo) (w : When) (off len : Nat), 4096 < len ∨ 4 * 2 ^ 34 < n.val * 2 ^ 34 + off + len →
    exec (.bar2Read n w off len) s = .fault .malformedTlp) ∧
  (∀ (s : State) (n : CellNo) (w : When) (off len : Nat) (flips : List (Nat × Nat)),
    4096 < len ∨ 4 * 2 ^ 28 < n.val * 2 ^ 28 + off + len → exec (.bar4Read n w off len flips) s = .fault .malformedTlp) ∧
  (∀ (s : State) (n : CellNo) (w : When) (off : Nat) (data : List Byte) (enables : List Bool) (ep : Bool),
    4096 < data.length ∨ 4 * 2 ^ 34 < n.val * 2 ^ 34 + off + data.length →
    exec (.bar2Write n w off data enables ep) s = .fault .malformedTlp) ∧
  (∀ (s : State) (n : CellNo) (w : When) (off : Nat) (data : List Byte) (enables : List Bool) (ep : Bool),
    4096 < data.length ∨ 4 * 2 ^ 28 < n.val * 2 ^ 28 + off + data.length →
    exec (.bar4Write n w off data enables ep) s = .fault .malformedTlp) ∧
  (∀ (s : State) (n : CellNo) (w : When) (off len : Nat), len ≤ 4096 → n.val * 2 ^ 34 + off + len ≤ 4 * 2 ^ 34 →
    Completes (.bar2Read n w off len) s (fun t => s.keepsBytes t n ∧ s.keepsOthers t n)) ∧
  (∀ (s : State) (n : CellNo) (w : When) (off : Nat) (data : List Byte) (enables : List Bool) (ep : Bool), data.length ≤ 4096 →
    n.val * 2 ^ 34 + off + data.length ≤ 4 * 2 ^ 34 →
    Completes (.bar2Write n w off data enables ep) s (fun t => s.keepsBytes t n ∧ s.keepsOthers t n)) ∧
  (∀ (s : State) (n : CellNo) (w : When) (off len : Nat) (flips : List (Nat × Nat)), len ≤ 4096 →
    n.val * 2 ^ 28 + off + len ≤ 4 * 2 ^ 28 →
    Completes (.bar4Read n w off len flips) s (fun t => s.keepsBytesBut t n .accumulator ∧ s.keepsOthers t n)) ∧
  (∀ (s : State) (n : CellNo) (w : When) (off : Nat) (data : List Byte) (enables : List Bool) (ep : Bool), data.length ≤ 4096 →
    n.val * 2 ^ 28 + off + data.length ≤ 4 * 2 ^ 28 →
    Completes (.bar4Write n w off data enables ep) s (fun t =>
      s.keepsBytesBut t n (if off < 0x4000000 then .capture else if off < 0x5000000 then .accumulator else .descriptors) ∧
      s.keepsOthers t n))

/-! Deep memory -/

/-- R272 to R274: when every channel passes bring-up the capacity follows from the smallest row count and rank count; when one fails the
memory enters state 5 with no capacity.  R284, R295: the temperatures of a poll are recorded and choose the refresh window; a refresh
changes nothing. -/
def Obligations.MemoryBringUpCompletes : Prop :=
  (∀ (s : State) (n : CellNo) (w : When) (r0 r1 r2 r3 : ChannelReport), s.live n → (s.cell n).get K.MemState = 1 →
    (s.cell n).get K.ClockState = 4 → (s.cell n).clk.onFcc = true → (s.cell n).mem.up = false →
    [r0, r1, r2, r3].all (fun r => bringUpCause r == 0) = true →
    Completes (.memBringUpDone n w r0 r1 r2 r3) s (fun t =>
      (t.cell n).mem.up = true ∧ (t.cell n).get K.MemState = 1 ∧
      (t.cell n).get K.RowCountUsed = minOver ChannelReport.rowCount [r0, r1, r2, r3] ∧
      (t.cell n).capacity =
        4 * minOver reportRanks [r0, r1, r2, r3] * 16 * 512 * minOver ChannelReport.rowCount [r0, r1, r2, r3] ∧
      s.keepsBytes t n ∧ s.keepsOthers t n)) ∧
  (∀ (s : State) (n : CellNo) (w : When) (r0 r1 r2 r3 : ChannelReport), s.live n → (s.cell n).get K.MemState = 1 →
    (s.cell n).get K.ClockState = 4 → (s.cell n).clk.onFcc = true → (s.cell n).mem.up = false →
    [r0, r1, r2, r3].any (fun r => bringUpCause r != 0) = true →
    Completes (.memBringUpDone n w r0 r1 r2 r3) s (fun t =>
      (t.cell n).mem.up = true ∧ (t.cell n).get K.MemState = 5 ∧ (t.cell n).capacity = 0 ∧
      s.keepsBytes t n ∧ s.keepsOthers t n)) ∧
  (∀ (s : State) (n : CellNo) (w : When), s.live n →
    Completes (.refresh n w) s (fun t =>
      (t.cell n).mem = (s.cell n).mem ∧ s.keepsEntries t n [] ∧ s.keepsBytes t n ∧ s.keepsOthers t n)) ∧
  (∀ (s : State) (n : CellNo) (w : When) (t0 t1 t2 t3 : Int), s.live n → (s.cell n).get K.MemState = 2 →
    Completes (.mr4Poll n w t0 t1 t2 t3) s (fun t =>
      (t.cell n).get (chKey K.DeviceTemp 0) = raw 16 (10 * t0) ∧ (t.cell n).get (chKey K.DeviceTemp 3) = raw 16 (10 * t3) ∧
      (t.cell n).get K.RefreshHot = b2n ([t0, t1, t2, t3].any (fun x => 85 < x)) ∧
      s.keepsEntries t n [chKey K.DeviceTemp 0, chKey K.DeviceTemp 1, chKey K.DeviceTemp 2, chKey K.DeviceTemp 3, K.RefreshHot,
        K.RetrainPending] ∧ s.keepsBytes t n ∧ s.keepsOthers t n))

/-- R278: a fixed read takes the content of its address as of its slot, and is due FixedReadLatency later.  R281 to R283: an open slot
admits the one request that waits: a read is in flight, a write has changed its stook.  R276, R406: the last stook of a host read
completes it.  R294: a stook that scrub finds correctable is to be written back.  That memory cycles are counted from the swath's start
(log entry 49), and that a partial write's bytes stand in the memory from its acceptance on (log entry 52), is the model's reading. -/
def Obligations.SlotAccessesComplete : Prop :=
  (∀ (s : State) (n : CellNo) (w : When) (a : SlotAt) (m x : Nat) (k : Fin 8), s.slotIs n w a m (2 + 16 * k.val) →
    (s.cell n).fixedNext k = some x → channelOf x = a.ch → x < (s.cell n).capacity → (s.cell n).channelFailed a.ch = false →
    Completes (.fixedRead n w a) s (fun t =>
      s.fixedTaken t n w m 2 k.val x ∧ ((t.cell n).chan k).fixedOut = ((s.cell n).chan k).fixedOut + 1 ∧
      s.keepsEntries t n [chKey K.FixedLanePeak a.ch] ∧ s.keepsBytes t n ∧ s.keepsOthers t n)) ∧
  (∀ (s : State) (n : CellNo) (w : When) (a : SlotAt) (m x : Nat) (p : Fin 4), s.slotIs n w a m (3 + 16 * p.val) →
    (s.cell n).playNext p = some x → channelOf x = a.ch → x < (s.cell n).capacity → (s.cell n).channelFailed a.ch = false →
    Completes (.fixedRead n w a) s (fun t =>
      s.fixedTaken t n w m 3 p.val x ∧ ((t.cell n).playOf p).asked = ((s.cell n).playOf p).asked + 1 ∧
      s.keepsEntries t n [chKey K.FixedLanePeak a.ch] ∧ s.keepsBytes t n ∧ s.keepsOthers t n)) ∧
  (∀ (s : State) (n : CellNo) (w : When) (flip : Nat) (f : FixedRead) (p : Fin 4), s.runs n → (s.cell n).mem.fixedReads = [f] →
    (s.cellAt n w).cycleFrom ≤ f.due → f.due < (s.cellAt n w).cycleTo → f.kind = 3 → f.target = p.val → f.issued = true →
    f.source = .device → ((s.cell n).playOf p).discard = 0 →
    Completes (.fixedReadData n w flip) s (fun t =>
      (t.cell n).mem.fixedReads = [] ∧
      ((t.cell n).playOf p).buffer = ((s.cell n).playOf p).buffer ++ [(decodeStook (f.data ^^^ flip % 2 ^ 144)).word] ∧
      s.keepsBytes t n ∧ s.keepsOthers t n)) ∧
  (∀ (s : State) (n : CellNo) (w : When) (a : SlotAt) (m : Nat) (p : Party) (r : OpenReq) (rs : List OpenReq),
    s.slotIs n w a m 0 → (s.cell n).get K.HaywardHolder ≠ 0 → (s.cell n).patRunning = false → (s.cell n).requestsOf p = r :: rs →
    (∀ q, q ≠ p → (s.cell n).requestsOf q = []) → p ≠ .scrub → (s.cell n).blanks = false → channelOf r.stook = a.ch →
    (queueOf ((s.cell n).banksOf a.ch) (bankOf r.stook)).length + 1 ≤ 8 → r.write = none → (s.cell n).channelFailed a.ch = false →
    Completes (.openAdmit n w a) s (fun t =>
      ((t.cell n).flightsOf p).getLast? = some ⟨r.stook, r.tag, none, false, false, false⟩ ∧
      (t.cell n).requestsOf p = dropHead (r :: rs) ∧ s.keepsBytes t n ∧ s.keepsOthers t n)) ∧
  (∀ (s : State) (n : CellNo) (w : When) (a : SlotAt) (m : Nat) (r : OpenReq) (rs : List OpenReq) (x : OpenWrite),
    s.slotIs n w a m 0 → (s.cell n).get K.HaywardHolder ≠ 0 → (s.cell n).patRunning = false → (s.cell n).requestsOf .host = r :: rs →
    (∀ q, q ≠ .host → (s.cell n).requestsOf q = []) → channelOf r.stook = a.ch →
    (queueOf ((s.cell n).banksOf a.ch) (bankOf r.stook)).length + r.need ≤ 8 → r.write = some x →
    (s.cell n).channelFailed a.ch = false →
    Completes (.openAdmit n w a) s (fun t =>
      (t.cell n).mem.memory = putStook r.stook (mergeWrite (stookAt (s.cell n).mem.memory r.stook) x) (s.cell n).mem.memory ∧
      (t.cell n).requestsOf .host = dropHead (r :: rs) ∧ s.keepsBytesOut t n .deep r.stook ∧ s.keepsOthers t n)) ∧
  (∀ (s : State) (n : CellNo) (w : When) (flip v off len : Nat) (f : Flight) (fs : List Flight), s.live n →
    (s.cell n).flightsOf .host = f :: fs → f.data = some (v, .device) → f.merge = false → (s.cell n).mem.hostReads = [(off, len)] →
    (s.cell n).mem.gathered = [] → (stookSpan off len).2 = 1 →
    Completes (.openReadData n w .host flip) s (fun t =>
      (t.cell n).mem.completion =
        ⟨.success, ((payloadBytes (decodeStook (v ^^^ flip % 2 ^ 144)).word).drop (off % 16)).take len,
          (decodeStook (decodeStook (v ^^^ flip % 2 ^ 144)).word).bad⟩ ∧
      (t.cell n).mem.hostReads = [] ∧ s.keepsBytes t n ∧ s.keepsOthers t n)) ∧
  (∀ (s : State) (n : CellNo) (w : When) (flip v i x : Nat) (f : Flight) (fs : List Flight), s.live n →
    (s.cell n).flightsOf .scrub = f :: fs → f.data = some (v, .device) → f.merge = false → f.touched = false →
    decodeStook (v ^^^ flip % 2 ^ 144) = .corrected i x →
    Completes (.openReadData n w .scrub flip) s (fun t =>
      (t.cell n).requestsOf .scrub = (s.cell n).requestsOf .scrub ++ [⟨f.stook, 1, some ⟨0, 0, false⟩, 0⟩] ∧
      (t.cell n).get (chKey K.MemCorrectedCount (channelOf f.stook)) =
        wrapAdd 32 ((s.cell n).get (chKey K.MemCorrectedCount (channelOf f.stook))) 1 ∧ s.keepsBytes t n ∧ s.keepsOthers t n))

/-- R285 to R287: an idle memory enters self-refresh, and the first request, or a write to MemWake, wakes it; when the wake-up checks find
no failure the memory is in state 2 again.  R296: a channel that fails is marked until the next cell reset.  From which instant idleness
counts is the model's reading of R285 (log entry 88), and what a wake-up leaves in TrainTemp that of R287 (log entry 145). -/
def Obligations.MemoryStatesComplete : Prop :=
  (∀ (s : State) (n : CellNo) (w : When), s.runs n → (s.cell n).get K.MemState = 2 →
    (s.cell n).get K.SelfRefreshEnable = 1 → (s.cell n).get K.ArmState = 0 → (s.cell n).streamsQuiet = true →
    (s.cellAt n w).memBusy = false →
    (s.cell n).mem.busyNs + 1000 * (s.cell n).get K.SelfRefreshIdle ≤ w.ns →
    Completes (.selfRefreshEntry n w) s (fun t =>
      (t.cell n).get K.MemState = 3 ∧
      (t.cell n).get K.SelfRefreshEntries = wrapAdd 32 ((s.cell n).get K.SelfRefreshEntries) 1 ∧
      s.keepsEntries t n [K.MemState, K.SelfRefreshEntries, chKey K.MemChannelState 0, chKey K.MemChannelState 1,
        chKey K.MemChannelState 2, chKey K.MemChannelState 3] ∧ s.keepsBytes t n ∧ s.keepsOthers t n)) ∧
  (∀ (s : State) (n : CellNo) (w : When) (p : Party), s.live n → (s.cell n).get K.MemState = 3 → (s.cell n).requestsOf p ≠ [] →
    Completes (.memWake n w) s (fun t =>
      (t.cell n).get K.MemState = 4 ∧ s.keepsEntries t n [K.MemState] ∧ s.keepsBytes t n ∧ s.keepsOthers t n)) ∧
  (∀ (s : State) (n : CellNo) (w : When) (p : Port), s.writable n p → (s.cell n).get K.MemState = 3 →
    Completes (.memWakeWrite n w p) s (fun t =>
      t.heard p = 0 ∧ (t.cell n).get K.MemState = 4 ∧ s.keepsEntries t n [K.MemState] ∧ s.keepsBytes t n ∧ s.keepsOthers t n)) ∧
  (∀ (s : State) (n : CellNo) (w : When) (p : Port), s.writable n p → (s.cell n).get K.MemState ≠ 3 →
    Completes (.memWakeWrite n w p) s (fun t =>
      t.heard p = 0 ∧ s.keepsEntries t n [] ∧ s.keepsBytes t n ∧ s.keepsOthers t n)) ∧
  (∀ (s : State) (n : CellNo) (w : When) (rs : Fin 4 → WakeReport), s.live n → (s.cell n).get K.MemState = 4 →
    (s.cell n).anyFailed = false → s.glob.get (G.WipeState + n.val) ≠ 2 →
    (∀ ch, (rs ch).eyes.all (· ≠ 0) = true ∧ (wakeNear (rs ch) = true ∨ 16 ≤ (rs ch).eye)) →
    Completes (.wakeDone n w ⟨rs 0, rs 1, rs 2, rs 3⟩) s (fun t =>
      (t.cell n).get K.MemState = 2 ∧ (t.cell n).get K.LastWakeNs = (w.ns - (s.cell n).mem.wakeFrom) % 2 ^ 32 ∧
      (∀ ch, (t.cell n).readTrims ch =
        if wakeNear (rs ch) then recentred ((s.cell n).readTrims ch) (rs ch).offsets else (rs ch).readTrims) ∧
      (∀ ch, (t.cell n).get (chKey K.TrainTemp ch) = (s.cell n).get (chKey K.DeviceTemp ch)) ∧
      s.keepsBytes t n ∧ s.keepsOthers t n)) ∧
  (∀ (s : State) (n : CellNo) (w : When) (ch : Fin 4) (atRetrain : Bool), s.live n → (s.cell n).get K.MemState = 2 →
    (s.cell n).channelFailed ch = false →
    Completes (.channelFail n w ch atRetrain) s (fun t =>
      (t.cell n).get K.MemState = 5 ∧ (t.cell n).channelFailed ch = true ∧
      (t.cell n).get (chKey K.ChannelFailCause ch) = (if atRetrain then 5 else 4) ∧ s.keepsBytes t n ∧ s.keepsOthers t n))

/-! The hayward and its activities -/

/-- R415: the free token goes to the first requesting activity in the order of R414, for no longer than its limit and its window.  R240,
R415: a grant that has lasted as long as it may ends.  R416: scrub yields the token to another requesting activity.  R293: each scrub read
is in flight and moves the pointer on, around the capacity.  R295, R301: a retrain is pending after a write to RetrainRequest and when its
interval has passed; a granted one leaves its trims for the boundary and releases the token. -/
def Obligations.MemoryMaintenanceCompletes : Prop :=
  (∀ (s : State) (n : CellNo) (w : When) (a i left : Nat), s.runs n → (s.cell n).exe.running = true →
    (s.cell n).get K.HaywardHolder = 255 → (s.cell n).hay.freeFrom ≤ w.cc → a ≤ 4 → (s.cellAt n w).requestsToken a = true →
    (∀ b, b < a → (s.cellAt n w).requestsToken b = false) → (s.cellAt n w).windowFor a = some (i, left) →
    Completes (.haywardGrant n w) s (fun t =>
      (t.cell n).get K.HaywardHolder = a ∧
      (t.cell n).get K.HaywardGrantCount = wrapAdd 32 ((s.cell n).get K.HaywardGrantCount) 1 ∧
      (t.cell n).hay.grantStart = w.cc ∧ (t.cell n).hay.grantEnd = w.cc + min left ((s.cell n).maintLimit a) - 1 ∧
      t.pulsed n 37 w.cc ∧ s.keepsBytes t n ∧ s.keepsOthers t n)) ∧
  (∀ (s : State) (n : CellNo) (w : When), s.live n → (s.cell n).get K.HaywardHolder ≠ 255 → (s.cell n).hay.grantEnd ≤ w.cc →
    Completes (.grantWindowEnd n w) s (fun t =>
      (t.cell n).get K.HaywardHolder = 255 ∧
      ((s.cell n).get K.HaywardHolder = 3 → (t.cell n).get K.TdcHitsCollected = (s.cellAt n w).tdcHits) ∧
      s.keepsEntries t n [K.HaywardHolder, K.SkewState, K.TdcHitsCollected] ∧ s.keepsBytes t n ∧ s.keepsOthers t n)) ∧
  (∀ (s : State) (n : CellNo) (w : When), s.live n → (s.cell n).get K.HaywardHolder = 4 →
    [0, 1, 2, 3].any (s.cellAt n w).requestsToken = true →
    Completes (.scrubYield n w) s (fun t =>
      (t.cell n).get K.HaywardHolder = 255 ∧
      (t.cell n).get K.ScrubPreemptCount = wrapAdd 32 ((s.cell n).get K.ScrubPreemptCount) 1 ∧
      (t.cell n).hay.scrubYielded = true ∧ s.keepsEntries t n [K.HaywardHolder, K.ScrubPreemptCount] ∧ s.keepsBytes t n ∧
      s.keepsOthers t n)) ∧
  (∀ (s : State) (n : CellNo) (w : When) (a : SlotAt) (m : Nat), s.slotIs n w a m 0 → (s.cell n).get K.HaywardHolder = 4 →
    (s.cell n).patRunning = false → (∀ q, (s.cell n).requestsOf q = []) → (s.cell n).get K.ScrubPointer < (s.cell n).capacity →
    channelOf ((s.cell n).get K.ScrubPointer) = a.ch → (s.cell n).channelFailed a.ch = false →
    (queueOf ((s.cell n).banksOf a.ch) (bankOf ((s.cell n).get K.ScrubPointer))).length + 1 ≤ 8 →
    Completes (.scrubRead n w a.ch a.sub) s (fun t =>
      (t.cell n).get K.ScrubPointer =
        (if (s.cell n).get K.ScrubPointer + 1 < (s.cell n).capacity then (s.cell n).get K.ScrubPointer + 1 else 0) ∧
      ((t.cell n).flightsOf .scrub).getLast? = some ⟨(s.cell n).get K.ScrubPointer, 0, none, false, false, false⟩ ∧
      s.keepsEntries t n [K.ScrubPointer, K.ScrubPasses] ∧ s.keepsBytes t n ∧ s.keepsOthers t n)) ∧
  (∀ (s : State) (n : CellNo) (w : When) (rs : Fin 4 → RetrainReport), s.live n → (s.cell n).get K.HaywardHolder = 0 →
    (∀ ch, (rs ch).eyes.all (· ≠ 0) = true) →
    Completes (.retrainDone n w (rs 0) (rs 1) (rs 2) (rs 3)) s (fun t =>
      (t.cell n).mem.retrain = some ([rs 0, rs 1, rs 2, rs 3].map (fun r => (r.readTrims, r.writeTrims))) ∧
      (t.cell n).get K.HaywardHolder = 255 ∧
      (∀ ch, (t.cell n).get (chKey K.WorstEyeWidth ch) =
        narrowest ((s.cell n).get (chKey K.WorstEyeWidth ch)) (rs ch).eyes) ∧ s.keepsBytes t n ∧ s.keepsOthers t n)) ∧
  (∀ (s : State) (n : CellNo) (w : When) (p : Port), s.writable n p →
    Completes (.retrainRequest n w p) s (fun t =>
      t.heard p = 0 ∧ (t.cell n).get K.RetrainPending ≠ 0 ∧ s.keepsEntries t n [K.RetrainPending] ∧ s.keepsBytes t n ∧
      s.keepsOthers t n)) ∧
  (∀ (s : State) (n : CellNo) (w : When), s.live n → (s.cell n).get K.RetrainInterval ≠ 0 → (s.cell n).capacity ≠ 0 →
    (s.cell n).get K.RetrainPending = 0 → (s.cell n).mem.retrainNs + (s.cell n).get K.RetrainInterval * 1000000 ≤ w.ns →
    Completes (.retrainIntervalExpiry n w) s (fun t =>
      (t.cell n).get K.RetrainPending = 1 ∧ s.keepsEntries t n [K.RetrainPending] ∧ s.keepsBytes t n ∧ s.keepsOthers t n))

/-! Waveform accumulation -/

/-- R306, R307: an output the rotating subset takes, of the full rate or of a lane, enters the delay store with the cycle of its receipt,
another does not.  R308, R319: the oldest value reaches the apply stage 16,384 cc after its receipt; an unsettled one is passed over and
counted, and with no function enabled a settled one in the run counts only as taken.  R311 to R315: the average adds a value to the sum
of its point and counts it, the envelope widens, a trigger map and a fold map count it in the bin of its column and row, and no other byte
of the accumulator changes.  R323: a value the statistics take enters their histogram.  R312, R321: what a clear has passed reads 0, and an
envelope point of the last layout its cleared value.  R316, R317, R321, R324: a start in IDLE whose
configuration passes lays out the regions and clears them; one that fails records the failed check; a freeze cuts the run at the next cc;
a resume begins from there; a clear takes the whole accumulator. -/
def Obligations.AccumulationCompletes : Prop :=
  (∀ (s : State) (n : CellNo) (w : When) (q first start : Nat) (samps : List Samp) (v : Int), s.live n → (s.cell n).clk.onFcc = true →
    (s.cell n).get K.FgCalState ≠ 1 → (s.cell n).get K.AccSource = 0 → (s.cell n).acc.intakeFrom = some start →
    start ≤ q - q % 512 → q / 128 + 19 = w.cc → (s.cellAt n w).keepsSample q = true → first ≤ q →
    ((s.cellAt n w).corrected first samps)[q - first]? = some v → ((s.cell n).acc.draw (0, q / 512) 4).takes q 4 128 = true →
    Completes (.accIntake n w q first samps) s (fun t =>
      (∃ x, (t.cell n).acc.delay = (s.cell n).acc.delay ++ [x] ∧ x.cc = w.cc ∧ x.ref = (q : Int) ∧ x.vals = [v]) ∧
      s.keepsEntries t n [] ∧ s.keepsBytes t n ∧ s.keepsOthers t n)) ∧
  (∀ (s : State) (n : CellNo) (w : When) (q first start : Nat) (samps : List Samp) (v : AccIn), s.live n →
    (s.cell n).get K.FgCalState ≠ 1 →
    (s.cell n).acc.intakeFrom = some start → (s.cellAt n w).accInput q first samps = some v → (start : Int) ≤ v.groupRef →
    ((s.cell n).acc.draw (v.n0, q / v.grid.block / v.grid.stride) v.grid.stride).takes q v.grid.stride v.grid.block = true →
    Completes (.accIntake n w q first samps) s (fun t =>
      (∃ x, (t.cell n).acc.delay = (s.cell n).acc.delay ++ [x] ∧ x.cc = w.cc ∧ x.ref = v.ref ∧ x.vals = v.vals ∧ x.uns = v.uns) ∧
      s.keepsEntries t n [] ∧ s.keepsBytes t n ∧ s.keepsOthers t n)) ∧
  (∀ (s : State) (n : CellNo) (w : When) (q first start : Nat) (samps : List Samp) (v : AccIn), s.live n →
    (s.cell n).get K.FgCalState ≠ 1 →
    (s.cell n).acc.intakeFrom = some start → (s.cellAt n w).accInput q first samps = some v → (start : Int) ≤ v.groupRef →
    ((s.cell n).acc.draw (v.n0, q / v.grid.block / v.grid.stride) v.grid.stride).takes q v.grid.stride v.grid.block = false →
    Completes (.accIntake n w q first samps) s (fun t =>
      (t.cell n).acc.delay = (s.cell n).acc.delay ∧ s.keepsEntries t n [] ∧ s.keepsBytes t n ∧ s.keepsOthers t n)) ∧
  (∀ (s : State) (n : CellNo) (w : When) (flips : List (Nat × Nat)) (v : AccVal) (vs : List AccVal), s.live n →
    (s.cell n).clk.onFcc = true → (s.cell n).acc.delay = v :: vs → v.cc + 16384 ≤ w.cc → v.uns = true →
    (s.cell n).acc.records = [] →
    Completes (.accApply n w flips) s (fun t =>
      (t.cell n).acc.delay = vs ∧
      (t.cell n).get K.UnsettledSkipped = wrapAdd 64 ((s.cell n).get K.UnsettledSkipped) v.vals.length ∧
      s.keepsEntries t n [K.UnsettledSkipped] ∧ s.keepsBytes t n ∧ s.keepsOthers t n)) ∧
  (∀ (s : State) (n : CellNo) (w : When) (flips : List (Nat × Nat)) (v : AccVal) (vs : List AccVal) (r : AccRec) (i x p : Nat) (y : Int)
    (ys : List Int), s.applies n w v vs → s.inRecord n v r i → v.vals = y :: ys → (s.cell n).get K.AccFunctions = 1 →
    x = (s.cell n).get K.AvgBase + 2 * i → s.accReads n flips x p →
    Completes (.accApply n w flips) s (fun t =>
      (t.cell n).acc.delay = vs ∧
      s.accWrites t n x (let a := averageStep (sgn 32 (wordOf p (x % 4))) (wordOf p (x % 4 + 1)) (rneShift y ((s.cell n).get K.AvgShift))
        setWord (setWord p (x % 4) (raw 32 a.1)) (x % 4 + 1) a.2.1) ∧
      s.keepsEntries t n [K.ValuesTaken, K.AvgSatCount] ∧ s.keepsOthers t n)) ∧
  (∀ (s : State) (n : CellNo) (w : When) (flips : List (Nat × Nat)) (v : AccVal) (vs : List AccVal) (r : AccRec) (i x p : Nat),
    s.applies n w v vs → s.inRecord n v r i → (s.cell n).get K.AccFunctions = 2 → x = (s.cell n).get K.EnvBase + i →
    s.accReads n flips x p →
    Completes (.accApply n w flips) s (fun t =>
      (t.cell n).acc.delay = vs ∧
      s.accWrites t n x (setWord p (x % 4) (raw 16 (min (sgn 16 (wordOf p (x % 4))) (minI v.vals)) +
        raw 16 (max (sgn 16 (wordOf p (x % 4) / 2 ^ 16)) (maxI v.vals)) * 2 ^ 16)) ∧
      s.keepsEntries t n [K.ValuesTaken] ∧ s.keepsOthers t n)) ∧
  (∀ (s : State) (n : CellNo) (w : When) (flips : List (Nat × Nat)) (v : AccVal) (vs : List AccVal) (r : AccRec)
    (i col row x p : Nat) (y : Int), s.applies n w v vs → s.inRecord n v r i → v.vals = [y] → (s.cell n).get K.AccFunctions = 4 →
    (s.cell n).mapFolds 0 = false → (s.cell n).trigColumn 0 r v.ref = (col : Int) → col < (s.cell n).get K.MapColumns →
    (y - (s.cell n).geti 16 K.MapAmpBottom) * (s.cell n).get K.MapRows / ((s.cell n).get K.MapAmpSpan : Int) = (row : Int) →
    row < (s.cell n).get K.MapRows → x = (s.cell n).get K.Map0Base + row * (s.cell n).get K.MapColumns + col →
    s.accReads n flips x p → wordOf p (x % 4) + 1 < 2 ^ 32 →
    Completes (.accApply n w flips) s (fun t =>
      (t.cell n).acc.delay = vs ∧ s.accWrites t n x (setWord p (x % 4) (wordOf p (x % 4) + 1)) ∧
      s.keepsEntries t n [K.ValuesTaken] ∧ s.keepsOthers t n)) ∧
  (∀ (s : State) (n : CellNo) (w : When) (flips : List (Nat × Nat)) (v : AccVal) (vs : List AccVal) (col row x p : Nat) (y : Int),
    s.applies n w v vs → (s.cell n).acc.records = [] → v.vals = [y] → v.unlocked = false → (s.cell n).get K.AccFunctions = 4 →
    (s.cell n).mapFolds 0 = true → (s.cell n).foldColumn 0 v = (col : Int) → col < (s.cell n).get K.MapColumns →
    (y - (s.cell n).geti 16 K.MapAmpBottom) * (s.cell n).get K.MapRows / ((s.cell n).get K.MapAmpSpan : Int) = (row : Int) →
    row < (s.cell n).get K.MapRows → x = (s.cell n).get K.Map0Base + row * (s.cell n).get K.MapColumns + col →
    s.accReads n flips x p → wordOf p (x % 4) + 1 < 2 ^ 32 →
    Completes (.accApply n w flips) s (fun t =>
      (t.cell n).acc.delay = vs ∧ s.accWrites t n x (setWord p (x % 4) (wordOf p (x % 4) + 1)) ∧
      s.keepsEntries t n [K.ValuesTaken] ∧ s.keepsOthers t n)) ∧
  (∀ (s : State) (n : CellNo) (w : When) (flips : List (Nat × Nat)) (v : AccVal) (vs : List AccVal), s.applies n w v vs →
    (s.cell n).acc.records = [] → (s.cell n).get K.AccFunctions = 0 →
    Completes (.accApply n w flips) s (fun t =>
      (t.cell n).acc.delay = vs ∧
      (t.cell n).get K.ValuesTaken = ((s.cell n).get K.ValuesTaken + v.vals.length) % 2 ^ 64 ∧
      ((s.cell n).statsTakes v = true →
        (t.cell n).acc.hist = v.vals.foldl (fun h x => addCode (x / 64) h) (s.cell n).acc.hist) ∧
      s.keepsEntries t n [K.ValuesTaken] ∧ s.keepsBytes t n ∧ s.keepsOthers t n)) ∧
  (∀ (s : State) (n : CellNo) (w : When) (p : Port), s.writable n p → (s.cell n).get K.AccState = 0 → wiping s.glob n = false →
    s.glob.get G.LifeCycleState ≠ 4 → (s.cell n).accCheck = none → (s.cell n).accLayout.used ≠ 0 →
    Completes (.accStart n w p) s (fun t =>
      t.heard p = 0 ∧ (t.cell n).get K.AccState = 5 ∧ (t.cell n).get K.WordsUsed = (s.cell n).accLayout.used ∧
      (t.cell n).get K.RecordCount = 0 ∧ (t.cell n).get K.ValuesTaken = 0 ∧ (t.cell n).acc.starting = true ∧
      s.keepsBytes t n ∧ s.keepsOthers t n)) ∧
  (∀ (s : State) (n : CellNo) (w : When) (p : Port) (code m : Nat), s.writable n p → (s.cell n).get K.AccState = 0 →
    wiping s.glob n = false → s.glob.get G.LifeCycleState ≠ 4 → (s.cell n).accCheck = some (code, m) →
    Completes (.accStart n w p) s (fun t =>
      t.heard p = 0x06090030 ∧ (t.cell n).get K.AccConfigError = code + m * 65536 ∧ s.keepsEntries t n [K.AccConfigError] ∧
      s.keepsBytes t n ∧ s.keepsOthers t n)) ∧
  (∀ (s : State) (n : CellNo) (w : When) (p : Port), s.writable n p → (s.cell n).get K.AccState = 1 → (s.cell n).clk.onFcc = true →
    (s.cell n).get K.AccFreezeMode = 0 →
    Completes (.accFreeze n w p) s (fun t =>
      t.heard p = 0 ∧ (t.cell n).get K.AccState = 2 ∧ (t.cell n).get K.FreezeCause = 1 ∧
      (t.cell n).acc.cut = some (128 * (w.cc + 1), 1) ∧ s.keepsEntries t n [K.AccState, K.FreezeCause] ∧ s.keepsBytes t n ∧
      s.keepsOthers t n)) ∧
  (∀ (s : State) (n : CellNo) (w : When) (p : Port), s.writable n p → (s.cell n).get K.AccState = 3 → (s.cell n).clk.onFcc = true →
    Completes (.accResume n w p) s (fun t =>
      t.heard p = 0 ∧ (t.cell n).get K.AccState = 1 ∧ (t.cell n).acc.runFrom = 128 * (w.cc + 1) ∧ (t.cell n).acc.cut = none ∧
      s.keepsEntries t n [K.AccState] ∧ s.keepsBytes t n ∧ s.keepsOthers t n)) ∧
  (∀ (s : State) (n : CellNo) (w : When) (p : Port), s.writable n p → (s.cell n).get K.AccState = 0 → wiping s.glob n = false →
    Completes (.accClear n w p) s (fun t =>
      t.heard p = 0 ∧ (t.cell n).get K.AccState = 5 ∧ (t.cell n).acc.clearEnd = w.cc + 14564 ∧ s.keepsEntries t n [K.AccState] ∧
      s.keepsBytes t n ∧ s.keepsOthers t n)) ∧
  (∀ (s : State) (n : CellNo) (w : When) (x cause : Nat), s.live n → (s.cell n).acc.cut = some (x, cause) →
    (s.cell n).get K.AccState = 2 → (s.cell n).clk.onFcc = true → x ≤ 128 * (w.cc - 16384) → (s.cell n).acc.delay = [] →
    (s.cell n).acc.records = [] →
    Completes (.accFrozen n w) s (fun t =>
      (t.cell n).get K.AccState = 3 ∧ (t.cell n).get K.FreezeSample = x ∧ (t.cell n).acc.cut = none ∧
      s.keepsEntries t n [K.AccState, K.FreezeSample, K.RecordCount] ∧ s.keepsBytes t n ∧ s.keepsOthers t n)) ∧
  (∀ (s : State) (n : CellNo) (w : When), s.live n → (s.cell n).get K.AccState = 5 → (s.cell n).acc.clearEnd ≤ w.cc →
    Completes (.accClearDone n w) s (fun t =>
      (t.cell n).get K.AccState = (if (s.cell n).acc.starting then 1 else 0) ∧ s.keepsEntries t n [K.AccState] ∧
      s.keepsBytesBut t n .accumulator ∧ s.keepsOthers t n)) ∧
  (∀ (s : State) (n : CellNo) (w : When) (words : Nat), s.live n → (s.cell n).get K.AccState = 5 → (s.cell n).acc.clearEnd ≤ w.cc →
    words = (if (s.cell n).acc.starting then (s.cell n).get K.WordsUsed else 3728268) →
    Completes (.accClearDone n w) s (fun t =>
      (∀ a, a < 18 * (words / 4) →
        a < 18 * ((s.cell n).acc.laid.env / 4) ∨
          18 * ((s.cell n).acc.laid.env / 4 + ceilDiv (s.cell n).acc.laid.points 4) ≤ a →
        memGet (t.cell n).acc.memory a = 0) ∧
      (∀ k, (s.cell n).acc.laid.env / 4 ≤ k → k < (s.cell n).acc.laid.env / 4 + (s.cell n).acc.laid.points / 4 → k < words / 4 →
        stookAt (t.cell n).acc.memory k = encodeStook 0x80007FFF80007FFF80007FFF80007FFF % 2 ^ 144) ∧
      (∀ a, 18 * ceilDiv words 4 ≤ a → memGet (t.cell n).acc.memory a = memGet (s.cell n).acc.memory a)))

/-! DMA mover -/

/-- R353, R354: a pulse on the request line of a waiting channel is a request, numbered by the cc it is seen in; the free mover goes to the
eligible channel with the earliest request, the lower number first for requests of one cc.  R382: enabling loads the chain start, disabling
leaves the mover at once or after the running burst, and an abort by software records cause 12, once the reads outstanding have come (R365);
bytes of a burst written but not ended count then too.  The model's choice: what a pulse is to a request line, and which channel of one cc
the number decides (log entry 77). -/
def Obligations.ChannelCommandsComplete : Prop :=
  (∀ (s : State) (n : CellNo) (w : When) (k : Fin 8), s.live n → (s.cell n).chanState k = 1 →
    (s.cell n).get (chanKey K.RequestLine k) < 64 → s.pulsed n ((s.cell n).get (chanKey K.RequestLine k)) (w.cc - 1) → 1 ≤ w.cc →
    ((s.cell n).chan k).reqCc ≠ some w.cc → ((s.cell n).chan k).seen.length < 65535 →
    Completes (.dmaRequest n w k) s (fun t =>
      ((t.cell n).chan k).seen = ((s.cell n).chan k).seen ++ [(s.cellAt n w).requestStamp] ∧
      (t.cell n).dma.stampCc = some w.cc ∧ (t.cell n).dma.stamp = (s.cellAt n w).requestStamp ∧
      ((s.cell n).dma.stampCc ≠ some w.cc → (t.cell n).dma.stamp = (s.cell n).dma.stamp + 1) ∧
      (t.cell n).get (chanKey K.PendingRequests k) = ((s.cell n).chan k).seen.length + 1 ∧
      s.keepsEntries t n [chanKey K.PendingRequests k] ∧ s.keepsBytes t n ∧ s.keepsOthers t n)) ∧
  (∀ (s : State) (n : CellNo) (w : When) (k : Fin 8) (u : Nat) (us : List Nat), s.live n → (s.cell n).get K.MoverOwner = 255 →
    (s.cell n).chanState k = 1 → ((s.cell n).chan k).seen = u :: us →
    (∀ j v vs, (s.cell n).chanState j = 1 → ((s.cell n).chan j).seen = v :: vs → u < v ∨ (u = v ∧ k ≤ j)) →
    Completes (.moverTake n w) s (fun t =>
      (t.cell n).get K.MoverOwner = k.val ∧ (t.cell n).chanState k = 2 ∧
      s.keepsEntries t n [K.MoverOwner, chanKey K.DmaChannelState k] ∧ s.keepsBytes t n ∧ s.keepsOthers t n)) ∧
  (∀ (s : State) (n : CellNo) (w : When) (p : Port) (k : Fin 8), s.writable n p → (s.cell n).chanState k = 0 →
    Completes (.channelEnable n w p k) s (fun t =>
      t.heard p = 0 ∧ (t.cell n).chanState k = 1 ∧ (t.cell n).get (chanKey K.ChannelEnable k) = 1 ∧
      (t.cell n).get (chanKey K.CurrentDescriptor k) = (s.cell n).chainStart k ∧ (t.cell n).get (chanKey K.HopCount k) = 0 ∧
      s.keepsEntries t n [chanKey K.ChannelEnable k, chanKey K.CurrentDescriptor k, chanKey K.HopCount k,
        chanKey K.DmaChannelState k] ∧ s.keepsBytes t n ∧ s.keepsOthers t n)) ∧
  (∀ (s : State) (n : CellNo) (w : When) (p : Port) (k : Fin 8), s.writable n p → (s.cell n).chanState k = 3 →
    Completes (.channelDisable n w p k) s (fun t =>
      t.heard p = 0 ∧ ((t.cell n).chan k).stopping = true ∧ (t.cell n).chanState k = 3 ∧
      s.keepsEntries t n [chanKey K.ChannelEnable k] ∧ s.keepsBytes t n ∧ s.keepsOthers t n)) ∧
  (∀ (s : State) (n : CellNo) (w : When) (p : Port) (k : Fin 8), s.writable n p → (s.cell n).chanState k ≠ 3 →
    Completes (.channelDisable n w p k) s (fun t =>
      t.heard p = 0 ∧ (t.cell n).chanState k = 0 ∧ (t.cell n).get (chanKey K.ChannelEnable k) = 0 ∧
      s.keepsEntries t n [chanKey K.ChannelEnable k, chanKey K.DmaChannelState k, K.MoverOwner] ∧ s.keepsBytes t n ∧
      s.keepsOthers t n)) ∧
  (∀ (s : State) (n : CellNo) (w : When) (p : Port) (k : Fin 8), s.writable n p → (s.cell n).chanState k = 2 →
    ((s.cell n).chan k).bursts = [] → ((s.cell n).chan k).dying = none →
    Completes (.channelAbort n w p k) s (fun t =>
      t.heard p = 0 ∧ (t.cell n).chanState k = 4 ∧ (t.cell n).get (chanKey K.LastAbortCause k) = 12 ∧ s.keepsOthers t n)) ∧
  (∀ (s : State) (n : CellNo) (w : When) (p : Port) (k : Fin 8) (d : Descriptor) (b : Burst), s.writable n p →
    (s.cell n).chanState k = 3 → ((s.cell n).chan k).desc = some d → ((s.cell n).chan k).bursts = [b] →
    ((s.cell n).chan k).dying = none → b.written = true → b.want = [] →
    Completes (.channelAbort n w p k) s (fun t =>
      t.heard p = 0 ∧ (t.cell n).chanState k = 4 ∧ (t.cell n).get (chanKey K.LastAbortCause k) = 12 ∧
      (t.cell n).get (chanKey K.BytesMoved k) = wrapAdd 64 ((s.cell n).get (chanKey K.BytesMoved k)) b.outBytes ∧
      s.keepsOthers t n)) ∧
  (∀ (s : State) (n : CellNo) (w : When) (p : Port) (k : Fin 8) (d : Descriptor) (b : Burst), s.writable n p →
    (s.cell n).chanState k = 3 → ((s.cell n).chan k).desc = some d → d.srcSpace = 0 → ((s.cell n).chan k).bursts = [b] →
    ((s.cell n).chan k).dying = none → b.written = false → 0 < ((s.cell n).chan k).asked → b.want ≠ [] →
    Completes (.channelAbort n w p k) s (fun t =>
      t.heard p = 0 ∧ (t.cell n).chanState k = 3 ∧ ((t.cell n).chan k).dying = some ⟨12, none, [], 0⟩ ∧
      ((t.cell n).chan k).bursts = [{ b with want := b.want.take ((s.cell n).chan k).asked }] ∧
      s.keepsEntries t n [] ∧ s.keepsBytes t n ∧ s.keepsOthers t n)) ∧
  (∀ (s : State) (n : CellNo) (w : When) (p : Port) (k : Fin 8), s.writable n p → (s.cell n).chanState k = 1 →
    Completes (.channelAbort n w p k) s (fun t =>
      t.heard p = 0 ∧ s.keepsEntries t n [] ∧ s.keepsBytes t n ∧ s.keepsOthers t n))

/-- R356, R361, R364, R425: the owner fetches its descriptor: from the descriptor SRAM it stands at once when it is aligned and valid; from
host memory it is asked for while fewer than 128 reads are outstanding; after too many hops the channel aborts with cause 3.  R355, R364: a
burst of a descriptor that reads deep memory asks for its stooks; one that fails its setup check aborts with that cause.  That a burst which
leaves deep memory counts one unmapped access is the model's reading of R277 (log entry 147). -/
def Obligations.DescriptorsAndBurstsComplete : Prop :=
  (∀ (s : State) (n : CellNo) (w : When) (k : Fin 8) (d0 d1 : Decoded) (d : Descriptor), s.live n → (s.cell n).owns k = true →
    (s.cell n).chanState k = 2 → ((s.cell n).chan k).desc = none → ((s.cell n).chan k).fetching = false →
    ((s.cell n).chan k).stopping = false → ((s.cell n).chan k).loop = false → s.glob.get (G.WipeState + n.val) ≠ 1 →
    (s.cell n).descInHost k = false →
    decodeStook (stookAt (s.cell n).dma.sram (2 * (s.cell n).descIndex k)) = d0 →
    decodeStook (stookAt (s.cell n).dma.sram (2 * (s.cell n).descIndex k + 1)) = d1 → d0.bad = false → d1.bad = false →
    parseDescriptor (payloadBytes d0.word ++ payloadBytes d1.word) ((s.cell n).flag (chanKey K.CompatMode k)) = d →
    d.misaligned = false → d.invalid (payloadBytes d0.word ++ payloadBytes d1.word) = false → d.fixed = false →
    Completes (.descriptorFetch n w k 0 0) s (fun t =>
      ((t.cell n).chan k).desc = some d ∧ ((t.cell n).chan k).started = 0 ∧ s.keepsEntries t n [] ∧ s.keepsBytes t n ∧
      s.keepsOthers t n)) ∧
  (∀ (s : State) (n : CellNo) (w : When) (k : Fin 8) (f0 f1 : Nat), s.live n → (s.cell n).owns k = true →
    (s.cell n).chanState k = 2 → ((s.cell n).chan k).desc = none → ((s.cell n).chan k).fetching = false →
    ((s.cell n).chan k).stopping = false → ((s.cell n).chan k).loop = false → s.glob.get (G.WipeState + n.val) ≠ 1 →
    (s.cell n).descInHost k = true → (s.cell n).hostOutstanding < hostReadLimit →
    Completes (.descriptorFetch n w k f0 f1) s (fun t =>
      ((t.cell n).chan k).fetching = true ∧ s.keepsEntries t n [] ∧ s.keepsBytes t n ∧ s.keepsOthers t n)) ∧
  (∀ (s : State) (n : CellNo) (w : When) (k : Fin 8) (f0 f1 : Nat), s.live n → (s.cell n).owns k = true →
    (s.cell n).chanState k = 2 → ((s.cell n).chan k).desc = none → ((s.cell n).chan k).fetching = false →
    ((s.cell n).chan k).stopping = false → ((s.cell n).chan k).loop = true → s.glob.get (G.WipeState + n.val) ≠ 1 →
    Completes (.descriptorFetch n w k f0 f1) s (fun t =>
      (t.cell n).chanState k = 4 ∧ (t.cell n).get (chanKey K.LastAbortCause k) = 3 ∧ s.keepsOthers t n)) ∧
  (∀ (s : State) (n : CellNo) (w : When) (k : Fin 8) (flips : List (Nat × Nat)) (d : Descriptor), s.live n →
    (s.cell n).owns k = true → (s.cell n).chanState k = 2 → ((s.cell n).chan k).desc = some d → ((s.cell n).chan k).stopping = false →
    ((s.cell n).chan k).seen ≠ [] → ((s.cell n).chan k).started < d.total → ((s.cell n).chan k).bursts = [] →
    s.glob.get (G.WipeState + n.val) ≠ 1 → ((s.cell n).chan k).dying = none → (s.cell n).sourceIssued k d = true → d.srcSpace = 1 →
    d.fixed = false →
    (s.cell n).setupCheck (wiping s.glob n) k d ((s.cell n).chan k).started
      (min d.burstBytes (d.total - ((s.cell n).chan k).started)) = none →
    Completes (.burstStart n w k flips) s (fun t =>
      (t.cell n).chanState k = 3 ∧
      (t.cell n).get (chanKey K.BurstCount k) = wrapAdd 64 ((s.cell n).get (chanKey K.BurstCount k)) 1 ∧
      ((t.cell n).chan k).started =
        ((s.cell n).chan k).started + min d.burstBytes (d.total - ((s.cell n).chan k).started) ∧
      ((t.cell n).chan k).seen = ((s.cell n).chan k).seen.drop 1 ∧ s.keepsBytes t n ∧ s.keepsOthers t n)) ∧
  (∀ (s : State) (n : CellNo) (w : When) (k : Fin 8) (flips : List (Nat × Nat)) (d : Descriptor) (cause a : Nat), s.live n →
    (s.cell n).owns k = true → (s.cell n).chanState k = 2 → ((s.cell n).chan k).desc = some d → ((s.cell n).chan k).stopping = false →
    ((s.cell n).chan k).seen ≠ [] → ((s.cell n).chan k).started < d.total → ((s.cell n).chan k).bursts = [] →
    s.glob.get (G.WipeState + n.val) ≠ 1 → ((s.cell n).chan k).dying = none → (s.cell n).sourceIssued k d = true →
    (s.cell n).setupCheck (wiping s.glob n) k d ((s.cell n).chan k).started (min d.burstBytes (d.total - ((s.cell n).chan k).started)) =
      some (cause, a) →
    Completes (.burstStart n w k flips) s (fun t =>
      (t.cell n).chanState k = 4 ∧ (t.cell n).get (chanKey K.LastAbortCause k) = cause ∧ ((t.cell n).chan k).seen = [] ∧
      (cause = 5 → (s.cell n).leavesDeep d ((s.cell n).chan k).started (min d.burstBytes (d.total - ((s.cell n).chan k).started)) = true →
        (t.cell n).get K.UnmappedAccessCount = wrapAdd 32 ((s.cell n).get K.UnmappedAccessCount) 1) ∧
      s.keepsOthers t n))

/-- R355, R356: when the last access of a burst has been accepted its bytes count and the channel waits for its next request; at the end
of a descriptor the chain ends, or goes on with one hop more. -/
def Obligations.BurstAndDescriptorEndsComplete : Prop :=
  (∀ (s : State) (n : CellNo) (w : When) (k : Fin 8) (d : Descriptor) (b : Burst), s.live n → ((s.cell n).chan k).desc = some d →
    ((s.cell n).chan k).bursts = [b] → b.written = true → b.left = 0 → ((s.cell n).chan k).stopping = false →
    ((s.cell n).chan k).dying = none →
    Completes (.burstEnd n w k) s (fun t =>
      (t.cell n).chanState k = 2 ∧ ((t.cell n).chan k).bursts = [] ∧
      (t.cell n).get (chanKey K.BytesMoved k) = wrapAdd 64 ((s.cell n).get (chanKey K.BytesMoved k)) b.outBytes ∧
      (d.done = 1 → t.pulsed n (8 + k.val) w.cc) ∧
      s.keepsEntries t n [K.EventCount + (8 + k.val), chanKey K.BytesMoved k, chanKey K.DmaChannelState k] ∧ s.keepsBytes t n ∧
      s.keepsOthers t n)) ∧
  (∀ (s : State) (n : CellNo) (w : When) (k : Fin 8) (d : Descriptor), s.live n → ((s.cell n).chan k).desc = some d →
    d.total ≤ ((s.cell n).chan k).started → ((s.cell n).chan k).bursts = [] → ((s.cell n).chan k).stopping = false →
    ((s.cell n).chan k).dying = none → d.next = 0xFFFF →
    Completes (.descriptorEnd n w k) s (fun t =>
      (t.cell n).chanState k = 1 ∧ (t.cell n).get (chanKey K.CurrentDescriptor k) = (s.cell n).chainStart k ∧
      (t.cell n).get (chanKey K.HopCount k) = 0 ∧ (t.cell n).owns k = false ∧ ((t.cell n).chan k).desc = none ∧
      s.keepsBytes t n ∧ s.keepsOthers t n)) ∧
  (∀ (s : State) (n : CellNo) (w : When) (k : Fin 8) (d : Descriptor), s.live n → ((s.cell n).chan k).desc = some d →
    d.total ≤ ((s.cell n).chan k).started → ((s.cell n).chan k).bursts = [] → ((s.cell n).chan k).stopping = false →
    ((s.cell n).chan k).dying = none → d.next ≠ 0xFFFF → d.cyclic = false →
    (s.cell n).get (chanKey K.HopCount k) < (s.cell n).get K.ChainHopLimit →
    Completes (.descriptorEnd n w k) s (fun t =>
      (t.cell n).get (chanKey K.CurrentDescriptor k) = d.next + (if d.nextInHost then 65536 else 0) ∧
      (t.cell n).get (chanKey K.HopCount k) = (s.cell n).get (chanKey K.HopCount k) + 1 ∧ ((t.cell n).chan k).desc = none ∧
      (t.cell n).chanState k = (s.cell n).chanState k ∧ s.keepsBytes t n ∧ s.keepsOthers t n))

/-- R364, R365, R427: a completion of a burst given up is discarded; a completion of a descriptor read that reports an error aborts the
channel with cause 8, and one that does not come in time with cause 4; where a source read fails while others are outstanding, its bytes are
lost, the abort has begun and waits for the others; a descriptor read from host memory stands when it is aligned and valid.  R367: the data
of a completion, poisoned or not, stands with the burst that wants it.  The model's choice: host reads of one channel complete in the order
of their addresses (log entry 147). -/
def Obligations.HostReadsComplete : Prop :=
  (∀ (s : State) (n : CellNo) (w : When) (k : Fin 8) (status : Fin 3) (data : List Byte) (poisoned : Bool), s.live n →
    ((s.cell n).chan k).hostStale ≠ 0 →
    Completes (.hostCompletion n w k status data poisoned) s (fun t =>
      ((t.cell n).chan k).hostStale = ((s.cell n).chan k).hostStale - 1 ∧ s.keepsEntries t n [] ∧ s.keepsBytes t n ∧
      s.keepsOthers t n)) ∧
  (∀ (s : State) (n : CellNo) (w : When) (k : Fin 8) (status : Fin 3) (data : List Byte) (poisoned : Bool), s.live n →
    ((s.cell n).chan k).hostStale = 0 → ((s.cell n).chan k).fetching = true → ((s.cell n).chan k).desc = none → status ≠ 0 →
    Completes (.hostCompletion n w k status data poisoned) s (fun t =>
      (t.cell n).chanState k = 4 ∧ (t.cell n).get (chanKey K.LastAbortCause k) = 8 ∧ s.keepsOthers t n)) ∧
  (∀ (s : State) (n : CellNo) (w : When) (k : Fin 8) (data : List Byte) (d : Descriptor), s.live n →
    ((s.cell n).chan k).hostStale = 0 → ((s.cell n).chan k).fetching = true →
    parseDescriptor ((data ++ zeros 32).take 32) ((s.cell n).flag (chanKey K.CompatMode k)) = d → d.misaligned = false →
    d.invalid ((data ++ zeros 32).take 32) = false → d.fixed = false →
    Completes (.hostCompletion n w k 0 data false) s (fun t =>
      ((t.cell n).chan k).desc = some d ∧ ((t.cell n).chan k).fetching = false ∧ s.keepsEntries t n [] ∧ s.keepsBytes t n ∧
      s.keepsOthers t n)) ∧
  (∀ (s : State) (n : CellNo) (w : When) (k : Fin 8) (data : List Byte) (poisoned : Bool) (d : Descriptor) (b : Burst) (x y : Want)
    (ws : List Want), s.live n → ((s.cell n).chan k).hostStale = 0 → ((s.cell n).chan k).fetching = false →
    ((s.cell n).chan k).desc = some d → d.srcSpace = 0 → ((s.cell n).chan k).bursts = [b] → ((s.cell n).chan k).dying = none →
    b.written = false → b.want = x :: y :: ws → ((s.cell n).chan k).asked ≠ 0 →
    Completes (.hostCompletion n w k 0 data poisoned) s (fun t =>
      ((t.cell n).chan k).bursts = [{ b with
        want := y :: ws
        got := b.got ++ ((((data ++ zeros x.len).take x.len).map (fun v => (v, poisoned))).drop x.first).take x.n }] ∧
      (poisoned = true → (t.cell n).get K.DmaPoisonCount = wrapAdd 32 ((s.cell n).get K.DmaPoisonCount) (x.len / 16)) ∧
      s.keepsEntries t n (if poisoned then [K.DmaPoisonCount] else []) ∧ s.keepsBytes t n ∧ s.keepsOthers t n)) ∧
  (∀ (s : State) (n : CellNo) (w : When) (k : Fin 8) (status : Fin 3) (data : List Byte) (poisoned : Bool) (d : Descriptor) (b : Burst)
    (x y : Want) (ws : List Want), s.live n → ((s.cell n).chan k).hostStale = 0 → ((s.cell n).chan k).fetching = false →
    ((s.cell n).chan k).desc = some d → d.srcSpace = 0 → ((s.cell n).chan k).bursts = [b] → ((s.cell n).chan k).dying = none →
    b.written = false → b.want = x :: y :: ws → ((s.cell n).chan k).asked = ws.length + 2 → status ≠ 0 →
    Completes (.hostCompletion n w k status data poisoned) s (fun t =>
      (t.cell n).chanState k = (s.cell n).chanState k ∧
      ((t.cell n).chan k).dying = some ⟨8, some (d.srcAddr (b.off + b.got.length)), [(b.off + b.got.length, x.n)], 0⟩ ∧
      ((t.cell n).chan k).bursts = [{ b with want := y :: ws, got := b.got ++ List.replicate x.n (0, false) }] ∧
      s.keepsEntries t n [] ∧ s.keepsBytes t n ∧ s.keepsOthers t n)) ∧
  (∀ (s : State) (n : CellNo) (w : When) (k : Fin 8), s.live n → s.glob.get G.CompletionTimeoutNs ≠ 0 →
    ((s.cell n).chan k).hostStale = 0 → ((s.cell n).chan k).fetching = true → ((s.cell n).chan k).desc = none →
    Completes (.dmaCompletionTimeout n w k) s (fun t =>
      (t.cell n).chanState k = 4 ∧ (t.cell n).get (chanKey K.LastAbortCause k) = 4 ∧ s.keepsOthers t n))

/-! Raster -/

/-- R338 to R340: a start or a commit whose shadows pass the check takes effect, one that fails records the first failed check and fails
with a value error; a stop lets the frame complete; the first frame comes from the shadows; the stopped raster holds no in-scan range. A
start-up sequence of the allowed packets is taken, and sent when the output starts.  R336: in command mode an edge of the right polarity
that is wanted starts the panel's frame, one that comes while a frame is sent is skipped and counted, and a missing one is counted and the
frame starts without it.  R343: a cursor image that is complete retires its range, in the first cycle without such a pulse (R341).  The
model's choice: the start-up list is taken at the write of RasterEnable (log entry 180). -/
def Obligations.RasterControlCompletes : Prop :=
  (∀ (s : State) (n : CellNo) (w : When) (p : Port), s.writable n p → (s.cell n).get K.RasterState = 0 →
    (s.cell n).rasterCheck (s.cell n).shadows.1 = 0 →
    Completes (.rasterEnable n w p) s (fun t =>
      t.heard p = 0 ∧ (t.cell n).get K.RasterEnable = 1 ∧ (t.cell n).get K.RasterState = 1 ∧ (t.cell n).get K.FrameCount = 0 ∧
      (t.cell n).ras.link.lanes = .startup ∧ (t.cell n).ras.link.sent = startupItems 1024 ((s.cell n).dom K.DsiStartup []) ∧
      s.keepsEntries t n [K.RasterConfigError, K.RasterEnable, K.RasterState, K.FrameCount] ∧ s.keepsBytes t n ∧ s.keepsOthers t n)) ∧
  (∀ (s : State) (n : CellNo) (w : When) (p : Port), s.writable n p → (s.cell n).get K.RasterState = 0 →
    (s.cell n).rasterCheck (s.cell n).shadows.1 ≠ 0 →
    Completes (.rasterEnable n w p) s (fun t =>
      t.heard p = 0x06090030 ∧ (t.cell n).get K.RasterConfigError = (s.cell n).rasterCheck (s.cell n).shadows.1 ∧
      s.keepsEntries t n [K.RasterConfigError] ∧ s.keepsBytes t n ∧ s.keepsOthers t n)) ∧
  (∀ (s : State) (n : CellNo) (w : When) (p : Port), s.writable n p → (s.cell n).get K.RasterState ≠ 0 →
    Completes (.rasterDisable n w p) s (fun t =>
      t.heard p = 0 ∧ (t.cell n).get K.RasterEnable = 0 ∧ (t.cell n).get K.RasterState = 4 ∧
      s.keepsEntries t n [K.RasterEnable, K.RasterState] ∧ s.keepsBytes t n ∧ s.keepsOthers t n)) ∧
  (∀ (s : State) (n : CellNo) (w : When), s.live n → (s.cell n).get K.RasterState = 1 →
    Completes (.rasterFirstFrame n w) s (fun t =>
      (t.cell n).frm = (s.cell n).shadows.1 ∧
      (t.cell n).get K.RasterState = (if fval (s.cell n).shadows.1 K.DsiMode = 2 then 5 else 2) ∧
      (t.cell n).get K.ApplyCount = wrapAdd 32 ((s.cell n).get K.ApplyCount) 1 ∧ s.keepsBytes t n ∧ s.keepsOthers t n)) ∧
  (∀ (s : State) (n : CellNo) (w : When), s.live n → (s.cell n).get K.RasterState = 4 → (s.cell n).ras.active = false →
    Completes (.rasterStopped n w) s (fun t =>
      (t.cell n).get K.RasterState = 0 ∧ (t.cell n).get K.FrameRateApplied = 0 ∧ (t.cell n).get (K.InScanLength + 0) = 0 ∧
      (t.cell n).get (K.InScanLength + 1) = 0 ∧ (t.cell n).get (K.InScanLength + 2) = 0 ∧ (t.cell n).ras.link.lanes = .stop ∧
      (t.cell n).mem.tornNext = false ∧ s.keepsBytes t n ∧ s.keepsOthers t n)) ∧
  (∀ (s : State) (n : CellNo) (w : When) (p : Port), s.writable n p → (s.cell n).rasterCheck (s.cell n).shadows.1 = 0 →
    Completes (.rasterCommit n w p) s (fun t =>
      t.heard p = 0 ∧ (t.cell n).get K.RasterCommitPending = 1 ∧ (t.cell n).get K.RasterConfigError = 0 ∧
      s.keepsEntries t n [K.RasterConfigError, K.CommitLate, K.CommitLateCount, K.RasterCommitPending] ∧ s.keepsBytes t n ∧
      s.keepsOthers t n)) ∧
  (∀ (s : State) (n : CellNo) (w : When) (p : Port) (data : List Byte), s.writable n p → data.length ≤ 1024 →
    Completes (.dsiStartupWrite n w p data) s (fun t =>
      (startupOk 1024 data = true → t.heard p = 0 ∧ (t.cell n).dom K.DsiStartup [] = data) ∧
      (startupOk 1024 data = false → t.heard p = 0x06090030 ∧ (t.cell n).doms = (s.cell n).doms) ∧ s.keepsEntries t n [] ∧
      s.keepsBytes t n ∧ s.keepsOthers t n)) ∧
  (∀ (s : State) (n : CellNo) (w : When) (rising : Bool), s.live n → (s.cell n).frame K.DsiMode = 2 →
    (s.cell n).get K.RasterState = 5 → rising = ((s.cell n).frame K.TePolarity == 0) → (s.cell n).ras.teNeed = 1 →
    sizeClass (s.cell n).frm = 0 →
    Completes (.teEdge n w rising) s (fun t =>
      (t.cell n).get K.RasterState = 2 ∧ (t.cell n).get K.FrameCount = wrapAdd 64 ((s.cell n).get K.FrameCount) 1 ∧
      (t.cell n).ras.active = true ∧ s.keepsBytes t n ∧ s.keepsOthers t n)) ∧
  (∀ (s : State) (n : CellNo) (w : When) (rising : Bool), s.live n → (s.cell n).frame K.DsiMode = 2 →
    (s.cell n).get K.RasterState = 2 → rising = ((s.cell n).frame K.TePolarity == 0) →
    Completes (.teEdge n w rising) s (fun t =>
      (t.cell n).get K.TeSkippedCount = wrapAdd 32 ((s.cell n).get K.TeSkippedCount) 1 ∧ (t.cell n).ras = (s.cell n).ras ∧
      s.keepsEntries t n [K.TeSkippedCount] ∧ s.keepsBytes t n ∧ s.keepsOthers t n)) ∧
  (∀ (s : State) (n : CellNo) (w : When) (x : Nat), s.live n → (s.cell n).ras.endNs = some x → (s.cell n).get K.RasterState = 5 →
    (s.cell n).ras.teNeed = 1 → (s.cell n).frame K.TeTimeout ≠ 0 → x + (s.cell n).frame K.TeTimeout * 1000000 ≤ w.ns →
    Completes (.teTimeout n w) s (fun t =>
      (t.cell n).get K.TeMissingCount = wrapAdd 32 ((s.cell n).get K.TeMissingCount) 1 ∧ (t.cell n).get K.RasterState = 2 ∧
      (t.cell n).ras.active = true ∧ s.keepsBytes t n ∧ s.keepsOthers t n)) ∧
  (∀ (s : State) (n : CellNo) (w : When), s.live n → (s.cell n).ras.cursorDue = true →
    Completes (.cursorFetchDone n w) s (fun t =>
      (t.cell n).get (K.InScanLength + 2) = 0 ∧ (t.cell n).get K.RetireCount = wrapAdd 32 ((s.cell n).get K.RetireCount) 1 ∧
      (t.cell n).get K.RetiredBase = ((s.cell n).scanRange 2).base ∧ (t.cell n).get K.RetiredLayer = 2 ∧
      t.pulsed n 16 (s.cellAt n w).retireCc ∧ (t.cell n).ras.cursorDue = false ∧ s.keepsBytes t n ∧ s.keepsOthers t n))

/-- R329, R335, R339, R342: frames, lines and blanking: a frame starts and counts; a line is composed of its layers and sent, with what of
its overlay has not come counted, and the next one follows; blanking starts behind the last line, where a pending commit of the small class
applies, behind the last frame before a stop too; the blank frame of a mode switch ends; the largest class takes its shadows at their
instant.  The model's choice: the packets that carry a line (log entry 180). -/
def Obligations.FramesComplete : Prop :=
  (∀ (s : State) (n : CellNo) (w : When), s.live n → (s.cell n).get K.RasterState = 2 → (s.cell n).frame K.DsiMode ≠ 2 →
    (s.cell n).ras.active = false →
    Completes (.frameStart n w) s (fun t =>
      (t.cell n).get K.FrameCount = wrapAdd 64 ((s.cell n).get K.FrameCount) 1 ∧ (t.cell n).ras.active = true ∧
      (t.cell n).ras.line = 0 ∧ (t.cell n).ras.link.lanes = .frame ∧ s.keepsBytes t n ∧ s.keepsOthers t n)) ∧
  (∀ (s : State) (n : CellNo) (w : When) (flips : List (Nat × Nat)), s.live n → (s.cell n).ras.active = true →
    (s.cell n).ras.line < (s.cell n).frame K.Vactive →
    Completes (.lineStart n w flips) s (fun t =>
      (t.cell n).ras.line = (s.cell n).ras.line + 1 ∧ (t.cell n).ras.active = true ∧
      (t.cell n).ras.pixels = (List.range ((s.cell n).frame K.Hactive)).map (s.shown n w flips (s.cell n).ras.line) ∧
      (t.cell n).ras.link.sent = (s.cell n).linePackets (t.cell n).ras.pixels (s.cell n).ras.line ∧
      ((s.cell n).frame K.OverlayEnable ≠ 0 →
        ((s.cell n).lineStooks (s.cell n).ras.line).length < ceilDiv ((s.cell n).frame K.Hactive) 4 →
        (t.cell n).get K.UnderrunCount = wrapAdd 32 ((s.cell n).get K.UnderrunCount) 1) ∧ s.keepsBytesBut t n .accumulator ∧
      s.keepsOthers t n)) ∧
  (∀ (s : State) (n : CellNo) (w : When), s.live n → (s.cell n).ras.active = true →
    (s.cell n).frame K.Vactive ≤ (s.cell n).ras.line → (s.cell n).ras.taken = none →
    (sizeClass (s.cell n).frm ≠ 0 ∨ (s.cell n).get K.RasterCommitPending = 0) →
    Completes (.vblankStart n w) s (fun t =>
      (t.cell n).ras.active = false ∧ t.pulsed n 17 w.cc ∧ (t.cell n).ras.endNs = some w.ns ∧
      s.keepsEntries t n [K.EventCount + 17, K.RasterState] ∧ s.keepsBytes t n ∧ s.keepsOthers t n)) ∧
  (∀ (s : State) (n : CellNo) (w : When), s.live n → (s.cell n).ras.active = true →
    (s.cell n).frame K.Vactive ≤ (s.cell n).ras.line → (s.cell n).get K.RasterState = 2 → (s.cell n).ras.taken = none →
    sizeClass (s.cell n).frm = 0 → (s.cell n).get K.RasterCommitPending = 1 →
    timingOf (s.cell n).shadows.1 = timingOf (s.cell n).frm →
    Completes (.vblankStart n w) s (fun t =>
      (t.cell n).ras.active = false ∧ (t.cell n).frm = (s.cell n).shadows.1 ∧
      (t.cell n).get K.ApplyCount = wrapAdd 32 ((s.cell n).get K.ApplyCount) 1 ∧
      (t.cell n).get K.RasterCommitPending = b2n (s.cell n).ras.second ∧ t.pulsed n 18 w.cc ∧ s.keepsBytes t n ∧ s.keepsOthers t n)) ∧
  (∀ (s : State) (n : CellNo) (w : When), s.live n → (s.cell n).ras.active = true →
    (s.cell n).frame K.Vactive ≤ (s.cell n).ras.line → (s.cell n).get K.RasterState = 4 → (s.cell n).ras.taken = none →
    sizeClass (s.cell n).frm = 0 → (s.cell n).get K.RasterCommitPending = 1 →
    Completes (.vblankStart n w) s (fun t =>
      (t.cell n).ras.active = false ∧ (t.cell n).ras.ending = true ∧ (t.cell n).frm = (s.cell n).shadows.1 ∧
      (t.cell n).get K.ApplyCount = wrapAdd 32 ((s.cell n).get K.ApplyCount) 1 ∧
      (t.cell n).get K.RasterCommitPending = b2n (s.cell n).ras.second ∧ (t.cell n).get K.RasterState = 4 ∧ t.pulsed n 18 w.cc ∧
      s.keepsBytes t n ∧ s.keepsOthers t n)) ∧
  (∀ (s : State) (n : CellNo) (w : When) (sh : Regs × Doms), s.live n → (s.cell n).ras.active = true →
    (s.cell n).frame K.Vactive ≤ (s.cell n).ras.line → (s.cell n).get K.RasterState = 2 → (s.cell n).ras.taken = some sh →
    timingOf sh.1 = timingOf (s.cell n).frm →
    Completes (.vblankStart n w) s (fun t =>
      (t.cell n).ras.active = false ∧ (t.cell n).frm = sh.1 ∧
      (t.cell n).get K.ApplyCount = wrapAdd 32 ((s.cell n).get K.ApplyCount) 1 ∧
      (t.cell n).get K.RasterCommitPending = b2n (s.cell n).ras.second ∧ t.pulsed n 18 w.cc ∧ s.keepsBytes t n ∧ s.keepsOthers t n)) ∧
  (∀ (s : State) (n : CellNo) (w : When), s.live n → (s.cell n).get K.RasterState = 3 → (s.cell n).ras.teNeed = 0 →
    (s.cell n).ras.blankEnd ≤ w.ns →
    (s.cell n).frame K.DsiMode ≠ 2 →
    Completes (.modeSwitchEnd n w) s (fun t =>
      (t.cell n).get K.RasterState = 2 ∧ (t.cell n).get K.ModeSwitched = 1 ∧
      s.keepsEntries t n [K.RasterState, K.ModeSwitched] ∧ s.keepsBytes t n ∧ s.keepsOthers t n)) ∧
  (∀ (s : State) (n : CellNo) (w : When), s.live n → (s.cell n).ras.active = true → sizeClass (s.cell n).frm = 1 →
    (s.cell n).ras.line = (s.cell n).frame K.Vactive - (s.cell n).frame K.CommitLeadLines + 1 →
    (s.cell n).get K.RasterCommitPending = 1 → (s.cell n).ras.taken = none →
    Completes (.commitSample n w) s (fun t =>
      (t.cell n).ras.taken = some (s.cell n).shadows ∧ (t.cell n).frm = (s.cell n).frm ∧ s.keepsBytes t n ∧ s.keepsOthers t n))

/-! Cell port -/

/-- R374, R375: the states of the link: enabling begins to lock, lock and alignment lead to the exchange, Ready on both sides leads to UP
with all counters from 0; a loss of signal, a time-out or a disable leads out with its cause, and a link that may trains again. -/
def Obligations.LinkStatesComplete : Prop :=
  (∀ (s : State) (n : CellNo) (w : When) (p : Port), s.writable n p → (s.cell n).get K.PortState = 0 →
    Completes (.portEnable n w p) s (fun t =>
      t.heard p = 0 ∧ (t.cell n).get K.PortEnable = 1 ∧ (t.cell n).get K.PortState = 1 ∧
      s.keepsEntries t n [K.PortEnable, K.PortState] ∧ s.keepsBytes t n ∧ s.keepsOthers t n)) ∧
  (∀ (s : State) (n : CellNo) (w : When) (p : Port), s.writable n p → (s.cell n).get K.PortState ≠ 0 →
    Completes (.portDisable n w p) s (fun t =>
      t.heard p = 0 ∧ (t.cell n).get K.PortEnable = 0 ∧ (t.cell n).get K.PortState = 0 ∧ (t.cell n).get K.PortDownCause = 5 ∧
      s.keepsOthers t n)) ∧
  (∀ (s : State) (n : CellNo) (w : When), s.live n → (s.cell n).get K.PortState = 1 →
    Completes (.portLocked n w) s (fun t =>
      (t.cell n).get K.PortState = 2 ∧ (t.cell n).prt.since = (s.cell n).prt.since ∧ s.keepsEntries t n [K.PortState] ∧
      s.keepsBytes t n ∧ s.keepsOthers t n)) ∧
  (∀ (s : State) (n : CellNo) (w : When), s.live n → (s.cell n).get K.PortState = 2 → 64 ≤ (s.cell n).prt.linkRun →
    Completes (.portAligned n w) s (fun t =>
      (t.cell n).get K.PortState = 3 ∧ s.keepsEntries t n [K.PortState] ∧ s.keepsBytes t n ∧ s.keepsOthers t n)) ∧
  (∀ (s : State) (n : CellNo) (w : When), s.live n → (s.cell n).portReady = true → 8 ≤ (s.cell n).prt.linkRun →
    Completes (.portUp n w) s (fun t =>
      (t.cell n).get K.PortState = 4 ∧ (t.cell n).get K.PortLinkUpCount = wrapAdd 32 ((s.cell n).get K.PortLinkUpCount) 1 ∧
      (t.cell n).get K.PartnerDepths = bits (s.cell n).prt.partner 16 45 ∧ (t.cell n).prt.sent = List.replicate 16 0 ∧
      (t.cell n).prt.received = List.replicate 16 0 ∧ (t.cell n).prt.freed = List.replicate 16 0 ∧
      (t.cell n).prt.credit = List.replicate 16 0 ∧ s.keepsEntries t n [K.PortState, K.PortLinkUpCount, K.PartnerDepths] ∧
      s.keepsBytes t n ∧ s.keepsOthers t n)) ∧
  (∀ (s : State) (n : CellNo) (w : When), s.live n → (s.cell n).get K.PortState = 4 →
    Completes (.portDown n w) s (fun t =>
      (t.cell n).get K.PortState = 5 ∧ (t.cell n).get K.PortDownCause = 1 ∧ s.keepsOthers t n)) ∧
  (∀ (s : State) (n : CellNo) (w : When), s.live n → 1 ≤ (s.cell n).get K.PortState → (s.cell n).get K.PortState ≤ 3 →
    (s.cell n).prt.since + (s.cell n).get K.PortTrainTimeout * 1000000 ≤ w.ns →
    Completes (.portTrainTimeout n w) s (fun t =>
      (t.cell n).get K.PortState = 5 ∧ (t.cell n).get K.PortDownCause = 4 ∧ s.keepsEntries t n [K.PortState, K.PortDownCause] ∧
      s.keepsBytes t n ∧ s.keepsOthers t n)) ∧
  (∀ (s : State) (n : CellNo) (w : When), s.live n → (s.cell n).get K.PortState = 5 → (s.cell n).get K.PortEnable = 1 →
    (s.cell n).get K.PortAutoRetrain = 1 → (s.cell n).prt.since + (s.cell n).get K.PortRetrainDelay * 1000 ≤ w.ns →
    Completes (.portRetrainDelayExpiry n w) s (fun t =>
      (t.cell n).get K.PortState = 1 ∧ s.keepsEntries t n [K.PortState] ∧ s.keepsBytes t n ∧ s.keepsOthers t n))

/-- R370, R372, R373, R379, R380: a good flit of a link in UP brings its credit and does what its type says: data enters the receive pool of
its channel, a request pulses its line, a partner write waits for its slot, outside RUN in its pool, or is dropped beyond the capacity, and
a LINK flit takes the link down; a bad flit counts by what is wrong with it, and a partner write that is not whole is one (R383).  R374: in
training LINK flits count as a run, which another good flit ends. -/
def Obligations.ReceivedFlitsComplete : Prop :=
  (∀ (s : State) (n : CellNo) (w : When) (flit : Nat), s.live n → (s.cell n).get K.PortState = 4 → flitOk flit = true →
    flitType flit = 0 → bits flit 604 4 ≤ 8 → (s.cell n).prt.credit.length = 16 →
    Completes (.rxIdle n w flit) s (fun t =>
      numAt (t.cell n).prt.credit (bits flit 604 4) = bits flit 592 12 ∧ s.keepsEntries t n [] ∧ s.keepsBytes t n ∧
      s.keepsOthers t n)) ∧
  (∀ (s : State) (n : CellNo) (w : When) (flit : Nat) (k : Fin 8), s.live n → (s.cell n).get K.PortState = 4 →
    flitOk flit = true → flitType flit = 3 → flitTarget flit = k.val →
    flitSeq flit = numAt (s.cell n).prt.received (8 + k.val) % 32 → ((s.cell n).chan k).desc = none →
    Completes (.rxDmaData n w flit) s (fun t =>
      (t.cell n).prt.pools.get k = (s.cell n).prt.pools.get k ++ [flitStooks flit] ∧
      (t.cell n).get K.FlitsReceived = wrapAdd 64 ((s.cell n).get K.FlitsReceived) 1 ∧ s.keepsEntries t n [K.FlitsReceived] ∧
      s.keepsBytes t n ∧ s.keepsOthers t n)) ∧
  (∀ (s : State) (n : CellNo) (w : When) (flit : Nat), s.live n → (s.cell n).get K.PortState = 4 → flitOk flit = true →
    flitType flit = 4 → flitTarget flit < 4 →
    Completes (.rxRequest n w flit) s (fun t =>
      t.pulsed n (52 + flitTarget flit) w.cc ∧
      (t.cell n).get K.PartnerRequestCount = wrapAdd 64 ((s.cell n).get K.PartnerRequestCount) 1 ∧
      s.keepsEntries t n [K.FlitsReceived, K.SeqGapCount, K.PartnerRequestCount, K.EventCount + (52 + flitTarget flit)] ∧
      s.keepsBytes t n ∧ s.keepsOthers t n)) ∧
  (∀ (s : State) (n : CellNo) (w : When) (flit at' : Nat), s.live n → (s.cell n).get K.PortState = 4 → s.pwriteOf n flit at' →
    (s.cell n).get K.ClockState = 0 → at' < (s.cell n).capacity →
    Completes (.rxPwrite n w flit) s (fun t =>
      (∃ x, (t.cell n).requestsOf .partner = (s.cell n).requestsOf .partner ++ [x] ∧ x.stook = at' ∧ x.write.isSome = true) ∧
      (t.cell n).prt.writes = (s.cell n).prt.writes ++ [1] ∧ s.keepsEntries t n [K.FlitsReceived] ∧ s.keepsBytes t n ∧
      s.keepsOthers t n)) ∧
  (∀ (s : State) (n : CellNo) (w : When) (flit at' : Nat), s.live n → (s.cell n).get K.PortState = 4 → s.pwriteOf n flit at' →
    (s.cell n).get K.ClockState = 0 → (s.cell n).capacity ≤ at' →
    Completes (.rxPwrite n w flit) s (fun t =>
      (t.cell n).get K.PartnerWriteDropped = wrapAdd 32 ((s.cell n).get K.PartnerWriteDropped) 1 ∧
      (t.cell n).get K.UnmappedAccessCount = wrapAdd 32 ((s.cell n).get K.UnmappedAccessCount) 1 ∧
      (t.cell n).requestsOf .partner = (s.cell n).requestsOf .partner ∧
      s.keepsEntries t n [K.FlitsReceived, K.PartnerWriteDropped, K.UnmappedAccessCount] ∧ s.keepsBytes t n ∧ s.keepsOthers t n)) ∧
  (∀ (s : State) (n : CellNo) (w : When) (flit at' : Nat), s.live n → (s.cell n).get K.PortState = 4 → s.pwriteOf n flit at' →
    (s.cell n).get K.ClockState ≠ 0 →
    Completes (.rxPwrite n w flit) s (fun t =>
      (t.cell n).prt.heldWrites = (s.cell n).prt.heldWrites ++ [(at', [flitSlot flit 1])] ∧
      (t.cell n).requestsOf .partner = (s.cell n).requestsOf .partner ∧ s.keepsEntries t n [K.FlitsReceived] ∧ s.keepsBytes t n ∧
      s.keepsOthers t n)) ∧
  (∀ (s : State) (n : CellNo) (w : When) (flit : Nat), s.live n → (s.cell n).get K.PortState = 4 → flitOk flit = true →
    flitType flit = 7 →
    Completes (.rxLink n w flit) s (fun t =>
      (t.cell n).get K.PortState = 5 ∧ (t.cell n).get K.PortDownCause = 3 ∧ s.keepsOthers t n)) ∧
  (∀ (s : State) (n : CellNo) (w : When) (flit : Nat), s.live n → (s.cell n).get K.PortState = 2 → flitOk flit = true →
    flitType flit = 7 →
    Completes (.rxLink n w flit) s (fun t =>
      (t.cell n).prt.linkRun = (s.cell n).prt.linkRun + 1 ∧ s.keepsEntries t n [K.FlitsReceived] ∧ s.keepsBytes t n ∧
      s.keepsOthers t n)) ∧
  (∀ (s : State) (n : CellNo) (w : When) (flit : Nat), s.live n →
    ((s.cell n).get K.PortState = 2 ∨ (s.cell n).get K.PortState = 3) → flitOk flit = true → flitType flit = 0 →
    Completes (.rxIdle n w flit) s (fun t =>
      (t.cell n).prt.linkRun = 0 ∧ (t.cell n).prt.credit = (s.cell n).prt.credit ∧ s.keepsEntries t n [] ∧ s.keepsBytes t n ∧
      s.keepsOthers t n)) ∧
  (∀ (s : State) (n : CellNo) (w : When) (flit : Nat), s.live n → (s.cell n).get K.PortState = 4 → flitOk flit = true →
    flitType flit = 5 → pwriteFits flit = false →
    Completes (.rxPwrite n w flit) s (fun t =>
      (t.cell n).get K.BadFlitCount = wrapAdd 32 ((s.cell n).get K.BadFlitCount) 1 ∧
      (t.cell n).prt.credit = (s.cell n).prt.credit ∧ s.keepsEntries t n [K.BadFlitCount] ∧ s.keepsBytes t n ∧ s.keepsOthers t n)) ∧
  (∀ (s : State) (n : CellNo) (w : When) (flit : Nat), s.live n → (s.cell n).get K.PortState = 4 → flitOk flit = false →
    (s.cell n).prt.badRun + 1 < 16 →
    Completes (.rxBadFlit n w flit) s (fun t =>
      (t.cell n).get K.CrcErrorCount = wrapAdd 32 ((s.cell n).get K.CrcErrorCount) 1 ∧
      (t.cell n).prt.badRun = (s.cell n).prt.badRun + 1 ∧ s.keepsEntries t n [K.CrcErrorCount] ∧ s.keepsBytes t n ∧
      s.keepsOthers t n)) ∧
  (∀ (s : State) (n : CellNo) (w : When) (flit : Nat), s.live n → (s.cell n).get K.PortState = 4 → flitOk flit = false →
    16 ≤ (s.cell n).prt.badRun + 1 →
    Completes (.rxBadFlit n w flit) s (fun t =>
      (t.cell n).get K.PortState = 5 ∧ (t.cell n).get K.PortDownCause = 2 ∧ s.keepsOthers t n)) ∧
  (∀ (s : State) (n : CellNo) (w : When) (flit : Nat), s.live n → (s.cell n).get K.PortState = 4 → flitOk flit = true →
    flitAllowed flit = false →
    Completes (.rxBadFlit n w flit) s (fun t =>
      (t.cell n).get K.BadFlitCount = wrapAdd 32 ((s.cell n).get K.BadFlitCount) 1 ∧ s.keepsEntries t n [K.BadFlitCount] ∧
      s.keepsBytes t n ∧ s.keepsOthers t n))

/-- R372, R374, R376, R377: a transmit slot in UP sends what comes first in transmit order: a flit that reports a gap, a LIVE flit of the
lowest stream that has one due and credit, a PLAYBACK flit, a DMA_DATA flit of the oldest channel, and IDLE when nothing is due; in training
it sends a LINK flit.  The oldest staged stook goes out after 16 cc in a shorter flit when no item goes before it.  R378: a
playback stream starts at a pulse, ends when every stook has been read, and stops. -/
def Obligations.TransmitAndPlaybackComplete : Prop :=
  (∀ (s : State) (n : CellNo) (w : When) (flips : List (Nat × Nat)) (p first lost : Nat) (gs : List (Nat × Nat × Nat)), s.live n →
    (s.cell n).get K.PortState = 4 → (s.cell n).prt.gaps = (p, first, lost) :: gs →
    Completes (.txFlit n w flips) s (fun t =>
      s.flitSent t n 6 p 0 0 [encodeStook (first % 2 ^ 64 + lost % 2 ^ 32 * 2 ^ 64)] ∧ (t.cell n).prt.sent = (s.cell n).prt.sent ∧
      (t.cell n).prt.gaps = gs ∧ (t.cell n).get K.FlitsSent = wrapAdd 64 ((s.cell n).get K.FlitsSent) 1 ∧
      s.keepsEntries t n [K.FlitsSent] ∧ s.keepsBytes t n ∧ s.keepsOthers t n)) ∧
  (∀ (s : State) (n : CellNo) (w : When) (flips : List (Nat × Nat)), s.live n → (s.cell n).get K.PortState = 4 →
    (s.cell n).prt.gaps = [] → s.noLive n w → s.noPlay n → ((s.cell n).prt.outbound = [] ∨ (s.cell n).hasCredit 8 = false) →
    Completes (.txFlit n w flips) s (fun t =>
      s.flitSent t n 0 0 0 0 [] ∧ (t.cell n).prt.sent = (s.cell n).prt.sent ∧ s.keepsEntries t n [] ∧ s.keepsBytes t n ∧
      s.keepsOthers t n)) ∧
  (∀ (s : State) (n : CellNo) (w : When) (flips : List (Nat × Nat)), s.live n → 1 ≤ (s.cell n).get K.PortState →
    (s.cell n).get K.PortState ≤ 3 → (s.cell n).get K.PortTestPattern = 0 →
    Completes (.txFlit n w flips) s (fun t =>
      (t.cell n).prt.lastFlit = buildFlit (headerOf 7 0 0 0) [encodeStook (s.cell n).linkPayload] 0 ∧
      s.keepsEntries t n [K.FlitsSent] ∧ s.keepsBytes t n ∧ s.keepsOthers t n)) ∧
  (∀ (s : State) (n : CellNo) (w : When) (flips : List (Nat × Nat)) (p : Fin 4), s.live n → (s.cell n).get K.PortState = 4 →
    (s.cellAt n w).liveFirst p = true → (s.cellAt n w).liveDue p = true → (s.cell n).hasCredit p.val = true →
    Completes (.txFlit n w flips) s (fun t => s.liveSent t n w flips p ∧ s.keepsBytes t n ∧ s.keepsOthers t n)) ∧
  (∀ (s : State) (n : CellNo) (w : When) (flips : List (Nat × Nat)) (p : Fin 4), s.live n → (s.cell n).get K.PortState = 4 →
    (s.cell n).prt.gaps = [] → s.noLive n w → (∀ q, q < p → ((s.cell n).playDue q && (s.cell n).hasCredit (4 + q.val)) = false) →
    (s.cell n).playDue p = true → (s.cell n).hasCredit (4 + p.val) = true →
    Completes (.txFlit n w flips) s (fun t =>
      s.flitSent t n 2 p.val ((((s.cell n).playOf p).buffer.take 4).length - 1) (numAt (s.cell n).prt.sent (4 + p.val) % 32)
        (((s.cell n).playOf p).buffer.take 4) ∧ s.poolSent t n (4 + p.val) ∧
      ((t.cell n).playOf p).buffer = ((s.cell n).playOf p).buffer.drop 4 ∧
      (t.cell n).get (portKey K.PlaybackStooksSent p) =
        wrapAdd 64 ((s.cell n).get (portKey K.PlaybackStooksSent p)) (((s.cell n).playOf p).buffer.take 4).length ∧
      s.keepsEntries t n [K.FlitsSent, portKey K.PlaybackStooksSent p] ∧ s.keepsBytes t n ∧ s.keepsOthers t n)) ∧
  (∀ (s : State) (n : CellNo) (w : When) (flips : List (Nat × Nat)) (tag : Nat) (x : Nat) (xs : List (Nat × Nat)), s.live n →
    (s.cell n).get K.PortState = 4 → (s.cell n).prt.gaps = [] → s.noLive n w → s.noPlay n → (s.cell n).prt.outbound = (tag, x) :: xs →
    (s.cell n).hasCredit 8 = true →
    Completes (.txFlit n w flips) s (fun t =>
      s.flitSent t n 3 (tag % 8) ((outboundHead (s.cell n).prt.outbound).length - 1) (numAt (s.cell n).prt.sent 8 % 32)
        ((outboundHead (s.cell n).prt.outbound).map (·.2)) ∧ s.poolSent t n 8 ∧
      (t.cell n).prt.outbound = (s.cell n).prt.outbound.drop (outboundHead (s.cell n).prt.outbound).length ∧
      s.keepsEntries t n [K.FlitsSent] ∧ s.keepsBytes t n ∧ s.keepsOthers t n)) ∧
  (∀ (s : State) (n : CellNo) (w : When) (p : Fin 4) (flips : List (Nat × Nat)) (l : LiveStook) (ls : List LiveStook), s.live n →
    (s.cell n).get K.PortState = 4 → ((s.cell n).prt.live.get p).staged = l :: ls → l.cc + 16 ≤ w.cc → ls.length < 3 →
    (s.cellAt n w).liveFirst p = true → (s.cell n).hasCredit p.val = true →
    Completes (.liveFlitTimeout n w p flips) s (fun t =>
      s.liveSent t n w flips p ∧ ((t.cell n).prt.live.get p).staged = [] ∧
      s.keepsBytes t n ∧ s.keepsOthers t n)) ∧
  (∀ (s : State) (n : CellNo) (w : When) (p : Fin 4), s.live n → (s.cell n).get (portKey K.PlaybackState p) = 0 →
    (s.cell n).get (portKey K.PlaybackStartLine p) < 64 →
    s.pulsed n ((s.cell n).get (portKey K.PlaybackStartLine p)) (w.cc - 1) → 1 ≤ w.cc →
    Completes (.playbackStart n w p) s (fun t =>
      (t.cell n).get (portKey K.PlaybackState p) = 1 ∧ ((t.cell n).playOf p).asked = 0 ∧
      s.keepsEntries t n [portKey K.PlaybackState p] ∧ s.keepsBytes t n ∧ s.keepsOthers t n)) ∧
  (∀ (s : State) (n : CellNo) (w : When) (p : Port) (k : Fin 4), s.writable n p → (s.cell n).get (portKey K.PlaybackState k) ≠ 0 →
    Completes (.playbackStop n w p k) s (fun t =>
      t.heard p = 0 ∧ ((t.cell n).playOf k).discard = ((s.cell n).playOf k).outstanding ∧
      (((s.cell n).playOf k).outstanding = 0 → (t.cell n).get (portKey K.PlaybackState k) = 0) ∧
      s.keepsEntries t n [portKey K.PlaybackState k] ∧ s.keepsBytes t n ∧ s.keepsOthers t n)) ∧
  (∀ (s : State) (n : CellNo) (w : When) (p : Fin 4), s.live n → (s.cell n).get (portKey K.PlaybackState p) ≠ 0 →
    ((s.cell n).playOf p).discard = 0 → (s.cell n).get (portKey K.PlaybackStooks p) ≤ ((s.cell n).playOf p).asked →
    Completes (.playbackEnd n w p) s (fun t =>
      ((s.cell n).get (portKey K.PlaybackLoop p) ≠ 0 → ((t.cell n).playOf p).asked = 0 ∧
        (t.cell n).get (portKey K.PlaybackState p) = (s.cell n).get (portKey K.PlaybackState p)) ∧
      ((s.cell n).get (portKey K.PlaybackLoop p) = 0 → ((s.cell n).playOf p).outstanding = 0 →
        (t.cell n).get (portKey K.PlaybackState p) = 0) ∧
      s.keepsEntries t n [portKey K.PlaybackState p] ∧ s.keepsBytes t n ∧ s.keepsOthers t n))

/-! Pattern engine -/

/-- R398 to R400: a start of an engine that does not run, with a program that passes its check, begins at instruction 0, whether a port or
a line starts it; a program that fails records its first failure; a stop halts with cause 2, from the first boundary emitted after its cc.
The model's choice: HaltCause and the other status entries restart with the engine (log entry 85). -/
def Obligations.PatternControlCompletes : Prop :=
  (∀ (s : State) (n : CellNo) (w : When) (p : Port), s.writable n p → (s.cell n).patRunning = false → patRefused s.glob n = false →
    (s.cell n).patCheck = 0 →
    Completes (.patternStart n w p) s (fun t =>
      t.heard p = 0 ∧ (t.cell n).get K.PatternState = 1 ∧ (t.cell n).pat.pc = 0 ∧ (t.cell n).get K.HaltCause = 0 ∧
      s.keepsBytes t n ∧ s.keepsOthers t n)) ∧
  (∀ (s : State) (n : CellNo) (w : When) (p : Port), s.writable n p → (s.cell n).patRunning = false → patRefused s.glob n = false →
    (s.cell n).patCheck ≠ 0 →
    Completes (.patternStart n w p) s (fun t =>
      t.heard p = 0x06090030 ∧ (t.cell n).get K.PatternConfigError = (s.cell n).patCheck ∧
      s.keepsEntries t n [K.PatternConfigError] ∧ s.keepsBytes t n ∧ s.keepsOthers t n)) ∧
  (∀ (s : State) (n : CellNo) (w : When) (p : Port), s.writable n p →
    ((s.cell n).patRunning = true ∨ patRefused s.glob n = true) →
    Completes (.patternStart n w p) s (fun t =>
      t.heard p = 0x08000022 ∧ s.keepsEntries t n [] ∧ s.keepsBytes t n ∧ s.keepsOthers t n)) ∧
  (∀ (s : State) (n : CellNo) (w : When), s.live n → s.pulsed n ((s.cell n).get K.PatternStartLine) (w.cc - 1) → 1 ≤ w.cc →
    (s.cell n).patRunning = false → patRefused s.glob n = false → (s.cell n).patCheck = 0 →
    Completes (.patternStartPulse n w) s (fun t =>
      (t.cell n).get K.PatternState = 1 ∧ (t.cell n).pat.pc = 0 ∧ (t.cell n).get K.HaltCause = 0 ∧
      s.keepsBytes t n ∧ s.keepsOthers t n)) ∧
  (∀ (s : State) (n : CellNo) (w : When) (p : Port), s.writable n p → (s.cell n).patRunning = true →
    Completes (.patternStop n w p) s (fun t =>
      t.heard p = 0 ∧ (t.cell n).get K.PatternState = 4 ∧ (t.cell n).get K.HaltCause = 2 ∧
      (t.cell n).patWord (boundaryOf (w.cc + 1)) = (s.cell n).get K.IdleValue ∧ s.keepsBytes t n ∧ s.keepsOthers t n)) ∧
  (∀ (s : State) (n : CellNo) (w : When) (p : Port), s.writable n p → (s.cell n).patRunning = false →
    Completes (.patternStop n w p) s (fun t =>
      t.heard p = 0 ∧ s.keepsEntries t n [] ∧ s.keepsBytes t n ∧ s.keepsOthers t n))

/-- R391 to R394: where the output reaches an instruction in this cc, at boundary `u`, the instruction runs: `HALT` ends with cause 1;
`PLAY` and `HOLD` take the output and the next instruction follows; `SETC` sets its counter, `LOOP` counts it down and branches unless it is
0; `EVENT` pulses its line; a wait holds until its latch is set.  The word of a `HOLD` or of a wait is on the balls from `u` on, IdleValue
after a halt (R387, R388).  The model's choice: the cc an instruction acts in (log entry 81). -/
def Obligations.InstructionsComplete : Prop :=
  (∀ (s : State) (n : CellNo) (w : When) (u v : Nat) (first : Bool), s.patAt n w u v first → opOf v = 0 →
    Completes (.halt n w) s (fun t =>
      (t.cell n).get K.PatternState = 4 ∧ (t.cell n).get K.HaltCause = 1 ∧ (t.cell n).pat.pc = (s.cell n).patPc ∧
      (t.cell n).patWord u = (s.cell n).get K.IdleValue ∧ s.keepsBytes t n ∧ s.keepsOthers t n)) ∧
  (∀ (s : State) (n : CellNo) (w : When) (u v : Nat), s.patAt n w u v false → opOf v = 1 →
    Completes (.play n w) s (fun t =>
      (t.cell n).pat.pc = ((s.cell n).patPc + 1) % 65536 ∧
      ((s.cell n).patPc < 65536 → w.cc + 3 < (u + 8 * (s.cell n).playLength v) / 2 → (t.cell n).pcShown = (s.cell n).patPc) ∧
      (∃ k st, (t.cell n).pat.out = .play u (u + 8 * (s.cell n).playLength v) k st) ∧ s.keepsBytes t n ∧ s.keepsOthers t n)) ∧
  (∀ (s : State) (n : CellNo) (w : When) (u v f : Nat) (r : Option Nat), s.patAt n w u v true → opOf v = 1 →
    (s.cell n).pat.out = .waiting (some f) r → (s.cell n).stookReady = true → w.cc = max f (r.getD 0) →
    Completes (.play n w) s (fun t =>
      (t.cell n).pat.pc = ((s.cell n).patPc + 1) % 65536 ∧ (t.cell n).get K.LastStartSample = 64 * u ∧
      (∃ k st, (t.cell n).pat.out = .play u (u + 8 * (s.cell n).playLength v) k st) ∧ s.keepsBytes t n ∧ s.keepsOthers t n)) ∧
  (∀ (s : State) (n : CellNo) (w : When) (u v : Nat) (first : Bool), s.patAt n w u v first → opOf v = 2 →
    (s.cellAt n w).onTime first = true →
    Completes (.hold n w) s (fun t =>
      (t.cell n).pat.pc = ((s.cell n).patPc + 1) % 65536 ∧
      (t.cell n).pat.out = .word (fieldB v) u (some (u + fieldC v)) ∧ (t.cell n).patWord u = fieldB v ∧ s.keepsBytes t n ∧
      s.keepsOthers t n)) ∧
  (∀ (s : State) (n : CellNo) (w : When) (u v : Nat) (first : Bool), s.patAt n w u v first → opOf v = 3 →
    Completes (.setc n w) s (fun t =>
      (t.cell n).pat.pc = ((s.cell n).patPc + 1) % 65536 ∧
      (t.cell n).pat.ctr = setAt (s.cell n).pat.ctr (fieldA v) (fieldC v) ∧ s.keepsBytes t n ∧ s.keepsOthers t n)) ∧
  (∀ (s : State) (n : CellNo) (w : When) (u v k : Nat) (first : Bool), s.patAt n w u v first → opOf v = 4 →
    (s.cell n).pat.ctr[fieldA v]? = some k → 0 < k → k < 2 ^ 32 →
    Completes (.loop n w) s (fun t =>
      (t.cell n).pat.ctr = setAt (s.cell n).pat.ctr (fieldA v) (k - 1) ∧
      (t.cell n).pat.pc = (if k = 1 then (s.cell n).patPc + 1 else fieldB v) % 65536 ∧ s.keepsBytes t n ∧
      s.keepsOthers t n)) ∧
  (∀ (s : State) (n : CellNo) (w : When) (u v : Nat) (first : Bool), s.patAt n w u v first → opOf v = 8 → fieldA v ≤ 1 →
    Completes (.event n w) s (fun t =>
      t.pulsed n (38 + fieldA v) w.cc ∧ (t.cell n).pat.pc = ((s.cell n).patPc + 1) % 65536 ∧ s.keepsBytes t n ∧
      s.keepsOthers t n)) ∧
  (∀ (s : State) (n : CellNo) (w : When) (u v : Nat) (first : Bool), s.patAt n w u v first → opOf v = 6 →
    (s.cellAt n w).onTime first = true → bit (fieldC v) 0 = false → (s.cellAt n w).latched (fieldA v) = false →
    Completes (.waitTrig n w) s (fun t =>
      (t.cell n).get K.PatternState = 2 ∧ (t.cell n).patWord u = fieldB v ∧ s.keepsBytes t n ∧ s.keepsOthers t n)) ∧
  (∀ (s : State) (n : CellNo) (w : When) (u v : Nat) (first : Bool), s.patAt n w u v first → opOf v = 6 →
    (s.cellAt n w).onTime first = true → bit (fieldC v) 0 = false → (s.cellAt n w).latched (fieldA v) = true →
    Completes (.waitTrig n w) s (fun t =>
      (t.cell n).get K.PatternState = 1 ∧ (t.cell n).pat.pc = ((s.cell n).patPc + 1) % 65536 ∧ s.keepsBytes t n ∧
      s.keepsOthers t n)) ∧
  (∀ (s : State) (n : CellNo) (w : When) (u v : Nat) (first : Bool), s.patAt n w u v first → opOf v = 7 →
    (s.cellAt n w).onTime first = true →
    Completes (.waitTl n w) s (fun t =>
      (t.cell n).get K.PatternState = 3 ∧ (t.cell n).patWord u = fieldB v ∧ s.keepsBytes t n ∧ s.keepsOthers t n))

/-- R395: a branch whose condition holds goes to its target, and counts when the condition is not `always`; another passes on.  R393: a
pulse on the awaited line ends a wait.  R394: the instance that is resolved now ends the wait that stands at its boundary, or counts as
unmatched; a second release of its tag at its boundary does nothing; its line pulses in its own cc, which takes it into the LastEvent
entries (R61, R76).  R396: a stook of the prefetch that comes back enters its buffer.  The model's choice: the cc in which a release acts,
and that one without a wait counts (log entry 84). -/
def Obligations.BranchesAndReleasesComplete : Prop :=
  (∀ (s : State) (n : CellNo) (w : When) (u v word : Nat) (first : Bool), s.patAt n w u v first → opOf v = 5 → fieldA v = 0 →
    Completes (.branch n w word) s (fun t =>
      (t.cell n).pat.pc = fieldB v % 65536 ∧ (t.cell n).get K.BranchTakenCount = (s.cell n).get K.BranchTakenCount ∧
      s.keepsBytes t n ∧ s.keepsOthers t n)) ∧
  (∀ (s : State) (n : CellNo) (w : When) (u v word : Nat) (first : Bool), s.patAt n w u v first → opOf v = 5 → fieldA v = 1 →
    (s.cellAt n w).latched (fieldC v) = true →
    Completes (.branch n w word) s (fun t =>
      (t.cell n).pat.pc = fieldB v % 65536 ∧
      (t.cell n).get K.BranchTakenCount = wrapAdd 64 ((s.cell n).get K.BranchTakenCount) 1 ∧ s.keepsBytes t n ∧ s.keepsOthers t n)) ∧
  (∀ (s : State) (n : CellNo) (w : When) (u v word : Nat) (first : Bool), s.patAt n w u v first → opOf v = 5 → fieldA v = 3 →
    Completes (.branch n w word) s (fun t =>
      (t.cell n).pat.pc =
        (if word &&& bits (fieldC v) 0 16 = bits (fieldC v) 16 16 &&& bits (fieldC v) 0 16 then fieldB v
         else (s.cell n).patPc + 1) % 65536 ∧ s.keepsBytes t n ∧ s.keepsOthers t n)) ∧
  (∀ (s : State) (n : CellNo) (w : When), s.live n → (s.cell n).get K.PatternState = 2 → (s.cell n).clk.onFcc = true →
    (s.cellAt n w).latched (fieldA ((s.cell n).patInstr (s.cell n).patPc)) = true →
    Completes (.waitTrigDone n w) s (fun t =>
      (t.cell n).get K.PatternState = 1 ∧ (t.cell n).pat.pc = ((s.cell n).patPc + 1) % 65536 ∧ s.keepsBytes t n ∧
      s.keepsOthers t n)) ∧
  (∀ (s : State) (n : CellNo) (w : When) (idx x f : Nat) (e : EventEntry) (p b : Nat), s.releases n w idx e p b →
    (s.cell n).get K.PatternState = 3 → (s.cell n).pat.out = .word x f none → f ≤ b →
    fieldA ((s.cell n).patInstr (s.cell n).patPc) = e.param →
    Completes (.patternRelease n w idx) s (fun t =>
      (t.cell n).get K.PatternState = 1 ∧ (t.cell n).pat.pc = ((s.cell n).patPc + 1) % 65536 ∧
      (t.cell n).pat.out = .word x f (some b) ∧ (t.cell n).pat.releases.contains (e.param, b) = true ∧
      (∃ a ∈ (t.cell n).exe.ahead, a.cc = w.cc + 2 ∧ a.idx = idx ∧ a.pos = p) ∧
      (e.line ≤ 15 → t.pulsed n (20 + e.line) (w.cc + 2)) ∧ s.keepsBytes t n ∧ s.keepsOthers t n)) ∧
  (∀ (s : State) (n : CellNo) (w : When) (idx : Nat) (e : EventEntry) (p b : Nat), s.releases n w idx e p b →
    (s.cell n).get K.PatternState = 0 →
    Completes (.patternRelease n w idx) s (fun t =>
      (∃ a ∈ (t.cell n).exe.ahead, a.cc = w.cc + 2 ∧ a.idx = idx ∧ a.pos = p) ∧
      (t.cell n).get K.ReleaseUnmatched = wrapAdd 32 ((s.cell n).get K.ReleaseUnmatched) 1 ∧
      (e.line ≤ 15 → t.pulsed n (20 + e.line) (w.cc + 2)) ∧ s.keepsBytes t n ∧ s.keepsOthers t n)) ∧
  (∀ (s : State) (n : CellNo) (w : When) (flip v : Nat) (f : Flight) (fs : List Flight), s.live n →
    (s.cell n).flightsOf .pattern = f :: fs → f.data = some (v, .device) → f.tag = (s.cell n).pat.fifo.tag →
    (s.cell n).pat.fifo.due ≠ 0 → (s.cell n).pat.fifo.late = 0 → (s.cell n).pat.out.isPlay = false →
    Completes (.prefetchArrival n w flip) s (fun t =>
      ((t.cell n).flightsOf .pattern).length = fs.length ∧
      (∃ ys, (t.cell n).pat.fifo.have' = (s.cell n).pat.fifo.have' ++
        ((decodeStook (v ^^^ flip % 2 ^ 144)).word, (decodeStook (decodeStook (v ^^^ flip % 2 ^ 144)).word).bad) :: ys) ∧
      s.keepsBytes t n ∧ s.keepsOthers t n))

/-! Counters, host port and dictionary -/

/-- R509: a write of a CountClear entry clears the counters of the blocks it names and no other entry; triggers decided and patterns run
in earlier cycles count before. -/
def Obligations.CountClearsComplete : Prop :=
  (∀ (s : State) (n : CellNo) (w : When) (p : Port), s.writable n p →
    Completes (.triggerCountClear n w p) s (fun t =>
      t.heard p = 0 ∧ (∀ k, countsIn 0x401 0x408 k = true → (t.cell n).get k = 0) ∧
      (∀ k, countsIn 0x401 0x408 k = false → (t.cell n).get k = (s.cellAt n w).settleArm.get k) ∧
      (∀ x a, memGet ((t.cell n).tier x) a = memGet ((s.cellAt n w).settleArm.tier x) a) ∧ s.keepsOthers t n)) ∧
  (∀ (s : State) (n : CellNo) (w : When) (p : Port), s.writable n p →
    Completes (.armCountClear n w p) s (fun t =>
      t.heard p = 0 ∧ (∀ k, (countsIn 0x501 0x501 k || countsIn 0x503 0x503 k) = true → k ≠ K.SegmentsRecorded →
        k ≠ K.TdcHitsCollected → (t.cell n).get k = 0) ∧
      (∀ k, (countsIn 0x501 0x501 k || countsIn 0x503 0x503 k) = false ∨ k = K.SegmentsRecorded ∨ k = K.TdcHitsCollected →
        (t.cell n).get k = (s.cellAt n w).settleArm.get k) ∧
      (∀ x a, memGet ((t.cell n).tier x) a = memGet ((s.cellAt n w).settleArm.tier x) a) ∧ s.keepsOthers t n)) ∧
  (∀ (s : State) (n : CellNo) (w : When) (p : Port), s.writable n p →
    Completes (.captureCountClear n w p) s (fun t =>
      let kept (k : Nat) := 0x701 ≤ k / 256 ∧ k / 256 ≤ 0x704 ∧ k % 256 ∈ [K.StooksPacked % 256, K.StooksDrained % 256,
        K.EntriesWritten % 256, K.BufferFill % 256, K.BufferFillPeak % 256]
      t.heard p = 0 ∧ (∀ k, countsIn 0x700 0x704 k = true → ¬ kept k → (t.cell n).get k = 0) ∧
      (∀ k, countsIn 0x700 0x704 k = false ∨ kept k → (t.cell n).get k = (s.cell n).get k) ∧ s.keepsBytes t n ∧
      s.keepsOthers t n)) ∧
  (∀ (s : State) (n : CellNo) (w : When) (p : Port), s.writable n p →
    Completes (.memErrorClear n w p) s (fun t =>
      let named (k : Nat) := countsIn 0x801 0x801 k || countsIn 0x803 0x804 k || countsIn 0x806 0x809 k
      t.heard p = 0 ∧ (∀ k, named k = true → (t.cell n).get k = 0) ∧
      (∀ k, named k = false → (t.cell n).get k = (s.cell n).get k) ∧ s.keepsBytes t n ∧ s.keepsOthers t n)) ∧
  (∀ (s : State) (n : CellNo) (w : When) (p : Port), s.writable n p →
    Completes (.haywardCountClear n w p) s (fun t =>
      t.heard p = 0 ∧ (∀ k, countsIn 0xE20 0xE20 k = true → (t.cell n).get k = 0) ∧
      (∀ k, countsIn 0xE20 0xE20 k = false → (t.cell n).get k = (s.cell n).get k) ∧ s.keepsBytes t n ∧ s.keepsOthers t n)) ∧
  (∀ (s : State) (n : CellNo) (w : When) (p : Port), s.writable n p →
    Completes (.accCountClear n w p) s (fun t =>
      t.heard p = 0 ∧ (∀ k, countsIn 0x902 0x905 k = true → (t.cell n).get k = 0) ∧
      (∀ k, countsIn 0x902 0x905 k = false → (t.cell n).get k = (s.cell n).get k) ∧ s.keepsBytes t n ∧ s.keepsOthers t n)) ∧
  (∀ (s : State) (n : CellNo) (w : When) (p : Port), s.writable n p →
    Completes (.rasterCountClear n w p) s (fun t =>
      t.heard p = 0 ∧ (∀ k, countsIn 0xA02 0xA02 k = true → (t.cell n).get k = 0) ∧
      (∀ k, countsIn 0xA02 0xA02 k = false → (t.cell n).get k = (s.cell n).get k) ∧ s.keepsBytes t n ∧ s.keepsOthers t n)) ∧
  (∀ (s : State) (n : CellNo) (w : When) (p : Port), s.writable n p →
    Completes (.dmaCountClear n w p) s (fun t =>
      t.heard p = 0 ∧ (∀ k, countsIn 0xB00 0xB08 k = true → (t.cell n).get k = 0) ∧
      (∀ k, countsIn 0xB00 0xB08 k = false → (t.cell n).get k = (s.cell n).get k) ∧ s.keepsBytes t n ∧ s.keepsOthers t n)) ∧
  (∀ (s : State) (n : CellNo) (w : When) (p : Port), s.writable n p →
    Completes (.portCountClear n w p) s (fun t =>
      t.heard p = 0 ∧ (∀ k, countsIn 0xC00 0xC04 k = true → (t.cell n).get k = 0) ∧
      (∀ k, countsIn 0xC00 0xC04 k = false → (t.cell n).get k = (s.cell n).get k) ∧ s.keepsBytes t n ∧ s.keepsOthers t n)) ∧
  (∀ (s : State) (n : CellNo) (w : When) (p : Port), s.writable n p →
    Completes (.patternCountClear n w p) s (fun t =>
      t.heard p = 0 ∧ (∀ k, countsIn 0xD03 0xD03 k = true → (t.cell n).get k = 0) ∧
      (∀ k, countsIn 0xD03 0xD03 k = false → (t.cell n).get k = (s.cellAt n w).patSync.get k) ∧ s.keepsBytes t n ∧
      s.keepsOthers t n))

/-- R425, R427, R432 to R434, R493: what a trigger, a clear of IntStatus, a link change and a configuration request do, and a write of the
host area (R430), which a poisoned TLP does not make (R428).  A trigger whose vector can send sends its message; one whose message is
pending merges, one while MSI-X is off is dropped, one of a masked vector is held pending.  The model's choice: all vectors are masked at
reset, and size codes beyond the supported ones are capped (log entry 95); the configuration space holds the fields the spec names (log
entry 176). -/
def Obligations.HostPortCompletes : Prop :=
  (∀ (s : State) (w : When) (i : IntSrc) (rest : List IntSrc), s.powered → s.glob.trigs = i :: rest → s.glob.canSend = true →
    s.glob.get i.key < 128 → bit s.glob.hst.pba (s.glob.get i.key) = false → s.glob.hst.masked (s.glob.get i.key) = false →
    Completes (.msixTrigger w none) s (fun t =>
      t.glob.hst.sent = [s.glob.get i.key] ∧ t.glob.get G.IntStatus = setBit (s.glob.get G.IntStatus) i.bitOf ∧
      s.becomes t { s.glob with nowNs := w.ns, trigs := rest, hst := { s.glob.hst with sent := t.glob.hst.sent } } [G.IntStatus])) ∧
  (∀ (s : State) (w : When) (n : CellNo) (l : Fin 64), s.powered → s.pulsed n l.val (w.cc - 1) → 1 ≤ w.cc →
    s.glob.get (G.EventVector + 0x100 * n.val + l.val) < 128 → s.glob.canSend = true →
    bit s.glob.hst.pba (s.glob.get (G.EventVector + 0x100 * n.val + l.val)) = true →
    Completes (.msixTrigger w (some (n, l))) s (fun t =>
      t.glob.get G.MsiMergedCount = wrapAdd 32 (s.glob.get G.MsiMergedCount) 1 ∧
      t.glob.get G.IntStatus =
        (if l = 58 then setBit (s.glob.get G.IntStatus) (4 + n.val)
         else if l = 56 then setBit (s.glob.get G.IntStatus) (8 + n.val) else s.glob.get G.IntStatus) ∧
      s.becomes t { s.glob with nowNs := w.ns, hst := { s.glob.hst with sent := [] } } [G.MsiMergedCount, G.IntStatus])) ∧
  (∀ (s : State) (w : When) (n : CellNo) (l : Fin 64), s.powered → s.pulsed n l.val (w.cc - 1) → 1 ≤ w.cc →
    s.glob.get (G.EventVector + 0x100 * n.val + l.val) < 128 → (s.glob.hst.msixEnable = false ∨ s.glob.hst.functionMask = true) →
    Completes (.msixTrigger w (some (n, l))) s (fun t =>
      t.glob.get G.MsiDroppedCount = wrapAdd 32 (s.glob.get G.MsiDroppedCount) 1 ∧
      s.becomes t { s.glob with nowNs := w.ns, hst := { s.glob.hst with sent := [] } } [G.MsiDroppedCount, G.IntStatus])) ∧
  (∀ (s : State) (w : When) (n : CellNo) (l : Fin 64), s.powered → s.pulsed n l.val (w.cc - 1) → 1 ≤ w.cc →
    s.glob.get (G.EventVector + 0x100 * n.val + l.val) < 128 → s.glob.hst.msixEnable = true → s.glob.hst.functionMask = false →
    bit s.glob.hst.pba (s.glob.get (G.EventVector + 0x100 * n.val + l.val)) = false →
    s.glob.hst.masked (s.glob.get (G.EventVector + 0x100 * n.val + l.val)) = true →
    Completes (.msixTrigger w (some (n, l))) s (fun t =>
      t.glob.hst.pba = setBit s.glob.hst.pba (s.glob.get (G.EventVector + 0x100 * n.val + l.val)) ∧
      s.becomes t { s.glob with nowNs := w.ns, hst := { s.glob.hst with sent := [], pba := t.glob.hst.pba } } [G.IntStatus])) ∧
  (∀ (s : State) (ns : Nat) (p : Port) (v : Nat), s.writes p G.IntClear →
    Completes (.intClear ns p v) s (fun t =>
      t.heard p = 0 ∧ t.glob.get G.IntStatus = s.glob.get G.IntStatus &&& (0xFFFF ^^^ v % 65536) ∧
      s.becomes t (({ s.glob with nowNs := ns } : Glob).answer p 0) [G.IntStatus])) ∧
  (∀ (s : State) (ns : Nat) (speed : Fin 7) (width : Fin 5) (mps : Fin 3) (mrrs : Fin 6) (flit : Bool), s.powered →
    s.glob.hst.perst = false → speed ≠ 0 →
    s.glob.hst.busMaster = false →
    Completes (.pcieLinkChange ns speed width flit mps mrrs) s (fun t =>
      t.glob.get G.LinkSpeed = speed.val ∧ t.glob.get G.LinkWidth = 2 ^ width.val ∧
      t.glob.get G.FlitMode = (if flit = true ∨ speed = 6 then 1 else 0) ∧ t.glob.get G.MpsApplied = 128 * 2 ^ mps.val ∧
      t.glob.get G.MrrsApplied = 128 * 2 ^ mrrs.val ∧
      s.becomes t { s.glob with nowNs := ns, hst := { s.glob.hst with sent := [] } }
        [G.LinkSpeed, G.LinkWidth, G.FlitMode, G.MpsApplied, G.MrrsApplied])) ∧
  (∀ (s : State) (ns : Nat) (width : Fin 5) (mps : Fin 3) (mrrs : Fin 6) (flit : Bool), s.powered →
    Completes (.pcieLinkChange ns 0 width flit mps mrrs) s (fun t =>
      t.glob.get G.LinkSpeed = 0 ∧ t.glob.get G.LinkWidth = 0 ∧ t.glob.get G.FlitMode = 0 ∧
      s.becomes t { s.glob with nowNs := ns, hst := { s.glob.hst with sent := [] } } [G.LinkSpeed, G.LinkWidth, G.FlitMode])) ∧
  (∀ (s : State) (ns : Nat) (mps mrrs : Fin 8), s.powered → s.glob.get G.LinkSpeed ≠ 0 → s.glob.hst.busMaster = false →
    Completes (.configRequest ns true (.device mps mrrs)) s (fun t =>
      t.glob.hst.rrs = false ∧ t.glob.get G.MpsApplied = 128 * 2 ^ min mps.val 2 ∧
      t.glob.get G.MrrsApplied = 128 * 2 ^ min mrrs.val 5 ∧
      s.becomes t { s.glob with nowNs := ns, hst := { s.glob.hst with sent := [], rrs := false } } [G.MpsApplied, G.MrrsApplied])) ∧
  (∀ (s : State) (ns : Nat) (en mask : Bool), s.powered → s.glob.get G.LinkSpeed ≠ 0 → s.glob.hst.busMaster = false →
    Completes (.configRequest ns true (.msix en mask)) s (fun t =>
      s.becomes t { s.glob with
        nowNs := ns,
        hst := { s.glob.hst with sent := [], rrs := false, msixEnable := en, functionMask := mask } } [])) ∧
  (∀ (s : State) (ns : Nat) (r : ConfigReg), s.powered → s.glob.get G.LinkSpeed ≠ 0 → s.glob.hst.busMaster = false →
    Completes (.configRequest ns true (.read r)) s (fun t =>
      (r = .identity → bits t.glob.hst.configData 16 16 = 0x4160) ∧ (r = .classCode → t.glob.hst.configData = 0x118000) ∧
      (r = .msixControl → bits t.glob.hst.configData 0 11 = 127) ∧
      (r = .errors → bit t.glob.hst.configData 12 = s.glob.hst.poisonedTlp) ∧
      s.becomes t { s.glob with
        nowNs := ns, hst := { s.glob.hst with sent := [], rrs := false, configData := t.glob.hst.configData } } [])) ∧
  (∀ (s : State) (ns : Nat) (d3 : Bool), s.powered → s.glob.get G.LinkSpeed ≠ 0 → s.glob.hst.busMaster = false →
    Completes (.configRequest ns true (.power d3)) s (fun t =>
      s.becomes t { s.glob with nowNs := ns, hst := { s.glob.hst with sent := [], rrs := false, d3hot := d3 } } [])) ∧
  (∀ (s : State) (ns : Nat) (op : ConfigOp), s.powered → s.glob.get G.LinkSpeed ≠ 0 → ns < s.glob.hst.readyBy →
    Completes (.configRequest ns false op) s (fun t =>
      s.becomes t { s.glob with nowNs := ns, hst := { s.glob.hst with sent := [], rrs := true } } [])) ∧
  (∀ (s : State) (ns off : Nat) (b : Byte), s.powered → s.glob.get G.WideState ≠ 1 → off < 0x8000 → s.glob.canSend = false →
    Completes (.hostAreaWrite ns off [b] [true] false) s (fun t =>
      memGet t.glob.hst.wide off = b ∧ (∀ a, a ≠ off → memGet t.glob.hst.wide a = memGet s.glob.hst.wide a) ∧
      s.becomes t { s.glob with nowNs := ns, hst := { s.glob.hst with sent := [], wide := t.glob.hst.wide } } [])) ∧
  (∀ (s : State) (ns off : Nat) (b : Byte), s.powered → 0x8000 ≤ off → off < 0x8800 → s.glob.canSend = false →
    Completes (.hostAreaWrite ns off [b] [true] false) s (fun t =>
      t.glob.hst.tableByte (off - 0x8000) = b.toNat ∧
      (∀ a, a ≠ off - 0x8000 → t.glob.hst.tableByte a = s.glob.hst.tableByte a) ∧
      s.becomes t { s.glob with nowNs := ns, hst := { s.glob.hst with sent := [], table := t.glob.hst.table } } [])) ∧
  (∀ (s : State) (ns off : Nat) (data : List Byte) (en : List Bool), s.powered →
    Completes (.hostAreaWrite ns off data en true) s (fun t =>
      t.heard .pcie = 0x08000000 ∧
      s.becomes t (({ s.glob with
        nowNs := ns, hst := { s.glob.hst with sent := [], poisonedTlp := true } } : Glob).failed .pcie 0 0 0x08000000)
        [G.BarErrorCount, G.BarLastError]))

/-- R13, R14, R424, R429, R430: a write of an RW entry stores its value and is answered; one of a Swath-class entry of a cell only stages
it; one of a read-only entry fails; a read TLP to one slot of BAR0 completes with the value.  The wide access takes the block, reads the
selected value, and ends with it in the buffer, or makes its write whole at its end (R413), with its result and its interrupt source.  The
model's choice: a read TLP comes as a DICT_WRITE command, since the table has no row for it (log entry 175). -/
def Obligations.DictionaryAccessesComplete : Prop :=
  (∀ (s : State) (w : When4) (p : Port) (ix sub : Nat) (e : Entry) (data : List Byte) (en : List Bool) (kind : Tlp), p ≠ .pcie →
    s.writes p (256 * ix + sub) → s.glob.plainWrite ix sub e (leNat data) → data.length = e.ty.bytes →
    Completes (.dictWrite w p ix sub data en kind) s (fun t =>
      t.heard p = 0 ∧ t.glob.get (256 * ix + sub) = e.rng.keep (leNat data) ∧
      s.becomes t (({ s.glob with nowNs := w.ns } : Glob).answer p 0) [256 * ix + sub])) ∧
  (∀ (s : State) (w : When4) (ix sub : Nat) (e : Entry) (data : List Byte) (en : List Bool), 0x1000 ≤ ix → ix < 65536 → sub < 256 →
    s.writes .pcie (256 * ix + sub) → s.glob.plainWrite ix sub e (leNat data) → data.length = e.ty.bytes → e.ty ≠ .time96 →
    en = List.replicate data.length true → data ≠ [] →
    Completes (.dictWrite w .pcie ix sub data en .write) s (fun t =>
      t.heard .pcie = 0 ∧ t.glob.get (256 * ix + sub) = e.rng.keep (leNat data) ∧
      s.becomes t (({ s.glob with nowNs := w.ns } : Glob).answer .pcie 0) [256 * ix + sub])) ∧
  (∀ (s : State) (w : When4) (p : Port) (ix sub : Nat) (n : CellNo) (i : Nat) (e : Entry) (data : List Byte) (en : List Bool) (kind : Tlp),
    p ≠ .pcie → s.writable n p → s.glob.bootRom = false → cellOfIx ix = some (n, i) → entryAt ix sub = some e → e.acc = .rw →
    e.ty.isBlock = false → data.length = e.ty.bytes → e.cls ≠ .swath → (s.cell n).refuses (256 * i + sub) = false →
    e.valueOk (leNat data) = true → (s.cell n).depends (256 * i + sub) (leNat data) = true →
    (∀ x ∈ [K.RasterEnable, K.PortEnable, K.BgEnable, K.RecalEnable, K.SelfRefreshEnable, K.ScrubEnable, K.RetrainTempDelta],
      256 * i + sub ≠ x) →
    (∀ k : Fin 8, 256 * i + sub ≠ K.ChannelEnable + 0x100 * k.val) →
    Completes (.dictWrite w p ix sub data en kind) s (fun t =>
      t.heard p = 0 ∧ (t.cell n).get (256 * i + sub) = e.rng.keep (leNat data) ∧ s.keepsEntries t n [256 * i + sub] ∧
      s.keepsBytes t n ∧ s.keepsOthers t n)) ∧
  (∀ (s : State) (w : When4) (p : Port) (ix sub : Nat) (n : CellNo) (i : Nat) (e : Entry) (data : List Byte) (en : List Bool)
    (kind : Tlp), p ≠ .pcie → s.writable n p → s.glob.bootRom = false → cellOfIx ix = some (n, i) → entryAt ix sub = some e →
    e.acc = .rws → e.ty.isBlock = false → data.length = e.ty.bytes → e.cls = .swath → s.onTime n ⟨w.ns, (strobeOf w.at' n).cc⟩ →
    (s.cell n).refuses (256 * i + sub) = false → e.valueOk (leNat data) = true →
    (s.cell n).depends (256 * i + sub) (leNat data) = true →
    (∀ x ∈ [K.RasterEnable, K.PortEnable, K.SelfRefreshEnable], 256 * i + sub ≠ x) →
    (∀ k : Fin 8, 256 * i + sub ≠ K.ChannelEnable + 0x100 * k.val) →
    Completes (.dictWrite w p ix sub data en kind) s (fun t =>
      t.heard p = 0 ∧ (t.cell n).get (256 * i + sub) = e.rng.keep (leNat data) ∧ (∀ j, (t.cell n).swath j = (s.cell n).swath j) ∧
      s.keepsEntries t n [256 * i + sub] ∧ s.keepsBytes t n ∧ s.keepsOthers t n)) ∧
  (∀ (s : State) (w : When4) (ix sub : Nat) (n : CellNo) (i : Nat) (e : Entry) (v data : List Byte), s.takes .pcie →
    s.glob.bootRom = false → 0x1000 ≤ ix → ix < 65536 → sub < 256 → cellOfIx ix = some (n, i) → entryAt ix sub = some e → e.acc ≠ .wo →
    e.ty.isBlock = false → e.ty ≠ .time96 → (s.cellAt n ⟨w.ns, (strobeOf w.at' n).cc⟩).readDict n (256 * i + sub) e = v →
    v.length ≤ 8 → data.length = 8 →
    Completes (.dictWrite w .pcie ix sub data (List.replicate 8 true) .read) s (fun t =>
      t.heard .pcie = 0 ∧ t.glob.hst.completion = ⟨.success, v ++ zeros (8 - v.length), false⟩ ∧
      s.becomes t { ({ s.glob with nowNs := w.ns } : Glob).answer .pcie 0 with
        hst := { s.glob.hst with completion := t.glob.hst.completion } } [])) ∧
  (∀ (s : State) (w : When4) (p : Port) (ix sub : Nat) (e : Entry) (data : List Byte) (en : List Bool) (kind : Tlp), p ≠ .pcie →
    s.takes p → entryAt ix sub = some e → (e.acc = .ro ∨ e.acc = .const) →
    Completes (.dictWrite w p ix sub data en kind) s (fun t =>
      t.heard p = 0x06010002 ∧ s.becomes t (({ s.glob with nowNs := w.ns } : Glob).answer p 0x06010002) [])) ∧
  (∀ (s : State) (w : When4) (p : Port) (v : List Byte), s.writes p G.WideCommand → s.glob.get G.WideState ≠ 1 →
    s.readsInCell w (bits (s.glob.get G.WideSelect) 0 16) (bits (s.glob.get G.WideSelect) 16 8) v → v.length ≤ 32768 →
    Completes (.wideRead w p) s (fun t =>
      t.heard p = 0 ∧ t.glob.get G.WideState = 1 ∧
      s.becomes t { ({ s.glob with nowNs := w.ns } : Glob).answer p 0 with hst := { s.glob.hst with wideRun := some (.value v) } }
        [G.WideState])) ∧
  (∀ (s : State) (w : When4) (p : Port), s.writes p G.WideCommand → s.glob.get G.WideState ≠ 1 →
    Completes (.wideWrite w p) s (fun t =>
      t.heard p = 0 ∧ t.glob.get G.WideState = 1 ∧
      s.becomes t { ({ s.glob with nowNs := w.ns } : Glob).answer p 0 with
        hst := { s.glob.hst with
          wideRun := some (.write (bits (s.glob.get G.WideSelect) 0 16) (bits (s.glob.get G.WideSelect) 16 8)
            (memBytes s.glob.hst.wide 0 (s.glob.get G.WideLength))) } } [G.WideState])) ∧
  (∀ (s : State) (w : When4) (v : List Byte), s.powered → s.glob.hst.wideRun = some (.value v) →
    Completes (.wideDone w) s (fun t =>
      t.glob.get G.WideState = 2 ∧ t.glob.get G.WideAbortCode = 0 ∧ t.glob.get G.WideLength = v.length ∧
      memBytes t.glob.hst.wide 0 v.length = v ∧
      (∀ a, v.length ≤ a → memGet t.glob.hst.wide a = memGet s.glob.hst.wide a) ∧
      s.becomes t { s.glob with
        nowNs := w.ns, trigs := s.glob.trigs ++ [.wideDone],
        hst := { s.glob.hst with wideRun := none, wide := t.glob.hst.wide } } [G.WideState, G.WideAbortCode, G.WideLength])) ∧
  (∀ (s : State) (w : When4) (code : Nat), s.powered → s.glob.hst.wideRun = some (.failed code) → code ≠ 0 →
    Completes (.wideDone w) s (fun t =>
      t.glob.get G.WideState = 3 ∧ t.glob.get G.WideAbortCode = code ∧
      s.becomes t { s.glob with nowNs := w.ns, trigs := s.glob.trigs ++ [.wideDone], hst := { s.glob.hst with wideRun := none } }
        [G.WideState, G.WideAbortCode])) ∧
  (∀ (s : State) (w : When4) (ix sub k : Nat) (e : Entry) (v : List Byte), s.powered →
    s.glob.hst.wideRun = some (.write ix sub v) → 256 * ix + sub = k → s.writes .wide k → s.glob.plainWrite ix sub e (leNat v) →
    v.length = e.ty.bytes → k ∉ [G.WideState, G.WideAbortCode] →
    Completes (.wideDone w) s (fun t =>
      t.glob.get k = e.rng.keep (leNat v) ∧ t.glob.get G.WideState = 2 ∧ t.glob.get G.WideAbortCode = 0 ∧
      s.becomes t { ({ s.glob with nowNs := w.ns } : Glob).answer .wide 0 with
        trigs := s.glob.trigs ++ [.wideDone], hst := { s.glob.hst with wideRun := none } } [k, G.WideState, G.WideAbortCode]))

/-! Control ports -/

/-- R435 to R437: the requests of a transfer on the CAN FD port, their answers and the counters; a segment with another toggle aborts, as
does a transfer that waits longer than SdoTimeout; frames that are ignored count; a frame to the device whose first byte is no service is
answered with an abort (R424), and one with another identifier is not answered; the error counters and bus-off.  The model's choice: how the
error counters step (log entry 25), how a segment that does not fit ends (log entry 114), and the identifiers of frames (log entry 178). -/
def Obligations.CanTransfersComplete : Prop :=
  (∀ (s : State) (w : When4) (ix sub : Nat) (e : Entry) (data : List Byte), s.glob.canOn = true → s.glob.can.xfer = none →
    s.glob.refuses (256 * ix + sub) = false → s.glob.plainWrite ix sub e (leNat (data.take e.ty.bytes)) → e.ty.bytes ≤ data.length →
    256 * ix + sub ∉ [G.SdoTransfers, G.RxErrorCounter, G.TxErrorCounter, G.CanState] →
    Completes (.initiateDownloadExpedited w ix sub e.ty.bytes data) s (fun t =>
      t.heard .can = 0 ∧ t.glob.get (256 * ix + sub) = e.rng.keep (leNat (data.take e.ty.bytes)) ∧
      t.glob.can.answer = fdFrame (canHead 0x60 ix sub 0) ∧ t.glob.get G.SdoTransfers = wrapAdd 32 (s.glob.get G.SdoTransfers) 1 ∧
      s.becomes t { ({ s.glob with nowNs := w.ns } : Glob).answer .can 0 with can := ⟨none, t.glob.can.answer, s.glob.answerId⟩ }
        [256 * ix + sub, G.SdoTransfers, G.RxErrorCounter, G.TxErrorCounter, G.CanState])) ∧
  (∀ (s : State) (ns ix sub size : Nat), s.glob.canOn = true → s.glob.can.xfer = none →
    Completes (.initiateDownloadSegmented ns ix sub size) s (fun t =>
      s.becomes t { s.glob with
        nowNs := ns, can := ⟨some ⟨true, ix, sub, size, [], false, ns⟩, fdFrame (canHead 0x60 ix sub 0), s.glob.answerId⟩ }
        [G.RxErrorCounter, G.TxErrorCounter, G.CanState])) ∧
  (∀ (s : State) (w : When4) (x : CanXfer) (data : List Byte), s.glob.canOn = true → s.glob.can.xfer = some x → x.down = true →
    data.length = 62 → x.data.length + 62 ≤ 32768 →
    Completes (.downloadSegment w x.toggle false data) s (fun t =>
      s.becomes t { s.glob with
        nowNs := w.ns
        can := ⟨some { x with data := x.data ++ data, toggle := !x.toggle, lastNs := w.ns },
          fdFrame (segmentAnswer x.toggle), s.glob.answerId⟩ }
        [G.RxErrorCounter, G.TxErrorCounter, G.CanState])) ∧
  (∀ (s : State) (w : When4) (x : CanXfer) (e : Entry) (data : List Byte), s.glob.canOn = true → s.glob.can.xfer = some x →
    x.down = true → data ≠ [] → data.length ≤ 62 → x.data.length + data.length = x.size → x.size = e.ty.bytes →
    s.glob.refuses (256 * x.ix + x.sub) = false → s.glob.plainWrite x.ix x.sub e (leNat (x.data ++ data)) →
    256 * x.ix + x.sub ∉ [G.SdoTransfers, G.RxErrorCounter, G.TxErrorCounter, G.CanState] →
    Completes (.downloadSegment w x.toggle true data) s (fun t =>
      t.heard .can = 0 ∧ t.glob.get (256 * x.ix + x.sub) = e.rng.keep (leNat (x.data ++ data)) ∧
      t.glob.get G.SdoTransfers = wrapAdd 32 (s.glob.get G.SdoTransfers) 1 ∧
      s.becomes t { ({ s.glob with nowNs := w.ns } : Glob).answer .can 0 with
        can := ⟨none, fdFrame (segmentAnswer x.toggle), s.glob.answerId⟩ }
        [256 * x.ix + x.sub, G.SdoTransfers, G.RxErrorCounter, G.TxErrorCounter, G.CanState])) ∧
  (∀ (s : State) (w : When4) (x : CanXfer) (last : Bool) (data : List Byte), s.glob.canOn = true → s.glob.can.xfer = some x →
    x.down = true →
    Completes (.downloadSegment w (!x.toggle) last data) s (fun t =>
      t.glob.get G.SdoAborts = wrapAdd 32 (s.glob.get G.SdoAborts) 1 ∧
      s.becomes t { s.glob with nowNs := w.ns, can := ⟨none, fdFrame (canHead 0x80 x.ix x.sub 0x05030000), s.glob.answerId⟩ }
        [G.SdoAborts, G.RxErrorCounter, G.TxErrorCounter, G.CanState])) ∧
  (∀ (s : State) (w : When4) (ix sub : Nat) (v : List Byte), s.glob.canOn = true → s.glob.can.xfer = none →
    s.readsInCell w ix sub v → v.length ≤ 56 →
    Completes (.initiateUpload w ix sub) s (fun t =>
      t.glob.get G.SdoTransfers = wrapAdd 32 (s.glob.get G.SdoTransfers) 1 ∧
      s.becomes t { ({ s.glob with nowNs := w.ns } : Glob).answer .can 0 with
          can := ⟨none, fdFrame (canHead 0x43 ix sub v.length ++ v), s.glob.answerId⟩ }
        [G.SdoTransfers, G.RxErrorCounter, G.TxErrorCounter, G.CanState])) ∧
  (∀ (s : State) (w : When4) (ix sub : Nat) (v : List Byte), s.glob.canOn = true → s.glob.can.xfer = none →
    s.readsInCell w ix sub v → 56 < v.length →
    Completes (.initiateUpload w ix sub) s (fun t =>
      s.becomes t { ({ s.glob with nowNs := w.ns } : Glob).answer .can 0 with
          can := ⟨some ⟨false, ix, sub, v.length, v, false, w.ns⟩, fdFrame (canHead 0x41 ix sub v.length), s.glob.answerId⟩ }
        [G.RxErrorCounter, G.TxErrorCounter, G.CanState])) ∧
  (∀ (s : State) (ns : Nat) (x : CanXfer), s.glob.canOn = true → s.glob.can.xfer = some x → x.down = false → 62 < x.data.length →
    Completes (.uploadSegment ns x.toggle) s (fun t =>
      s.becomes t { s.glob with
        nowNs := ns
        can := ⟨some { x with data := x.data.drop 62, toggle := !x.toggle, lastNs := ns },
          fdFrame (leBytes 1 (0x10 * b2n x.toggle) ++ leBytes 1 62 ++ x.data.take 62), s.glob.answerId⟩ }
        [G.RxErrorCounter, G.TxErrorCounter, G.CanState])) ∧
  (∀ (s : State) (ns : Nat) (x : CanXfer), s.glob.canOn = true → s.glob.can.xfer = some x → x.down = false → x.data.length ≤ 62 →
    Completes (.uploadSegment ns x.toggle) s (fun t =>
      t.glob.get G.SdoTransfers = wrapAdd 32 (s.glob.get G.SdoTransfers) 1 ∧
      s.becomes t { s.glob with
        nowNs := ns
        can := ⟨none, fdFrame (leBytes 1 (0x10 * b2n x.toggle + 1) ++ leBytes 1 x.data.length ++ x.data), s.glob.answerId⟩ }
        [G.SdoTransfers, G.RxErrorCounter, G.TxErrorCounter, G.CanState])) ∧
  (∀ (s : State) (ns : Nat), s.glob.canOn = true → s.glob.can.xfer.isSome = true →
    Completes (.sdoAbort ns) s (fun t =>
      t.glob.get G.SdoAborts = wrapAdd 32 (s.glob.get G.SdoAborts) 1 ∧
      s.becomes t { s.glob with nowNs := ns, can := ⟨none, [], s.glob.can.answerId⟩ } [G.SdoAborts, G.RxErrorCounter, G.CanState])) ∧
  (∀ (s : State) (ns : Nat) (x : CanXfer), s.glob.canOn = true → s.glob.can.xfer = some x →
    x.lastNs + 1000000 * s.glob.get G.SdoTimeout < ns →
    Completes (.sdoTimeout ns) s (fun t =>
      t.glob.get G.SdoAborts = wrapAdd 32 (s.glob.get G.SdoAborts) 1 ∧
      s.becomes t { s.glob with nowNs := ns, can := ⟨none, fdFrame (canHead 0x80 x.ix x.sub 0x05040000), s.glob.answerId⟩ }
        [G.SdoAborts, G.TxErrorCounter, G.CanState])) ∧
  (∀ (s : State) (ns : Nat), s.glob.canOn = true →
    Completes (.canFrameIgnored (.ignored ns)) s (fun t =>
      t.glob.get G.IgnoredFrames = wrapAdd 32 (s.glob.get G.IgnoredFrames) 1 ∧
      (s.glob.get G.RxErrorCounter ≤ 127 → t.glob.get G.RxErrorCounter = s.glob.get G.RxErrorCounter - 1) ∧
      s.becomes t { s.glob with nowNs := ns } [G.IgnoredFrames, G.RxErrorCounter, G.CanState])) ∧
  (∀ (s : State) (ns id head ix sub : Nat), s.glob.canOn = true → id ≠ s.glob.requestId →
    Completes (.canFrameIgnored (.frame ns id head ix sub)) s (fun t =>
      s.becomes t { s.glob with nowNs := ns, can := { s.glob.can with answer := [] } } [G.RxErrorCounter, G.CanState])) ∧
  (∀ (s : State) (ns head ix sub : Nat), s.glob.canOn = true → canService head = false → s.glob.can.xfer = none →
    Completes (.canFrameIgnored (.frame ns s.glob.requestId head ix sub)) s (fun t =>
      s.becomes t { s.glob with nowNs := ns, can := ⟨none, fdFrame (canHead 0x80 ix sub 0x05040001), s.glob.answerId⟩ }
        [G.RxErrorCounter, G.TxErrorCounter, G.CanState])) ∧
  (∀ (s : State) (ns : Nat), s.glob.canOn = true → 247 < s.glob.get G.TxErrorCounter →
    Completes (.canBusError ns .transmit) s (fun t =>
      t.glob.get G.TxErrorCounter = 255 ∧ t.glob.get G.CanState = 3 ∧
      s.becomes t { s.glob with nowNs := ns } [G.TxErrorCounter, G.CanState])) ∧
  (∀ (s : State) (ns : Nat), s.powered → s.glob.get G.CanState = 3 →
    Completes (.busOffRecovery ns) s (fun t =>
      t.glob.get G.TxErrorCounter = 0 ∧ t.glob.get G.RxErrorCounter = 0 ∧ t.glob.get G.CanState = 1 ∧
      s.becomes t { s.glob with nowNs := ns } [G.TxErrorCounter, G.RxErrorCounter, G.CanState]))

/-- R438 to R440: a new HDAP request is counted, executed and its response kept: a read keeps a snapshot, a further read takes its bytes
from it, a write writes the whole value, at Offset 0 only where the entry has a fixed size, a segment joins the assembly, which lapses; the
link, the lease, ARP and echo requests, up to the frame limit.  The model's choice: which failure an Offset that is not allowed gives (log
entry 179). -/
def Obligations.EthernetCompletes : Prop :=
  (∀ (s : State) (w : When4) (q : HdapReq) (len : Nat) (v : List Byte), s.glob.ethOn = true →
    s.glob.eth.kept.find? (fun k => k.peer == q.peer && k.seq == q.seq && k.opcode == 1) = none → s.readsInCell w q.ix q.sub v →
    q.offset = 0 → 0 < len → len ≤ 1408 →
    Completes (.hdapRead w q len) s (fun t =>
      t.heard .eth = 0 ∧ t.glob.eth.snaps.head? = some ⟨q.peer, q.ix, q.sub, v⟩ ∧ t.glob.eth.snaps.length ≤ 4 ∧
      t.glob.eth.answer = hdapAnswer q 1 0 (len < v.length) (v.take len) ∧
      t.glob.eth.kept = (⟨q.peer, q.seq, 1, t.glob.eth.answer⟩ :: s.glob.eth.kept).take 16 ∧
      t.glob.get G.HdapRequests = wrapAdd 32 (s.glob.get G.HdapRequests) 1 ∧
      s.becomes t { ({ s.glob with nowNs := w.ns } : Glob).answer .eth 0 with
        eth := { s.glob.eth with snaps := t.glob.eth.snaps, kept := t.glob.eth.kept, answer := t.glob.eth.answer } }
        [G.HdapRequests])) ∧
  (∀ (s : State) (w : When4) (q : HdapReq) (len : Nat) (x : Snap), s.glob.ethOn = true →
    s.glob.eth.kept.find? (fun k => k.peer == q.peer && k.seq == q.seq && k.opcode == 1) = none → readCause q.ix q.sub = none →
    s.glob.eth.snaps.find? (fun x => x.peer == q.peer && x.ix == q.ix && x.sub == q.sub) = some x → 0 < len → len ≤ 1408 →
    (q.offset = 0 ∨ hasFixedSize q.ix q.sub = false) →
    Completes (.hdapReadContinue w q len) s (fun t =>
      t.heard .eth = 0 ∧
      t.glob.eth.answer = hdapAnswer q 1 0 (len < (x.value.drop q.offset).length) ((x.value.drop q.offset).take len) ∧
      t.glob.get G.HdapRequests = wrapAdd 32 (s.glob.get G.HdapRequests) 1 ∧
      s.becomes t { ({ s.glob with nowNs := w.ns } : Glob).answer .eth 0 with
        eth := { s.glob.eth with kept := t.glob.eth.kept, answer := t.glob.eth.answer } } [G.HdapRequests])) ∧
  (∀ (s : State) (w : When4) (q : HdapReq) (e : Entry) (data : List Byte), s.glob.ethOn = true →
    s.glob.eth.kept.find? (fun k => k.peer == q.peer && k.seq == q.seq && k.opcode == 2) = none → q.offset = 0 →
    s.glob.refuses (256 * q.ix + q.sub) = false → s.glob.plainWrite q.ix q.sub e (leNat data) → data.length = e.ty.bytes →
    256 * q.ix + q.sub ≠ G.HdapRequests →
    Completes (.hdapWrite w q data) s (fun t =>
      t.heard .eth = 0 ∧ t.glob.get (256 * q.ix + q.sub) = e.rng.keep (leNat data) ∧
      t.glob.eth.answer = hdapAnswer q 2 0 false [] ∧ t.glob.get G.HdapRequests = wrapAdd 32 (s.glob.get G.HdapRequests) 1 ∧
      s.becomes t { ({ s.glob with nowNs := w.ns } : Glob).answer .eth 0 with
        eth := { s.glob.eth with kept := t.glob.eth.kept, answer := t.glob.eth.answer } }
        [256 * q.ix + q.sub, G.HdapRequests])) ∧
  (∀ (s : State) (w : When4) (q : HdapReq) (e : Entry) (data : List Byte), s.glob.ethOn = true →
    s.glob.eth.kept.find? (fun k => k.peer == q.peer && k.seq == q.seq && k.opcode == 2) = none → q.offset ≠ 0 →
    s.glob.refuses (256 * q.ix + q.sub) = false → s.glob.plainWrite q.ix q.sub e (leNat data) → data.length = e.ty.bytes →
    Completes (.hdapWrite w q data) s (fun t =>
      t.heard .eth = 0x06090030 ∧ t.glob.eth.answer = hdapAnswer q 2 0x06090030 false [] ∧
      s.becomes t { ({ s.glob with nowNs := w.ns } : Glob).answer .eth 0x06090030 with
        eth := { s.glob.eth with kept := t.glob.eth.kept, answer := t.glob.eth.answer } } [G.HdapRequests])) ∧
  (∀ (s : State) (w : When4) (q : HdapReq) (before data : List Byte), s.glob.ethOn = true →
    s.glob.eth.kept.find? (fun k => k.peer == q.peer && k.seq == q.seq && k.opcode == 3) = none →
    ({ s.glob with nowNs := w.ns } : Glob).assembled q = some before → before.length + data.length ≤ 32768 →
    (q.offset = 0 ∨ hasFixedSize q.ix q.sub = false) →
    Completes (.hdapWriteSegment w q false data) s (fun t =>
      t.heard .eth = 0 ∧ t.glob.eth.answer = hdapAnswer q 3 0 false [] ∧
      t.glob.get G.HdapRequests = wrapAdd 32 (s.glob.get G.HdapRequests) 1 ∧
      s.becomes t { ({ s.glob with nowNs := w.ns } : Glob).answer .eth 0 with
        eth := { s.glob.eth with
          assembly := some ⟨q.peer, q.ix, q.sub, before ++ data, w.ns⟩, kept := t.glob.eth.kept, answer := t.glob.eth.answer } }
        [G.HdapRequests])) ∧
  (∀ (s : State) (ns : Nat) (a : Assembly), s.powered → s.glob.eth.assembly = some a →
    a.lastNs + 1000000 * s.glob.get G.SdoTimeout < ns →
    Completes (.hdapAssemblyTimeout ns) s (fun t =>
      s.becomes t { s.glob with nowNs := ns, eth := { s.glob.eth with assembly := none } } [])) ∧
  (∀ (s : State) (ns : Nat), s.glob.ethOn = true →
    Completes (.hdapBadDatagram ns .malformed) s (fun t =>
      t.glob.get G.HdapBadDatagrams = wrapAdd 32 (s.glob.get G.HdapBadDatagrams) 1 ∧
      s.becomes t { s.glob with nowNs := ns, eth := { s.glob.eth with answer := [] } } [G.HdapBadDatagrams])) ∧
  (∀ (s : State) (ns : Nat) (q : HdapReq) (op : Nat), s.glob.ethOn = true →
    s.glob.eth.kept.find? (fun k => k.peer == q.peer && k.seq == q.seq && k.opcode == op) = none →
    Completes (.hdapBadDatagram ns (.reserved q op)) s (fun t =>
      t.heard .eth = 0x05040001 ∧ t.glob.eth.answer = hdapAnswer q op 0x05040001 false [] ∧
      s.becomes t { ({ s.glob with nowNs := ns } : Glob).answer .eth 0x05040001 with
        eth := { s.glob.eth with kept := t.glob.eth.kept, answer := t.glob.eth.answer } } [G.HdapRequests])) ∧
  (∀ (s : State) (ns : Nat) (sp : Fin 3), s.glob.mgmt.boot = .running →
    Completes (.ethLinkChange ns sp) s (fun t =>
      t.glob.get G.EthLinkState = sp.val ∧ s.becomes t { s.glob with nowNs := ns } [G.EthLinkState])) ∧
  (∀ (s : State) (ns : Nat) (a : BitVec 32), s.takes .eth → s.glob.inForce G.IpMode = 1 →
    Completes (.dhcpLease ns (some a)) s (fun t =>
      t.glob.get G.IpApplied = a.toNat ∧ s.becomes t { s.glob with nowNs := ns } [G.IpApplied])) ∧
  (∀ (s : State) (ns : Nat) (a : BitVec 32), s.glob.ethOn = true → s.glob.get G.IpApplied = a.toNat →
    Completes (.arpRequest ns a) s (fun t =>
      s.becomes t { s.glob with nowNs := ns, eth := { s.glob.eth with sent := .arp (s.glob.inForce G.MacAddress) a.toNat } } [])) ∧
  (∀ (s : State) (ns id seq : Nat) (a src : BitVec 32) (data : List Byte), s.glob.ethOn = true → s.glob.get G.IpApplied = a.toNat →
    Completes (.icmpEchoRequest ns a src id seq data) s (fun t =>
      s.becomes t { s.glob with nowNs := ns, eth := { s.glob.eth with
        sent := if data.length ≤ 1472 then .echo src.toNat id seq data else .none } } []))

/-- R441: a request that matches a kept response is not executed again, the kept response is sent once more and HdapDuplicates increments;
the response to any other request is kept under its source address, source port, Sequence and Opcode, the 16 most recent of them.  A write
that resets the device loses what the port keeps with everything else (R489). -/
def Obligations.KeptResponses : Prop :=
  (∀ (s : State) (w : When4) (q : HdapReq) (i : Instr) (op : Nat) (k : Kept), s.glob.ethOn = true →
    ((op = 1 ∧ ((∃ len, i = .hdapRead w q len) ∨ (∃ len, i = .hdapReadContinue w q len))) ∨
     (op = 2 ∧ ∃ data, i = .hdapWrite w q data) ∨ (op = 3 ∧ ∃ last data, i = .hdapWriteSegment w q last data) ∨
     i = .hdapBadDatagram w.ns (.reserved q op)) →
    s.glob.eth.kept.find? (fun x => x.peer == q.peer && x.seq == q.seq && x.opcode == op) = some k →
    Completes i s (fun t =>
      t.glob.get G.HdapDuplicates = wrapAdd 32 (s.glob.get G.HdapDuplicates) 1 ∧
      s.becomes t { s.glob with nowNs := w.ns, eth := { s.glob.eth with answer := k.answer } } [G.HdapDuplicates])) ∧
  (∀ (s : State) (w : When4) (q : HdapReq) (i : Instr) (op : Nat), s.glob.ethOn = true →
    ((op = 1 ∧ ((∃ len, i = .hdapRead w q len) ∨ (∃ len, i = .hdapReadContinue w q len))) ∨
     (op = 2 ∧ ∃ data, i = .hdapWrite w q data ∧ ¬ (q.ix = 0x2800 ∧ q.sub = 9 ∧ data = [1])) ∨
     (op = 3 ∧ (∃ last data, i = .hdapWriteSegment w q last data) ∧ ¬ (q.ix = 0x2800 ∧ q.sub = 9)) ∨
     i = .hdapBadDatagram w.ns (.reserved q op)) →
    s.glob.eth.kept.find? (fun x => x.peer == q.peer && x.seq == q.seq && x.opcode == op) = none →
    Completes i s (fun t =>
      t.glob.eth.kept = (⟨q.peer, q.seq, op, t.glob.eth.answer⟩ :: s.glob.eth.kept).take 16))

/-! Management -/

/-- R457 to R459: the messages of the PTP clock, its timeouts and its intervals, and the pulses of PTP_PPS.  A Sync steers the clock's rate,
without a jump, by its offset, which a step of more than 1 ms takes at once; the clock goes on with its last rate while no Sync comes.  A
request of another clock is answered.  The model's choice: states, message types and the order of masters are those of IEEE 1588 (log entry
102), the gains of the servo are free (log entry 181). -/
def Obligations.PtpCompletes : Prop :=
  (∀ (s : State) (ns d every : Nat) (a : AnnounceIn), s.powered → s.glob.ptpRuns = true → d = s.glob.ptpDomain →
    s.glob.ptp.parent = none → s.glob.get G.PtpRole ≠ 1 →
    Completes (.ptpAnnounceRx ns d every a) s (fun t =>
      t.glob.get G.PtpGrandmaster = a.identity % 2 ^ 64 ∧ t.glob.get G.PtpPortState = 8 ∧
      t.glob.ptp.parent = some ⟨a.priority1, a.cls, a.accuracy, a.variance, a.priority2, a.identity % 2 ^ 64⟩ ∧
      t.glob.ptp.announceNs = ns ∧ t.glob.ptp.announceEvery = every ∧
      s.becomes t { s.glob with nowNs := ns, mgmt := { s.glob.mgmt with ptp := t.glob.ptp } } [G.PtpGrandmaster, G.PtpPortState])) ∧
  (∀ (s : State) (ns d every : Nat) (o a c f : Int), s.powered → s.glob.ptpRuns = true → d = s.glob.ptpDomain →
    (s.glob.get G.PtpPortState = 8 ∨ s.glob.get G.PtpPortState = 9) →
    (a - o - c - f - s.glob.geti 64 G.PtpMeanPathDelay).natAbs ≤ 1000000 →
    (a - o - c - f - s.glob.geti 64 G.PtpMeanPathDelay).natAbs ≤ s.glob.get G.PtpSyncThreshold → 15 ≤ s.glob.ptp.good →
    Completes (.ptpSyncRx ns d every o a c f) s (fun t =>
      t.glob.get G.PtpOffset = raw 64 (a - o - c - f - s.glob.geti 64 G.PtpMeanPathDelay) ∧ t.glob.get G.PtpPortState = 9 ∧
      t.glob.get G.PtpSynchronised = 1 ∧ t.glob.ptp.good = 16 ∧ t.glob.ptp.bad = 0 ∧ t.glob.ptp.syncNs = ns ∧
      t.glob.ptpNow = ({ s.glob with nowNs := ns } : Glob).ptpNow ∧
      t.glob.ptp.integral =
        s.glob.ptp.integral + Config.servoI * (a - o - c - f - s.glob.geti 64 G.PtpMeanPathDelay) ∧
      t.glob.ptp.freq =
        -(Config.servoP * (a - o - c - f - s.glob.geti 64 G.PtpMeanPathDelay) + t.glob.ptp.integral) ∧
      s.becomes t { s.glob with nowNs := ns, ptpOff := t.glob.ptpOff, mgmt := { s.glob.mgmt with ptp := t.glob.ptp } }
        [G.PtpOffset, G.PtpPortState, G.PtpSynchronised])) ∧
  (∀ (s : State) (ns d every : Nat) (o a c f : Int), s.powered → s.glob.ptpRuns = true → d = s.glob.ptpDomain →
    (s.glob.get G.PtpPortState = 8 ∨ s.glob.get G.PtpPortState = 9) →
    1000000 < (a - o - c - f - s.glob.geti 64 G.PtpMeanPathDelay).natAbs →
    Completes (.ptpSyncRx ns d every o a c f) s (fun t =>
      t.glob.ptpOff =
        s.glob.ptpOff + ({ s.glob with nowNs := ns } : Glob).ptpDrift - (a - o - c - f - s.glob.geti 64 G.PtpMeanPathDelay) ∧
      t.glob.ptp.freq = s.glob.ptp.freq ∧ t.glob.ptp.freqNs = ns ∧
      t.glob.log.nextSeq = wrapAdd 32 s.glob.log.nextSeq 1 ∧ t.cells = s.cells ∧
      s.keepsShared t [G.PtpOffset, G.PtpPortState, G.PtpSynchronised])) ∧
  (∀ (s : State) (ns d : Nat) (peer : Bool) (t1 t2 t3 t4 c : Int), s.powered → s.glob.ptpRuns = true → d = s.glob.ptpDomain →
    peer = s.glob.ptpPeer →
    Completes (.ptpDelayRx ns d (.response peer) t1 t2 t3 t4 c) s (fun t =>
      t.glob.get G.PtpMeanPathDelay = raw 64 (((t2 - t1) + (t4 - t3) - c) / 2) ∧
      s.becomes t { s.glob with nowNs := ns } [G.PtpMeanPathDelay])) ∧
  (∀ (s : State) (ns d : Nat) (t1 t2 t3 t4 c : Int), s.powered → s.glob.ptpRuns = true → d = s.glob.ptpDomain →
    s.glob.ptpPeer = true →
    Completes (.ptpDelayRx ns d (.request true) t1 t2 t3 t4 c) s (fun t =>
      s.becomes t { s.glob with nowNs := ns, eth := { s.glob.eth with sent := .ptp [0x3, 0xA] } } [])) ∧
  (∀ (s : State) (ns d : Nat) (t1 t2 t3 t4 c : Int), s.powered → s.glob.ptpRuns = true → d = s.glob.ptpDomain →
    s.glob.ptpPeer = false → s.glob.get G.PtpPortState = 6 →
    Completes (.ptpDelayRx ns d (.request false) t1 t2 t3 t4 c) s (fun t =>
      s.becomes t { s.glob with nowNs := ns, eth := { s.glob.eth with sent := .ptp [0x9] } } [])) ∧
  (∀ (s : State) (ns : Nat), s.powered → s.glob.ptp.parent.isSome = true →
    s.glob.ptp.syncNs + 3 * s.glob.ptp.syncEvery ≤ ns → ns < s.glob.ptp.announceNs + 3 * s.glob.ptp.announceEvery →
    Completes (.ptpMessageTimeout ns) s (fun t =>
      t.glob.get G.PtpSynchronised = 0 ∧ t.glob.get G.PtpPortState = 8 ∧
      s.becomes t { s.glob with nowNs := ns, mgmt := { s.glob.mgmt with ptp := { s.glob.ptp with good := 0, bad := 0 } } }
        [G.PtpSynchronised, G.PtpPortState])) ∧
  (∀ (s : State) (ns : Nat), s.powered → s.glob.ptp.parent.isSome = true → s.glob.get G.PtpRole ≠ 1 →
    s.glob.ptp.announceNs + 3 * s.glob.ptp.announceEvery ≤ ns →
    Completes (.ptpMessageTimeout ns) s (fun t =>
      t.glob.get G.PtpSynchronised = 0 ∧ t.glob.get G.PtpPortState = 4 ∧ t.glob.ptp.parent = none ∧
      s.becomes t { s.glob with
        nowNs := ns
        mgmt := { s.glob.mgmt with ptp := { s.glob.ptp with good := 0, bad := 0, parent := none } } }
        [G.PtpSynchronised, G.PtpPortState])) ∧
  (∀ (s : State) (ns : Nat), s.powered → s.glob.ptpRuns = true →
    Completes (.ptpSyncInterval ns) s (fun t =>
      s.becomes t { s.glob with nowNs := ns, eth := { s.glob.eth with sent := .ptp s.glob.ptpMessages } } [])) ∧
  (∀ (s : State) (ns : Nat) (x : Strobe4), s.powered → s.glob.get G.PtpEnable = 1 → s.glob.get G.PpsDirection = 0 →
    s.glob.get G.PtpSynchronised = 1 → (({ s.glob with nowNs := ns } : Glob).ptpNow + 10) % 1000000000 ≤ 20 →
    s.glob.get G.EpochPending = 0 →
    Completes (.ppsOutputEdge ns x) s (fun t =>
      s.becomes t { s.glob with
        nowNs := ns
        mgmt := { s.glob.mgmt with ptp := { s.glob.ptp with ppsEnd := some (ns + 1000000 * s.glob.get G.PpsWidth) } } } [])) ∧
  (∀ (s : State) (ns e : Nat), s.powered → s.glob.ptp.ppsEnd = some e → e ≤ ns →
    Completes (.ppsPulseEnd ns) s (fun t =>
      s.becomes t { s.glob with nowNs := ns, mgmt := { s.glob.mgmt with ptp := { s.glob.ptp with ppsEnd := none } } } []))

/-- R447 to R451, R455: the watchdog's restart and what ends it, a millisecond's sensor readings, the end of a mirror copy and of the
interval behind it.  The model's choice: what a management restart leaves (log entry 98). -/
def Obligations.ManagementCompletes : Prop :=
  (∀ (s : State) (ns : Nat), s.glob.mgmt.boot = .running → s.glob.mgmtDown = false →
    Completes (.watchdogRestart ns) s (fun t =>
      t.glob.get G.ManagementRestarts = wrapAdd 32 (s.glob.get G.ManagementRestarts) 1 ∧ t.glob.get G.PtpSynchronised = 0 ∧
      t.glob.get G.FaultCause = setBit (s.glob.get G.FaultCause) 2 ∧
      s.becomes t { s.glob with
        nowNs := ns, mgmtDown := true, can := { s.glob.can with xfer := none }
        mgmt := { s.glob.mgmt with ptp := { s.glob.mgmt.ptp with good := 0, bad := 0 } } }
        [G.ManagementRestarts, G.PtpSynchronised, G.FaultCause])) ∧
  (∀ (s : State) (ns : Nat), s.powered → s.glob.mgmtDown = true →
    Completes (.managementResume ns) s (fun t =>
      t.glob.get G.FaultCause = clrBit (s.glob.get G.FaultCause) 2 ∧
      s.logged t 0x3001 (leBytes 4 (s.glob.get G.ManagementRestarts)) ∧
      s.becomes t { s.glob with nowNs := ns, mgmtDown := false, log := t.glob.log, trigs := t.glob.trigs } [G.FaultCause])) ∧
  (∀ (s : State) (w : When4) (ts : List Int) (vs : List Nat), s.powered → ts.length = 32 → vs.length = 24 →
    (∀ x ∈ ts, -32768 ≤ x ∧ x < 32768) →
    Completes (.sensorSample w ts vs) s (fun t =>
      (∀ i, i < 32 → t.glob.get (G.TempPoint + i) = raw 16 (ts.getD i 0)) ∧
      (∀ i, i < 24 → t.glob.get (G.Voltage + i) = vs.getD i 0 % 65536) ∧ t.glob.get G.JunctionMax = raw 16 (hottest ts))) ∧
  (∀ (s : State) (w : When4) (ts : List Int) (vs : List Nat), s.powered → ts.length = 32 → vs.length = 24 →
    (∀ x ∈ ts, -32768 ≤ x ∧ x < 32768) → 1 ≤ s.glob.sens.hot → s.glob.geti 16 G.ThermGuardSet ≤ hottest ts →
    hottest ts < s.glob.geti 16 G.ThermCritical → s.glob.geti 16 G.ThermGuardRelease ≤ hottest ts →
    s.glob.get G.ThermGuardActive = 0 →
    Completes (.sensorSample w ts vs) s (fun t =>
      t.glob.get G.ThermGuardActive = 1 ∧ t.glob.get G.ThermGuardCount = wrapAdd 32 (s.glob.get G.ThermGuardCount) 1 ∧
      (∀ n, (s.cell n).held = false → (t.cell n).get K.ThermalHold = 1 ∧ (t.cell n).held = false) ∧
      (∀ n, (s.cell n).held = true → t.cell n = s.cell n))) ∧
  (∀ (s : State) (w : When4) (ts : List Int) (vs : List Nat), s.powered → ts.length = 32 → vs.length = 24 →
    (∀ x ∈ ts, -32768 ≤ x ∧ x < 32768) → 1 ≤ s.glob.sens.critical → s.glob.geti 16 G.ThermCritical ≤ hottest ts →
    s.glob.geti 16 G.ThermGuardRelease ≤ hottest ts → s.glob.tripped = false →
    Completes (.sensorSample w ts vs) s (fun t => t.glob.tripped = true ∧ ∀ n, (t.cell n).held = true)) ∧
  (∀ (s : State) (ns : Nat), s.powered → s.glob.log.phase = .copying → s.glob.log.copying ≤ s.glob.log.unmirrored →
    Completes (.logMirrorDone ns true) s (fun t =>
      s.becomes t { s.glob with
        nowNs := ns
        log := { s.glob.log with
          phase := .interval, copying := 0, unmirrored := s.glob.log.unmirrored - s.glob.log.copying
          mirror := (((s.glob.log.ring.drop (s.glob.log.unmirrored - s.glob.log.copying)).take s.glob.log.copying) ++
            s.glob.log.mirror).take 8192 } } [])) ∧
  (∀ (s : State) (ns : Nat), s.powered → s.glob.log.phase = .copying →
    Completes (.logMirrorDone ns false) s (fun t =>
      t.glob.get G.MirrorFailures = wrapAdd 32 (s.glob.get G.MirrorFailures) 1 ∧
      s.becomes t { s.glob with nowNs := ns, log := { s.glob.log with phase := .interval, copying := 0 } } [G.MirrorFailures])) ∧
  (∀ (s : State) (ns : Nat), s.powered → s.glob.log.phase = .interval → 0 < s.glob.log.unmirrored →
    Completes (.mirrorIntervalExpiry ns) s (fun t =>
      s.becomes t { s.glob with nowNs := ns, log := { s.glob.log with phase := .copying, copying := s.glob.log.unmirrored } } [])) ∧
  (∀ (s : State) (ns : Nat), s.powered → s.glob.log.phase = .interval → s.glob.log.unmirrored = 0 →
    Completes (.mirrorIntervalExpiry ns) s (fun t =>
      s.becomes t { s.glob with nowNs := ns, log := { s.glob.log with phase := .idle, copying := 0 } } []))

/-- R456: a read of LogReadData returns up to 32 consecutive entries of the selected view, starting at the later of LogReadSequence and
the oldest entry the view holds; LogReadFirst reports the sequence number of the first of them; view 0 is the ring, view 1 the mirror. -/
def Obligations.LogReads : Prop :=
  (∀ (s : State) (ns : Nat) (p : Port) (old new : List LogEntry), s.writes p G.LogReadData →
    (if s.glob.get G.LogView = 1 then s.glob.log.mirror else s.glob.log.ring).reverse = old ++ new →
    (∀ e ∈ old, seqOffset s.glob.logOldest e.seq < seqOffset s.glob.logOldest (s.glob.get G.LogReadSequence)) →
    (∀ e ∈ new, seqOffset s.glob.logOldest (s.glob.get G.LogReadSequence) ≤ seqOffset s.glob.logOldest e.seq) →
    Completes (.logRead ns p) s (fun t =>
      t.heard p = 0 ∧ t.glob.readData = (new.take 32).flatMap LogEntry.bytes ∧
      t.glob.get G.LogReadFirst = (match new with | e :: _ => e.seq | [] => s.glob.get G.LogReadFirst) ∧
      s.becomes t { ({ s.glob with nowNs := ns } : Glob).answer p 0 with readData := t.glob.readData } [G.LogReadFirst])) ∧
  (∀ (s : State) (e : LogEntry), s.glob.log.ring.getLast? = some e → s.glob.get G.LogView ≠ 1 → s.glob.logOldest = e.seq) ∧
  (∀ (s : State) (e : LogEntry), s.glob.log.mirror.getLast? = some e → s.glob.get G.LogView = 1 → s.glob.logOldest = e.seq)

/-- R473 to R476: a thermistor sample, a new target, a curve's mode and parameter, and a PWM period, in which the fade moves on and the
duty follows. -/
def Obligations.IndicatorsComplete : Prop :=
  (∀ (s : State) (ns uv : Nat), s.powered → 20000 ≤ uv → uv ≤ 1750000 →
    Completes (.ntcSample ns uv) s (fun t =>
      t.glob.get G.NtcFault = 0 ∧
      t.glob.get G.NtcTemp = raw 16 (ntcTemp uv (s.glob.get G.NtcR25) (s.glob.get G.NtcBeta)) ∧
      s.becomes t { s.glob with nowNs := ns } [G.NtcFault, G.NtcTemp])) ∧
  (∀ (s : State) (ns uv : Nat), s.powered → s.glob.mgmtDown = false → 1750000 < uv → s.glob.get G.NtcFault ≠ 1 →
    Completes (.ntcSample ns uv) s (fun t =>
      t.glob.get G.NtcFault = 1 ∧ s.logged t 0x2301 (leBytes 1 1) ∧
      s.becomes t { s.glob with nowNs := ns, log := t.glob.log, trigs := t.glob.trigs } [G.NtcFault])) ∧
  (∀ (s : State) (ns : Nat) (p : Port) (n : CellNo) (col : Fin 3) (v : Nat), s.writes p (indKey G.IndTarget n col) → v ≤ 64512 →
    Completes (.indTarget ns p n col v) s (fun t =>
      t.heard p = 0 ∧ t.glob.get (indKey G.IndTarget n col) = v ∧
      (t.glob.sink n col).next = some (v, (3052 * s.glob.get (indKey G.IndFadeTime n col) + 50) / 100) ∧
      s.becomes t (({ s.glob with nowNs := ns } : Glob).putSink n col (t.glob.sink n col) |>.answer p 0)
        [indKey G.IndTarget n col])) ∧
  (∀ (s : State) (ns : Nat) (p : Port) (n : CellNo) (col : Fin 3) (v : Nat), s.writes p (indKey G.IndTarget n col) → p ≠ .pcie →
    64512 < v →
    Completes (.indTarget ns p n col v) s (fun t =>
      t.heard p = 0x06090030 ∧ s.becomes t (({ s.glob with nowNs := ns } : Glob).answer p 0x06090030) [])) ∧
  (∀ (s : State) (ns : Nat) (p : Port) (n : CellNo) (col : Fin 3) (v : Nat), s.writes p (indKey G.IndCurveMode n col) → v ≤ 3 →
    Completes (.indCurveWrite ns p n col (.mode v)) s (fun t =>
      t.heard p = 0 ∧ t.glob.get (indKey G.IndCurveMode n col) = v ∧
      s.becomes t (({ s.glob with nowNs := ns } : Glob).answer p 0) [indKey G.IndCurveMode n col])) ∧
  (∀ (s : State) (ns : Nat) (p : Port) (n : CellNo) (col : Fin 3) (v : Nat), s.writes p (indKey G.IndCurveParam n col) →
    ((s.glob.get (indKey G.IndCurveMode n col) = 1 ∧ 250 ≤ v ∧ v ≤ 8000) ∨
     (s.glob.get (indKey G.IndCurveMode n col) = 2 ∧ 1 ≤ v ∧ v ≤ 24)) →
    Completes (.indCurveWrite ns p n col (.param v)) s (fun t =>
      t.heard p = 0 ∧ t.glob.get (indKey G.IndCurveParam n col) = v ∧
      s.becomes t (({ s.glob with nowNs := ns } : Glob).answer p 0) [indKey G.IndCurveParam n col])) ∧
  (∀ (s : State) (ns : Nat) (col : Fin 3), s.powered → s.glob.get G.IndPolicy ≠ 1 →
    Completes (.indPwmPeriod ns col) s (fun t =>
      (∀ n, t.glob.get (indKey G.IndLevel n col) = (s.glob.sink n col).advance.level ∧
        t.glob.sink n col = { (s.glob.sink n col).advance with
          duty := s.glob.dutyOf n col (s.glob.sink n col).advance.level, odd := !(s.glob.sink n col).advance.odd }) ∧
      (∀ n c, c ≠ col → t.glob.sink n c = s.glob.sink n c) ∧
      s.becomes t { s.glob with nowNs := ns, mgmt := { s.glob.mgmt with sinks := t.glob.mgmt.sinks } }
        [indKey G.IndLevel 0 col, indKey G.IndLevel 1 col, indKey G.IndLevel 2 col, indKey G.IndLevel 3 col]))

/-! Update, profiles, life cycle and resets -/

/-- R462, R463: the update commands in their order, their ends, the refusal of a port that does not own the update, and confirmation.  Who
owns an update, from BEGIN to ACTIVATE or CANCEL, and what its ends leave is the model's choice (log entry 107). -/
def Obligations.UpdateCompletes : Prop :=
  (∀ (s : State) (ns : Nat) (p : Port), s.writes p G.ProgramControl → [0, 4, 5, 6].contains s.glob.updState = true →
    s.glob.ownedBy p = true →
    s.glob.get G.ProfileState ≠ 2 →
    Completes (.begin ns p) s (fun t =>
      t.heard p = 0 ∧ t.glob.get G.ProgramStatus = 1 ∧ t.glob.get G.ProgramOffset = 0 ∧
      t.glob.upd = { s.glob.upd.spoil s.glob.eraseTarget with owner := some p, target := s.glob.eraseTarget, received := [] } ∧
      (s.glob.mgmtDown = false → s.logged t 0x1F51 (leBytes 1 1 ++ leBytes 2 0)) ∧
      s.becomes t (({ s.glob with
        nowNs := ns, log := t.glob.log, trigs := t.glob.trigs, mgmt := { s.glob.mgmt with update := t.glob.upd } } : Glob).answer p 0)
        [G.ProgramStatus, G.ProgramOffset])) ∧
  (∀ (s : State) (ns : Nat) (ok : Bool), s.powered → s.glob.updState = 1 →
    Completes (.eraseDone ns ok) s (fun t =>
      t.glob.get G.ProgramStatus = (if ok then 2 else 6 + 7 * 65536) ∧
      s.becomes t { s.glob with nowNs := ns, log := t.glob.log, trigs := t.glob.trigs } [G.ProgramStatus])) ∧
  (∀ (s : State) (ns : Nat) (p : Port) (data : List Byte), s.writes p G.ProgramData → data.length ≤ 32768 →
    s.glob.updState = 2 → s.glob.ownedBy p = true → s.glob.upd.received.length + data.length ≤ 8388608 →
    Completes (.programData ns p data true) s (fun t =>
      t.heard p = 0 ∧ t.glob.get G.ProgramOffset = s.glob.upd.received.length + data.length ∧
      s.becomes t (({ s.glob with
        nowNs := ns
        mgmt := { s.glob.mgmt with update := { s.glob.upd with received := s.glob.upd.received ++ data } } } : Glob).answer p 0)
        [G.ProgramOffset])) ∧
  (∀ (s : State) (ns : Nat) (p : Port) (data : List Byte), s.writes p G.ProgramData → data.length ≤ 32768 →
    s.glob.updState = 2 → s.glob.ownedBy p = true → s.glob.upd.received.length + data.length ≤ 8388608 →
    Completes (.programData ns p data false) s (fun t =>
      t.heard p = 0 ∧ t.glob.get G.ProgramStatus = 6 + 7 * 65536 ∧
      s.becomes t (({ s.glob with nowNs := ns, log := t.glob.log, trigs := t.glob.trigs } : Glob).answer p 0) [G.ProgramStatus])) ∧
  (∀ (s : State) (ns : Nat) (p : Port) (data : List Byte) (ok : Bool), s.takes p → p ≠ .pcie → data.length ≤ 32768 →
    (s.glob.updState ≠ 2 ∨ s.glob.ownedBy p = false) →
    Completes (.programData ns p data ok) s (fun t =>
      t.heard p = 0x08000022 ∧ s.becomes t (({ s.glob with nowNs := ns } : Glob).answer p 0x08000022) [])) ∧
  (∀ (s : State) (ns : Nat) (p : Port), s.writes p G.ProgramControl → s.glob.updState = 2 → s.glob.ownedBy p = true →
    Completes (.verify ns p) s (fun t =>
      t.heard p = 0 ∧ t.glob.get G.ProgramStatus = 3 ∧
      s.becomes t (({ s.glob with nowNs := ns, log := t.glob.log, trigs := t.glob.trigs } : Glob).answer p 0) [G.ProgramStatus])) ∧
  (∀ (s : State) (ns : Nat), s.powered → s.glob.updState = 3 →
    Completes (.verifyDone ns) s (fun t =>
      let e := imageError s.glob.upd.received s.glob.upd.counter
      t.glob.get G.ProgramStatus = (if e = 0 then 4 else 6 + e * 65536) ∧
      t.glob.upd = (if e = 0 then s.glob.upd.putSlot s.glob.upd.target
        ⟨true, versionText (slice s.glob.upd.received 16 32), fld s.glob.upd.received 7 1⟩ else s.glob.upd) ∧
      s.becomes t { s.glob with
        nowNs := ns, log := t.glob.log, trigs := t.glob.trigs, mgmt := { s.glob.mgmt with update := t.glob.upd } }
        [G.ProgramStatus])) ∧
  (∀ (s : State) (ns : Nat) (p : Port), s.writes p G.ProgramControl → s.glob.updState = 4 → s.glob.ownedBy p = true →
    Completes (.activate ns p) s (fun t =>
      t.heard p = 0 ∧ t.glob.get G.ProgramStatus = 5 ∧
      s.becomes t (({ s.glob with
        nowNs := ns, log := t.glob.log, trigs := t.glob.trigs
        mgmt := { s.glob.mgmt with
          update := { s.glob.upd with owner := none, preferred := s.glob.upd.target, trial := true, attempts := 0 } } } : Glob).answer
            p 0) [G.ProgramStatus])) ∧
  (∀ (s : State) (ns : Nat) (p : Port), s.writes p G.ProgramControl → 1 ≤ s.glob.updState → s.glob.updState ≤ 5 →
    s.glob.ownedBy p = true →
    Completes (.cancel ns p) s (fun t =>
      t.heard p = 0 ∧ t.glob.get G.ProgramStatus = 0 ∧
      s.becomes t (({ s.glob with
        nowNs := ns, log := t.glob.log, trigs := t.glob.trigs
        mgmt := { s.glob.mgmt with update := { s.glob.upd.spoil s.glob.upd.target with owner := none, received := [] } } } :
          Glob).answer p 0) [G.ProgramStatus])) ∧
  (∀ (s : State) (ns r : Nat), s.glob.mgmt.boot = .running → s.glob.upd.trial = true → ns ≤ s.glob.upd.startNs + 10000000000 →
    s.glob.get G.RunningSlot = s.glob.upd.preferred.val → (s.glob.upd.slots.get s.glob.upd.preferred).rollback = r →
    s.glob.upd.counter < r →
    Completes (.slotConfirm ns) s (fun t =>
      (s.glob.mgmtDown = false → s.logged t 0x1F52 (leBytes 1 s.glob.upd.counter ++ leBytes 1 r)) ∧
      s.becomes t { s.glob with
        nowNs := ns, log := t.glob.log, trigs := t.glob.trigs
        mgmt := { s.glob.mgmt with update := { s.glob.upd with trial := false, attempts := 0, counter := r } } } [])) ∧
  (∀ (s : State) (ns : Nat), s.glob.mgmt.boot = .running → s.glob.upd.trial = true → ns ≤ s.glob.upd.startNs + 10000000000 →
    s.glob.get G.RunningSlot = s.glob.upd.preferred.val → (s.glob.upd.slots.get s.glob.upd.preferred).rollback ≤ s.glob.upd.counter →
    Completes (.slotConfirm ns) s (fun t =>
      s.becomes t { s.glob with
        nowNs := ns, mgmt := { s.glob.mgmt with update := { s.glob.upd with trial := false, attempts := 0 } } } []))

/-- R464, R465: a store takes the present state and ends with a valid profile, an erase ends with an empty one; an activation runs until
its images are loaded, and one of a profile whose hash fails is refused in the log.  That a store or an erase that comes while another runs
waits its turn, with the state taken at its write, is the model's choice (log entries 109 and 184), as is that the activation of an empty
profile resets the cells and that a corrupt one is logged with index 0 (log entry 110). -/
def Obligations.ProfilesComplete : Prop :=
  (∀ (s : State) (ns v : Nat) (p : Port), s.writes p G.ProfileStore → s.glob.get G.ProfileState ≠ 2 → s.glob.prof.jobs = [] → v ≤ 3 →
    Completes (.profileStore ns p v) s (fun t =>
      t.heard p = 0 ∧ t.glob.get G.ProfileState = 1 ∧ t.glob.prof.jobs = [.store (Fin.ofNat 4 v) s.snapshot] ∧
      t.glob.profile (Fin.ofNat 4 v) = s.snapshot ∧ (∀ q, q ≠ Fin.ofNat 4 v → t.glob.profile q = s.glob.profile q) ∧
      s.becomes t (({ s.glob with nowNs := ns, mgmt := { s.glob.mgmt with profiles := t.glob.prof } } : Glob).answer p 0)
        [G.ProfileState])) ∧
  (∀ (s : State) (ns v : Nat) (p : Port) (j : ProfileJob) (js : List ProfileJob), s.writes p G.ProfileStore →
    s.glob.get G.ProfileState ≠ 2 → s.glob.prof.jobs = j :: js → v ≤ 3 →
    Completes (.profileStore ns p v) s (fun t =>
      t.heard p = 0 ∧ t.glob.get G.ProfileState = jobState (j :: js) ∧
      t.glob.prof = { s.glob.prof with jobs := j :: js ++ [.store (Fin.ofNat 4 v) s.snapshot] } ∧
      s.becomes t (({ s.glob with nowNs := ns, mgmt := { s.glob.mgmt with profiles := t.glob.prof } } : Glob).answer p 0)
        [G.ProfileState])) ∧
  (∀ (s : State) (ns : Nat) (i : Fin 4) (x : Profile), s.powered → s.glob.get G.ProfileState ≠ 2 → s.glob.prof.jobs = [.store i x] →
    Completes (.profileStoreDone ns) s (fun t =>
      t.glob.get G.ProfileState = 0 ∧ t.glob.prof.jobs = [] ∧
      t.glob.profile i = { s.glob.profile i with valid := true, corrupt := false } ∧
      (∀ q, q ≠ i → t.glob.profile q = s.glob.profile q) ∧
      s.becomes t { s.glob with nowNs := ns, mgmt := { s.glob.mgmt with profiles := t.glob.prof } } [G.ProfileState])) ∧
  (∀ (s : State) (ns v : Nat) (p : Port), s.writes p G.ProfileErase → s.glob.get G.ProfileState ≠ 2 → s.glob.prof.jobs = [] → v ≤ 3 →
    Completes (.profileErase ns p v) s (fun t =>
      t.heard p = 0 ∧ t.glob.get G.ProfileState = 3 ∧ t.glob.prof.jobs = [.erase (Fin.ofNat 4 v)] ∧
      (t.glob.profile (Fin.ofNat 4 v)).valid = false ∧ (∀ q, q ≠ Fin.ofNat 4 v → t.glob.profile q = s.glob.profile q) ∧
      s.becomes t (({ s.glob with nowNs := ns, mgmt := { s.glob.mgmt with profiles := t.glob.prof } } : Glob).answer p 0)
        [G.ProfileState])) ∧
  (∀ (s : State) (ns v : Nat) (p : Port) (j : ProfileJob) (js : List ProfileJob), s.writes p G.ProfileErase →
    s.glob.get G.ProfileState ≠ 2 → s.glob.prof.jobs = j :: js → v ≤ 3 →
    Completes (.profileErase ns p v) s (fun t =>
      t.heard p = 0 ∧ t.glob.get G.ProfileState = jobState (j :: js) ∧
      t.glob.prof = { s.glob.prof with jobs := j :: js ++ [.erase (Fin.ofNat 4 v)] } ∧
      s.becomes t (({ s.glob with nowNs := ns, mgmt := { s.glob.mgmt with profiles := t.glob.prof } } : Glob).answer p 0)
        [G.ProfileState])) ∧
  (∀ (s : State) (ns : Nat) (i : Fin 4), s.powered → s.glob.get G.ProfileState ≠ 2 → s.glob.prof.jobs = [.erase i] →
    Completes (.profileEraseDone ns) s (fun t =>
      t.glob.get G.ProfileState = 0 ∧ t.glob.prof.jobs = [] ∧ (t.glob.profile i).status = 0 ∧
      (∀ q, q ≠ i → t.glob.profile q = s.glob.profile q) ∧
      s.becomes t { s.glob with nowNs := ns, mgmt := { s.glob.mgmt with profiles := t.glob.prof } } [G.ProfileState])) ∧
  (∀ (s : State) (ns v : Nat) (p : Port), s.takes p → p ≠ .pcie → s.glob.get G.ProfileState = 2 →
    Completes (.profileStore ns p v) s (fun t =>
      t.heard p = 0x08000022 ∧ s.becomes t (({ s.glob with nowNs := ns } : Glob).answer p 0x08000022) []) ∧
    Completes (.profileErase ns p v) s (fun t =>
      t.heard p = 0x08000022 ∧ s.becomes t (({ s.glob with nowNs := ns } : Glob).answer p 0x08000022) []) ∧
    Completes (.profileActivate ns p v) s (fun t =>
      t.heard p = 0x08000022 ∧ s.becomes t (({ s.glob with nowNs := ns } : Glob).answer p 0x08000022) [])) ∧
  (∀ (s : State) (ns v : Nat) (p : Port), s.writes p G.ProfileActivate → p ≠ .pangobor → s.glob.get G.ProfileState ≠ 2 → v ≤ 3 →
    (s.glob.profile (Fin.ofNat 4 v)).corrupt = false →
    (∀ x ∈ (s.glob.profile (Fin.ofNat 4 v)).entries, 256 * x.1 + x.2.1 ≠ G.ProfileState) →
    Completes (.profileActivate ns p v) s (fun t =>
      t.heard p = 0 ∧ t.glob.get G.ProfileState = 2 ∧ t.glob.prof.current = Fin.ofNat 4 v ∧
      (∀ q, t.glob.profile q = s.glob.profile q) ∧ (∀ n, (t.cell n).held = (s.cell n).held))) ∧
  (∀ (s : State) (ns v : Nat) (p : Port), s.writes p G.ProfileActivate → s.glob.get G.ProfileState ≠ 2 → v ≤ 3 →
    (s.glob.profile (Fin.ofNat 4 v)).corrupt = false → (s.glob.profile (Fin.ofNat 4 v)).valid = false →
    (s.glob.profile (Fin.ofNat 4 v)).entries = [] →
    Completes (.profileActivate ns p v) s (fun t =>
      t.heard p = 0 ∧ t.glob.get G.ProfileState = 2 ∧ t.glob.get G.ProfileEntryErrors = 0 ∧ ∀ n, s.restarts t n)) ∧
  (∀ (s : State) (ns v : Nat) (p : Port), s.writes p G.ProfileActivate → s.glob.get G.ProfileState ≠ 2 → v ≤ 3 →
    s.glob.mgmtDown = false → (s.glob.profile (Fin.ofNat 4 v)).corrupt = true →
    Completes (.profileActivate ns p v) s (fun t =>
      t.heard p = 0 ∧ t.glob.get G.ProfileState = jobState s.glob.prof.jobs ∧
      s.logged t 0x1F02 (leBytes 3 0 ++ leBytes 4 0x08000000) ∧ t.cells = s.cells ∧ s.keepsShared t [G.ProfileState])) ∧
  (∀ (s : State) (w : When4), s.glob.get G.ProfileState = 2 → s.glob.mgmtDown = false → (∀ n, s.glob.prof.phases.get n = .done) →
    Completes (.profileActivationDone w) s (fun t =>
      t.glob.get G.ProfileActive = s.glob.prof.current.val ∧ (∃ e, t.glob.log.ring.head? = some e ∧ e.code = 0x1F01) ∧
      (s.profile.valid = false → t.glob.get G.ProfileState = jobState s.glob.prof.jobs ∧
        s.keepsShared t [G.ProfileState, G.ProfileActive] ∧ ∀ n, s.keepsEntries t n [] ∧ s.keepsBytes t n)))

/-- R466 to R468: the transitions of the life cycle, each with a wipe of the cells that nothing holds in reset, their log entry and what
authorises them; a refused request leaves its reason and changes nothing else; the session ends.  The order of the
checks, and that an accepted request leaves LifeCycleError as it is, is the model's choice (log entry 111). -/
def Obligations.LifeCycleCompletes : Prop :=
  (∀ (s : State) (ns : Nat) (p : Port), s.takes p → s.glob.bootRom = false → s.glob.mgmtDown = false → s.glob.lifeState = 0 →
    s.glob.lifeBusy = false → (pointOf (s.glob.dom G.OwnerKey [])).isSome = true →
    Completes (.lcToProvisioned ns p) s (fun t =>
      t.heard p = 0 ∧ t.glob.lifeState = 1 ∧ t.glob.get G.LifeCycleState = 1 ∧ s.logged t 0x1F21 [0, 1] ∧ (∀ n, s.restarts t n) ∧
      s.keepsShared t [G.LifeCycleState, G.WipeState, G.WipeState + 1, G.WipeState + 2, G.WipeState + 3, G.WipeIncomplete])) ∧
  (∀ (s : State) (ns : Nat) (p : Port) (st : Nat), s.takes p → s.glob.bootRom = false → s.glob.mgmtDown = false →
    s.glob.lifeState = st → (st = 1 ∨ st = 3) → s.glob.lifeBusy = false →
    Completes (.lcToField ns p) s (fun t =>
      t.heard p = 0 ∧ t.glob.lifeState = 2 ∧ t.glob.get G.LifeCycleState = 2 ∧ s.logged t 0x1F21 (leBytes 1 st ++ [2]) ∧
      (∀ n, s.restarts t n) ∧
      s.keepsShared t [G.LifeCycleState, G.WipeState, G.WipeState + 1, G.WipeState + 2, G.WipeState + 3, G.WipeIncomplete])) ∧
  (∀ (s : State) (ns : Nat) (p : Port), s.takes p → s.glob.bootRom = false → s.glob.mgmtDown = false → s.glob.lifeState = 2 →
    s.glob.lifeBusy = false → s.glob.tokenFault 3 = 0 →
    Completes (.lcToService ns p) s (fun t =>
      t.heard p = 0 ∧ t.glob.lifeState = 3 ∧ t.glob.get G.LifeCycleState = 3 ∧ s.logged t 0x1F21 [2, 3] ∧
      t.glob.mgmt.life = { s.glob.mgmt.life.renew with
        sessionEnd := some (ns + fld (s.glob.dom G.LifeCycleToken []) 4 4 * 1000000000) } ∧ (∀ n, s.restarts t n))) ∧
  (∀ (s : State) (ns : Nat) (p : Port), s.takes p → s.glob.bootRom = false → s.glob.mgmtDown = false → s.glob.lifeState = 0 →
    s.glob.lifeBusy = false →
    Completes (.lcToRetired ns p) s (fun t =>
      t.heard p = 0 ∧ t.glob.lifeState = 4 ∧ t.glob.get G.LifeCycleState = 4 ∧ s.logged t 0x1F21 [0, 4] ∧ (∀ n, s.restarts t n))) ∧
  (∀ (s : State) (ns : Nat) (p : Port) (st : Nat), s.takes p → s.glob.bootRom = false → s.glob.mgmtDown = false →
    s.glob.lifeState = st → 1 ≤ st → st ≤ 3 → s.glob.lifeBusy = false → s.glob.tokenFault 4 = 0 →
    Completes (.lcToRetired ns p) s (fun t =>
      t.heard p = 0 ∧ t.glob.lifeState = 4 ∧ t.glob.get G.LifeCycleState = 4 ∧ s.logged t 0x1F21 (leBytes 1 st ++ [4]) ∧
      t.glob.mgmt.life.nonce = s.glob.mgmt.life.renew.nonce ∧ (∀ n, s.restarts t n))) ∧
  (∀ (s : State) (ns : Nat) (p : Port), s.takes p → p ≠ .pcie → s.glob.bootRom = false → s.glob.lifeReason 1 ≠ 0 →
    Completes (.lcToProvisioned ns p) s (fun t => s.lifeRefused t ns p 1)) ∧
  (∀ (s : State) (ns : Nat) (p : Port), s.takes p → p ≠ .pcie → s.glob.bootRom = false → s.glob.lifeReason 2 ≠ 0 →
    Completes (.lcToField ns p) s (fun t => s.lifeRefused t ns p 2)) ∧
  (∀ (s : State) (ns : Nat) (p : Port), s.takes p → p ≠ .pcie → s.glob.bootRom = false → s.glob.lifeReason 3 ≠ 0 →
    Completes (.lcToService ns p) s (fun t => s.lifeRefused t ns p 3)) ∧
  (∀ (s : State) (ns : Nat) (p : Port), s.takes p → p ≠ .pcie → s.glob.bootRom = false → s.glob.lifeReason 4 ≠ 0 →
    Completes (.lcToRetired ns p) s (fun t => s.lifeRefused t ns p 4)) ∧
  (∀ (s : State) (ns e : Nat), s.glob.mgmt.life.sessionEnd = some e → e ≤ ns → s.glob.mgmtDown = false →
    Completes (.serviceExpiry ns) s (fun t =>
      t.glob.mgmt.life = { s.glob.mgmt.life with sessionEnd := none } ∧ t.glob.get G.LifeCycleState = s.glob.mgmt.life.fused ∧
      s.logged t 0x1F21 (leBytes 1 3 ++ leBytes 1 s.glob.mgmt.life.fused) ∧ ∀ n, s.restarts t n))

/-- R469 to R471, R483, R488 to R494: a reset of cells and the wipe that follows it, the resets of the host port and of the device, the
loss and return of power, and the boot.  R507: an instruction of the test access port is loaded with what it captures; a test instruction
holds all four cells in reset, and the next other one releases them, with a wipe.  The model's choice are: the states and counts of a wipe
(log entry 94), what a host-port reset keeps and that a wide access in service goes on (log entries 96 and 174), that a reset runs the whole
boot in one command (log entry 100), the log over a power cycle (log entry 105), the test access port (log entry 106) and when the host port
is ready (log entry 116). -/
def Obligations.ResetsComplete : Prop :=
  (∀ (s : State) (ns mask : Nat) (p : Port), s.takes p → s.glob.bootRom = false →
    Completes (.cellResetRequest ns p mask) s (fun t =>
      t.heard p = 0 ∧ (∀ n : CellNo, bit mask n.val = true → s.restarts t n) ∧
      (∀ n : CellNo, bit mask n.val = false → t.cell n = s.cell n) ∧
      s.keepsShared t [G.WipeState, G.WipeState + 1, G.WipeState + 2, G.WipeState + 3, G.WipeIncomplete])) ∧
  (∀ (s : State) (n : CellNo) (w : When), s.live n → s.glob.get (G.WipeState + n.val) = 1 →
    Completes (.wipeSramDone n w) s (fun t =>
      t.glob.get (G.WipeState + n.val) = 2 ∧ (∀ x a, x ≠ .deep → memGet ((t.cell n).tier x) a = 0) ∧
      (t.cell n).mem.memory = (s.cell n).mem.memory ∧ s.keepsEntries t n [] ∧ s.keepsOthers t n ∧
      s.keepsShared t [G.WipeState + n.val])) ∧
  (∀ (s : State) (ns : Nat) (n : CellNo), s.glob.mgmtDown = false → s.wipeEnds n = true → (s.cell n).anyFailed = false →
    Completes (.wipeDone ns (2 ^ n.val)) s (fun t =>
      t.glob.get (G.WipeState + n.val) = 3 ∧ t.glob.get G.WipeCount = wrapAdd 32 (s.glob.get G.WipeCount) 1 ∧
      (t.cell n).get K.MemState = (if (s.cell n).inForce K.MemFitted = 0 then 0 else 2) ∧
      (∀ a, a < 18 * (s.cell n).capacity → (s.cell n).channelFailed (channelOf (a / 18)) = false → memGet (t.cell n).mem.memory a = 0) ∧
      (∃ e, t.glob.log.ring.head? = some e ∧ e.code = 0x2801) ∧ s.keepsEntries t n [K.MemState] ∧ s.keepsBytesBut t n .deep ∧
      s.keepsOthers t n ∧ s.keepsShared t [G.WipeState + n.val, G.WipeCount])) ∧
  (∀ (s : State) (ns : Nat) (p : Port) (sel : Fin 4), s.takes p → s.glob.bootRom = false →
    Completes (.deviceResetRequest ns p sel) s (fun t => s.resetsDevice t)) ∧
  (∀ (s : State) (ns low : Nat) (sel : Fin 4), s.powered → 10000 ≤ low →
    Completes (.systemReset ns low sel) s (fun t => s.resetsDevice t)) ∧
  (∀ (s : State) (ns low : Nat) (sel : Fin 4), low < 1000 →
    Completes (.systemReset ns low sel) s (fun t => s.becomes t { s.glob with nowNs := ns } [])) ∧
  (∀ (s : State) (ns : Nat) (sel : Fin 4), s.powered → s.glob.hst.perst = false → s.glob.get G.HostResetScope = 1 →
    Completes (.perstAssert ns sel) s (fun t => t.glob.hst.perst = true ∧ s.resetsDevice t)) ∧
  (∀ (s : State) (ns : Nat) (sel : Fin 4), s.powered → s.glob.hst.perst = false → s.glob.get G.HostResetScope = 0 →
    (∀ n, (s.cell n).dma.unsent = [] ∧ ∀ k, (s.cell n).hostReading k = false) →
    Completes (.perstAssert ns sel) s (fun t =>
      t.glob.hst.perst = true ∧ t.glob.hst.busMaster = false ∧ t.glob.hst.msixEnable = false ∧
      (∀ k, 0x2400 ≤ k / 256 → k / 256 ≤ 0x2415 → k ≠ G.WideState → t.glob.get k = globDflt k) ∧
      t.glob.get G.WideState = (if s.glob.hst.wideRun.isSome then 1 else globDflt G.WideState) ∧
      t.glob.hst.wideRun = s.glob.hst.wideRun ∧
      (∀ k, ¬ (0x2400 ≤ k / 256 ∧ k / 256 ≤ 0x2415) → t.glob.get k = s.glob.get k) ∧ t.glob.mgmt = s.glob.mgmt ∧
      t.glob.hst.wide = s.glob.hst.wide ∧ (∀ n, s.keepsEntries t n [] ∧ s.keepsBytes t n))) ∧
  (∀ (s : State) (ns : Nat), s.glob.hst.perst = true →
    Completes (.perstRelease ns) s (fun t =>
      t.glob.hst.perst = false ∧ s.becomes t { s.glob with
        nowNs := ns, hst := { s.glob.hst with perst := false, readyBy := t.glob.hst.readyBy } } [])) ∧
  (∀ (s : State) (ns : Nat),
    Completes (.powerDrop ns) s (fun t =>
      t.glob.mgmt.boot = .off ∧ (∀ k, t.glob.get k = globDflt k) ∧ t.glob.log.ring = [] ∧
      (∀ n, (t.cell n).held = true ∧ ∀ k, (t.cell n).get k = Cell.init.get k) ∧ s.resetsDevice t)) ∧
  (∀ (s : State) (ns : Nat) (sel : Fin 4), s.glob.mgmt.boot ≠ .running → s.glob.bootRom = false → s.glob.flashShort = false →
    s.glob.tripped = false →
    s.glob.mgmt.tap.instr.isTest = false → s.glob.upd.trial = false → s.glob.upd.bootable s.glob.upd.preferred = true →
    s.glob.profile sel = emptyProfile →
    Completes (.powerOnRelease ns sel) s (fun t =>
      t.glob.mgmt.boot = .running ∧ t.glob.get G.RunningSlot = s.glob.upd.preferred.val ∧ t.glob.get G.ProfilePinValue = sel.val ∧
      t.glob.get G.ProfileState = 2 ∧
      ∀ n, (t.cell n).held = false ∧ ((s.cell n).held = true → (s.cell n).restarted (t.cell n) ∧ t.glob.get (G.WipeState + n.val) = 1))) ∧
  (∀ (s : State) (ns pins : Nat), s.powered → s.glob.mgmt.tap.instr.isTest = false →
    Completes (.extest ns pins) s (fun t => s.holdsForTest t ns ⟨.extest, pins, s.glob.mgmt.tap.preload⟩)) ∧
  (∀ (s : State) (ns pins : Nat), s.powered → s.glob.mgmt.tap.instr.isTest = false →
    Completes (.extestPulse ns pins) s (fun t => s.holdsForTest t ns ⟨.extestPulse, pins, s.glob.mgmt.tap.preload⟩)) ∧
  (∀ (s : State) (ns pins : Nat), s.powered → s.glob.mgmt.tap.instr.isTest = false →
    Completes (.extestTrain ns pins) s (fun t => s.holdsForTest t ns ⟨.extestTrain, pins, s.glob.mgmt.tap.preload⟩)) ∧
  (∀ (s : State) (ns : Nat), s.powered → s.glob.mgmt.tap.instr.isTest = false →
    Completes (.clamp ns) s (fun t => s.holdsForTest t ns ⟨.clamp, 0, s.glob.mgmt.tap.preload⟩)) ∧
  (∀ (s : State) (ns : Nat), s.powered → s.glob.mgmt.tap.instr.isTest = false →
    Completes (.highz ns) s (fun t => s.holdsForTest t ns ⟨.highz, 0, s.glob.mgmt.tap.preload⟩)) ∧
  (∀ (s : State) (ns : Nat), s.powered → s.glob.mgmt.tap.instr.isTest = false →
    Completes (.bypass ns) s (fun t =>
      s.becomes t { s.glob with nowNs := ns, mgmt := { s.glob.mgmt with tap := ⟨.bypass, 0, s.glob.mgmt.tap.preload⟩ } } [])) ∧
  (∀ (s : State) (ns : Nat), s.powered → s.glob.mgmt.tap.instr.isTest = false →
    Completes (.idcode ns) s (fun t =>
      s.becomes t { s.glob with nowNs := ns, mgmt := { s.glob.mgmt with tap := ⟨.idcode, s.glob.idCode, s.glob.mgmt.tap.preload⟩ } } [])) ∧
  (∀ (s : State) (ns pins pre : Nat), s.powered → s.glob.mgmt.tap.instr.isTest = false →
    Completes (.samplePreload ns pins pre) s (fun t =>
      s.becomes t { s.glob with nowNs := ns, mgmt := { s.glob.mgmt with tap := ⟨.samplePreload, pins, pre⟩ } } [])) ∧
  (∀ (s : State) (ns : Nat), s.powered → s.glob.mgmt.tap.instr.isTest = false →
    Completes (.tapReset ns) s (fun t =>
      s.becomes t { s.glob with nowNs := ns, mgmt := { s.glob.mgmt with tap := ⟨.idcode, 0, s.glob.mgmt.tap.preload⟩ } } [])) ∧
  (∀ (s : State) (ns : Nat), s.glob.mgmt.boot = .running → s.glob.tripped = false → s.glob.mgmt.tap.instr.isTest = true →
    Completes (.bypass ns) s (fun t => s.releasedFromTest t)) ∧
  (∀ (s : State) (ns : Nat), s.glob.mgmt.boot = .running → s.glob.tripped = false → s.glob.mgmt.tap.instr.isTest = true →
    Completes (.idcode ns) s (fun t => s.releasedFromTest t)) ∧
  (∀ (s : State) (ns : Nat), s.glob.mgmt.boot = .running → s.glob.tripped = false → s.glob.mgmt.tap.instr.isTest = true →
    Completes (.tapReset ns) s (fun t => s.releasedFromTest t))

/-! The whole part -/

/-- A step takes the command at the front of the queue and executes it on the state with the queue's rest.  On an empty queue the block
idles, which is the model's choice (log entry 1). -/
def Obligations.StepTakesTheFront : Prop :=
  (∀ (s : State) (i : Instr) (q : List Instr), step { s with pending := i :: q } = exec i { s with pending := q }) ∧
  (∀ s : State, s.pending = [] → step s = .next s)

/-- R488 to R490, R494: at the release of the power-on reset every cell is held in reset on the bypass clock, every entry reads its
default, no command waits, and the invariants of the later statements hold.  That slot A holds the firmware, no profile is stored and the
life cycle is BLANK is the model's choice (log entry 101). -/
def Obligations.ResetState : Prop :=
  State.reset.pending = [] ∧ State.reset.glob.mgmt.boot = .released ∧ (∀ k, State.reset.glob.get k = globDflt k) ∧
  (∀ n k, (State.reset.cell n).held = true ∧ (State.reset.cell n).clk.onFcc = false ∧
    (State.reset.cell n).get k = cellDflt k) ∧
  (State.reset.cell 0).get K.SynthDivider = 200 * 2 ^ 32 ∧ State.reset.glob.log.ring = [] ∧ State.reset.glob.lifeState = 0 ∧
  State.reset.memoriesWf = true ∧ State.reset.logBounded = true ∧ State.reset.rollbackBounded = true

/-- R22: a clock fault, a contract breach, a cell reset, a wipe of one cell or a refused image has no effect on any other cell: whatever
command of a cell is executed, the other cells are as before, and so are the cells outside the mask of a reset or of an ended wipe.  The
one exception is the thermal guard, which acts on all four cells together: it sets, and clears, ThermalHold of every cell that is not held
in reset. -/
def Obligations.CellsAreIndependent : Prop :=
  (∀ (s t : State) (i : Instr) (n m : CellNo), i.cellOf = some n → m ≠ n → exec i s = .next t → t.cell m = s.cell m) ∧
  (∀ (s t : State) (ns mask : Nat) (p : Port) (m : CellNo), bit mask m.val = false →
    exec (.cellResetRequest ns p mask) s = .next t → t.cell m = s.cell m) ∧
  (∀ (s t : State) (ns mask : Nat) (m : CellNo), bit mask m.val = false → exec (.wipeDone ns mask) s = .next t →
    t.cell m = s.cell m) ∧
  (∀ (s : State) (w : When4) (ts : List Int) (vs : List Nat), s.powered → ts.length = 32 → (∀ x ∈ ts, -32768 ≤ x ∧ x < 32768) →
    1 ≤ s.glob.sens.hot → s.glob.geti 16 G.ThermGuardSet ≤ hottest ts → hottest ts < s.glob.geti 16 G.ThermCritical →
    s.glob.geti 16 G.ThermGuardRelease ≤ hottest ts → s.glob.get G.ThermGuardActive = 0 →
    Completes (.sensorSample w ts vs) s (fun t =>
      ∀ n, (s.cell n).held = false → (t.cell n).get K.ThermalHold = 1)) ∧
  (∀ (s : State) (w : When4) (ts : List Int) (vs : List Nat), s.powered → ts.length = 32 → (∀ x ∈ ts, -32768 ≤ x ∧ x < 32768) →
    99 ≤ s.glob.sens.cool → hottest ts < s.glob.geti 16 G.ThermGuardRelease → hottest ts < s.glob.geti 16 G.ThermGuardSet →
    hottest ts < s.glob.geti 16 G.ThermCritical → s.glob.get G.ThermGuardActive = 1 → s.glob.tripped = false →
    Completes (.sensorSample w ts vs) s (fun t =>
      t.glob.get G.ThermGuardActive = 0 ∧ ∀ n, (s.cell n).held = false → (t.cell n).get K.ThermalHold = 0))

/-- Every step keeps every memory of the part in its canonical form: addresses strictly rising and no listed zero, which is the form the
model gives a memory (log entry 8). -/
def Obligations.StepKeepsMemories : Prop :=
  ∀ s t : State, s.memoriesWf = true → step s = .next t → t.memoriesWf = true

/-- R453, R455, R461, R463, R466: every step keeps the log ring and its mirror within 8,192 entries and the fused counter and the slots'
RollbackIndex within 0 to 63; the counter never decreases; a retired part stays retired; and a step takes at most the front of the queue.
-/
def Obligations.StepKeepsBounds : Prop :=
  ∀ s t : State, s.logBounded = true → s.rollbackBounded = true → step s = .next t →
    t.logBounded = true ∧ t.rollbackBounded = true ∧ s.glob.mgmt.update.counter ≤ t.glob.mgmt.update.counter ∧
    (s.glob.lifeState = 4 → t.glob.lifeState = 4) ∧ t.pending = s.pending.tail
end

