-- ==== Sys2Proof/Laws/Keyed.lean ====
section
/-! SUPPORT. Keyed stores: what a read finds after a write, and with it the entries of a cell and of the shared region. -/

namespace Sys2Proof.Machine

theorem kvFind_kvDel_self {α : Type} (k : Nat) (es : List (Nat × α)) : kvFind k (kvDel k es) = none := by
  induction es with
  | nil => rfl
  | cons e es ih =>
    simp only [kvDel]
    split
    · exact ih
    · simp [kvFind, *]

theorem kvFind_kvDel_ne {α : Type} {j k : Nat} (h : j ≠ k) (es : List (Nat × α)) : kvFind j (kvDel k es) = kvFind j es := by
  induction es with
  | nil => rfl
  | cons e es ih =>
    simp only [kvDel]
    split
    · rename_i hk
      have : e.1 ≠ j := fun x => h (x.symm.trans hk)
      simp [kvFind, this, ih]
    · simp [kvFind, ih]

theorem kvFind_kvIns_ne {α : Type} {j k : Nat} (h : j ≠ k) (v : α) (es : List (Nat × α)) :
    kvFind j (kvIns k v es) = kvFind j es := by
  induction es with
  | nil => simp [kvIns, kvFind, Ne.symm h]
  | cons e es ih =>
    simp only [kvIns]
    split
    · simp [kvFind, Ne.symm h]
    · simp [kvFind, ih]

theorem kvFind_kvIns_self {α : Type} (k : Nat) (v : α) (es : List (Nat × α)) (h : kvFind k es = none) :
    kvFind k (kvIns k v es) = some v := by
  induction es with
  | nil => simp [kvIns, kvFind]
  | cons e es ih =>
    simp only [kvIns]
    split
    · simp [kvFind]
    · by_cases he : e.1 = k
      · simp [kvFind, he] at h
      · simp only [kvFind, he, if_false] at h ⊢
        exact ih h

@[simp] theorem kvFind_kvPut_self {α : Type} (k : Nat) (v : α) (es : List (Nat × α)) : kvFind k (kvPut k v es) = some v :=
  kvFind_kvIns_self k v _ (kvFind_kvDel_self k es)

theorem kvFind_kvPut_ne {α : Type} {j k : Nat} (h : j ≠ k) (v : α) (es : List (Nat × α)) :
    kvFind j (kvPut k v es) = kvFind j es := by
  rw [kvPut, kvFind_kvIns_ne h, kvFind_kvDel_ne h]

@[simp] theorem regGet_regPut_self (d k v : Nat) (r : Regs) : regGet d k (regPut d k v r) = v := by
  unfold regPut
  split
  · simp [regGet, kvFind_kvDel_self, *]
  · simp [regGet]

theorem regGet_regPut_ne {j k : Nat} (h : j ≠ k) (d e v : Nat) (r : Regs) : regGet d j (regPut e k v r) = regGet d j r := by
  unfold regPut regGet
  split
  · rw [kvFind_kvDel_ne h]
  · rw [kvFind_kvPut_ne h]

@[simp] theorem Cell.get_put_self (c : Cell) (k v : Nat) : (c.put k v).get k = v := by simp [Cell.get, Cell.put]

theorem Cell.get_put_ne {j k : Nat} (h : j ≠ k) (c : Cell) (v : Nat) : (c.put k v).get j = c.get j := by
  simp [Cell.get, Cell.put, regGet_regPut_ne h]

/-- What an entry reads after a write of an entry. -/
theorem Cell.get_put (c : Cell) (j k v : Nat) : (c.put k v).get j = if j = k then v else c.get j := by
  split
  · subst_vars; simp
  · exact Cell.get_put_ne ‹_› c v

theorem Cell.get_inc32_self (c : Cell) (k : Nat) : (c.inc32 k).get k = wrapAdd 32 (c.get k) 1 := by
  simp [Cell.inc32, Cell.add32]

theorem Cell.get_inc32_ne {j k : Nat} (h : j ≠ k) (c : Cell) : (c.inc32 k).get j = c.get j := by
  simp [Cell.inc32, Cell.add32, Cell.get_put_ne h]

theorem Cell.get_inc64_self (c : Cell) (k : Nat) : (c.inc64 k).get k = wrapAdd 64 (c.get k) 1 := by
  simp [Cell.inc64, Cell.add64]

theorem Cell.get_inc64_ne {j k : Nat} (h : j ≠ k) (c : Cell) : (c.inc64 k).get j = c.get j := by
  simp [Cell.inc64, Cell.add64, Cell.get_put_ne h]

@[simp] theorem Glob.get_put_self (g : Glob) (k v : Nat) : (g.put k v).get k = v := by simp [Glob.get, Glob.put]

theorem Glob.get_put_ne {j k : Nat} (h : j ≠ k) (g : Glob) (v : Nat) : (g.put k v).get j = g.get j := by
  simp [Glob.get, Glob.put, regGet_regPut_ne h]

/-- What a shared entry reads after a write of an entry. -/
theorem Glob.get_put (g : Glob) (j k v : Nat) : (g.put k v).get j = if j = k then v else g.get j := by
  split
  · subst_vars; simp
  · exact Glob.get_put_ne ‹_› g v

@[simp] theorem Cell.dom_putDom_self (c : Cell) (k : Nat) (d v : List Byte) : (c.putDom k v).dom k d = v := by
  simp [Cell.dom, Cell.putDom]

theorem Cell.dom_putDom_ne {j k : Nat} (h : j ≠ k) (c : Cell) (d v : List Byte) : (c.putDom k v).dom j d = c.dom j d := by
  simp [Cell.dom, Cell.putDom, kvFind_kvPut_ne h]

end Sys2Proof.Machine
end

