-- ==== Sys2Proof/Laws/Memory.lean ====
section
/-! SUPPORT. The memory tiers: read after write, writes leave other bytes alone, and every memory operation keeps the canonical form. -/

namespace Sys2Proof.Machine

/-- A write is seen at its address and nowhere else. -/
theorem kvFind_lt_head {a : Nat} {e : Nat × Byte} {m : Memory} (h : a < e.1) (hm : (Memory.wf (e :: m)) = true) :
    kvFind a (e :: m) = none := by
  induction m generalizing e with
  | nil => simp [kvFind, Nat.ne_of_gt h]
  | cons f m ih =>
    simp only [Memory.wf, Bool.and_eq_true, bne_iff_ne, decide_eq_true_eq] at hm
    have := ih (Nat.lt_trans h hm.1.2) hm.2
    simp only [kvFind, Nat.ne_of_gt h, if_false]
    exact this

theorem Memory.wf_tail {e : Nat × Byte} {m : Memory} (h : Memory.wf (e :: m) = true) : Memory.wf m = true := by
  cases m with
  | nil => rfl
  | cons f m => simp only [Memory.wf, Bool.and_eq_true] at h; exact h.2

/-- A canonical list with a smaller non-zero byte in front is canonical. -/
theorem Memory.wf_cons {e : Nat × Byte} {m : Memory} (he : e.2 ≠ 0) (hm : Memory.wf m = true)
    (hlt : ∀ f ∈ m.head?, e.1 < f.1) : Memory.wf (e :: m) = true := by
  cases m with
  | nil => simpa [Memory.wf] using he
  | cons f m => simp [Memory.wf, hlt f (by simp), hm]; exact he

theorem Memory.wf_head {e : Nat × Byte} {m : Memory} (h : Memory.wf (e :: m) = true) : e.2 ≠ 0 ∧ ∀ f ∈ m.head?, e.1 < f.1 := by
  cases m with
  | nil => simpa [Memory.wf] using h
  | cons f m => simp only [Memory.wf, Bool.and_eq_true, bne_iff_ne, decide_eq_true_eq] at h; simpa using h.1

/-- The first address after a write is the old first address or the address written. -/
theorem memPut_head (a : Nat) (b : Byte) {lo : Nat} {m : Memory} (hm : Memory.wf m = true) (h : ∀ f ∈ m.head?, lo < f.1) (ha : lo < a) :
    ∀ f ∈ (memPut a b m).head?, lo < f.1 := by
  cases m with
  | nil => intro f hf; simp only [memPut] at hf; split at hf <;> simp_all; subst hf; exact ha
  | cons e m =>
    have he : lo < e.1 := h e (by simp)
    intro f hf
    simp only [memPut] at hf
    split at hf
    · split at hf <;> simp at hf <;> subst hf <;> assumption
    · split at hf
      · split at hf
        · have := (Memory.wf_head hm).2 f hf; omega
        · simp at hf; subst hf; exact ha
      · simp at hf; subst hf; exact he

/-- A write keeps the canonical form. -/
theorem memPut_wf (a : Nat) (b : Byte) {m : Memory} (hm : Memory.wf m = true) : Memory.wf (memPut a b m) = true := by
  induction m with
  | nil => simp only [memPut]; split <;> simp_all [Memory.wf]
  | cons e m ih =>
    have ht := Memory.wf_tail hm
    obtain ⟨hv, hh⟩ := Memory.wf_head hm
    simp only [memPut]
    split
    · split
      · exact hm
      · exact Memory.wf_cons (by assumption) hm (by simpa using by assumption)
    · split
      · split
        · exact ht
        · rename_i ha hb; subst ha; exact Memory.wf_cons hb ht hh
      · exact Memory.wf_cons hv (ih ht) (memPut_head a b ht hh (by omega))

/-- Read after write: the byte written at its address. -/
theorem memGet_memPut_self (a : Nat) (b : Byte) {m : Memory} (hm : Memory.wf m = true) : memGet (memPut a b m) a = b := by
  induction m with
  | nil => simp only [memPut]; split <;> simp_all [memGet, kvFind]
  | cons e m ih =>
    have ht := Memory.wf_tail hm
    simp only [memPut]
    split
    · rename_i ha
      split
      · rename_i hb; subst hb; simp [memGet, kvFind_lt_head ha hm]
      · simp [memGet, kvFind]
    · split
      · rename_i ha; subst ha
        split
        · rename_i hb; subst hb
          cases m with
          | nil => simp [memGet, kvFind]
          | cons f m => simp [memGet, kvFind_lt_head ((Memory.wf_head hm).2 f (by simp)) ht]
        · simp [memGet, kvFind]
      · rename_i h1 h2
        have : e.1 ≠ a := fun x => h2 x.symm
        simpa [memGet, kvFind, this] using ih ht

/-- Read after write: every other address as before. -/
theorem memGet_memPut_ne {a x : Nat} (h : x ≠ a) (b : Byte) (m : Memory) : memGet (memPut a b m) x = memGet m x := by
  induction m with
  | nil => simp only [memPut]; split <;> simp [memGet, kvFind, Ne.symm h]
  | cons e m ih =>
    simp only [memPut]
    split
    · split
      · rfl
      · simp [memGet, kvFind, Ne.symm h]
    · split
      · rename_i ha
        split
        · simp [memGet, kvFind, ← ha, Ne.symm h]
        · simp [memGet, kvFind, ← ha, Ne.symm h]
      · simp only [memGet, kvFind] at ih ⊢
        split
        · rfl
        · exact ih

/-- Writing bytes keeps the canonical form. -/
theorem memPutBytes_wf (bs : List Byte) (a : Nat) {m : Memory} (hm : Memory.wf m = true) : Memory.wf (memPutBytes a bs m) = true := by
  induction bs generalizing a m with
  | nil => exact hm
  | cons b bs ih => exact ih (a + 1) (memPut_wf a b hm)

/-- Bytes outside the written range read as before. -/
theorem memGet_memPutBytes_out (bs : List Byte) {a x : Nat} (h : x < a ∨ a + bs.length ≤ x) (m : Memory) :
    memGet (memPutBytes a bs m) x = memGet m x := by
  induction bs generalizing a m with
  | nil => rfl
  | cons b bs ih =>
    simp only [List.length_cons] at h
    rw [memPutBytes, ih (by omega), memGet_memPut_ne (by omega)]

theorem putStook_wf (s v : Nat) {m : Memory} (hm : Memory.wf m = true) : Memory.wf (putStook s v m) = true := memPutBytes_wf _ _ hm

/-- Leaving entries out keeps the canonical form. -/
theorem Memory.wf_filter (p : Nat × Byte → Bool) {m : Memory} (hm : Memory.wf m = true) : Memory.wf (m.filter p) = true := by
  have key : ∀ (m : Memory), Memory.wf m = true →
      Memory.wf (m.filter p) = true ∧ ∀ lo, (∀ f ∈ m.head?, lo < f.1) → ∀ f ∈ (m.filter p).head?, lo < f.1 := by
    intro m
    induction m with
    | nil => intro _; exact ⟨rfl, fun _ h => h⟩
    | cons e m ih =>
      intro hm
      obtain ⟨hv, hh⟩ := Memory.wf_head hm
      obtain ⟨iw, ih⟩ := ih (Memory.wf_tail hm)
      by_cases hp : p e = true
      · simp only [List.filter_cons_of_pos hp]
        exact ⟨Memory.wf_cons hv iw (ih e.1 hh), fun lo h f hf => by simp at hf; subst hf; exact h e (by simp)⟩
      · simp only [List.filter_cons_of_neg hp]
        exact ⟨iw, fun lo h => ih lo (fun f hf => Nat.lt_trans (h e (by simp)) (hh f hf))⟩
  exact (key m hm).1

theorem memClear_wf (lo hi : Nat) {m : Memory} (hm : Memory.wf m = true) : Memory.wf (memClear lo hi m) = true := Memory.wf_filter _ hm

end Sys2Proof.Machine
end

