-- ==== Sys2Proof/Laws/State.lean ====
section
/-! SUPPORT. Field by field, what the updates of the state leave alone: every later proof reads a field through an update by these. -/

namespace Sys2Proof.Machine

@[simp] theorem Cell.put_now (c : Cell) (k v : Nat) : (c.put k v).now = c.now := by rfl
@[simp] theorem Cell.put_nowNs (c : Cell) (k v : Nat) : (c.put k v).nowNs = c.nowNs := by rfl
@[simp] theorem Cell.put_held (c : Cell) (k v : Nat) : (c.put k v).held = c.held := by rfl
@[simp] theorem Cell.put_doms (c : Cell) (k v : Nat) : (c.put k v).doms = c.doms := by rfl
@[simp] theorem Cell.put_act (c : Cell) (k v : Nat) : (c.put k v).act = c.act := by rfl
@[simp] theorem Cell.put_actDoms (c : Cell) (k v : Nat) : (c.put k v).actDoms = c.actDoms := by rfl
@[simp] theorem Cell.put_arm (c : Cell) (k v : Nat) : (c.put k v).arm = c.arm := by rfl
@[simp] theorem Cell.put_armDoms (c : Cell) (k v : Nat) : (c.put k v).armDoms = c.armDoms := by rfl
@[simp] theorem Cell.put_frm (c : Cell) (k v : Nat) : (c.put k v).frm = c.frm := by rfl
@[simp] theorem Cell.put_frmDoms (c : Cell) (k v : Nat) : (c.put k v).frmDoms = c.frmDoms := by rfl
@[simp] theorem Cell.put_rst (c : Cell) (k v : Nat) : (c.put k v).rst = c.rst := by rfl
@[simp] theorem Cell.put_fab (c : Cell) (k v : Nat) : (c.put k v).fab = c.fab := by rfl
@[simp] theorem Cell.put_exe (c : Cell) (k v : Nat) : (c.put k v).exe = c.exe := by rfl
@[simp] theorem Cell.put_trk (c : Cell) (k v : Nat) : (c.put k v).trk = c.trk := by rfl
@[simp] theorem Cell.put_clk (c : Cell) (k v : Nat) : (c.put k v).clk = c.clk := by rfl
@[simp] theorem Cell.put_fe (c : Cell) (k v : Nat) : (c.put k v).fe = c.fe := by rfl
@[simp] theorem Cell.put_hay (c : Cell) (k v : Nat) : (c.put k v).hay = c.hay := by rfl
@[simp] theorem Cell.put_cor (c : Cell) (k v : Nat) : (c.put k v).cor = c.cor := by rfl
@[simp] theorem Cell.put_flt (c : Cell) (k v : Nat) : (c.put k v).flt = c.flt := by rfl
@[simp] theorem Cell.put_trg (c : Cell) (k v : Nat) : (c.put k v).trg = c.trg := by rfl
@[simp] theorem Cell.put_plc (c : Cell) (k v : Nat) : (c.put k v).plc = c.plc := by rfl
@[simp] theorem Cell.put_cap (c : Cell) (k v : Nat) : (c.put k v).cap = c.cap := by rfl
@[simp] theorem Cell.put_acc (c : Cell) (k v : Nat) : (c.put k v).acc = c.acc := by rfl
@[simp] theorem Cell.put_mem (c : Cell) (k v : Nat) : (c.put k v).mem = c.mem := by rfl
@[simp] theorem Cell.put_prt (c : Cell) (k v : Nat) : (c.put k v).prt = c.prt := by rfl
@[simp] theorem Cell.put_ras (c : Cell) (k v : Nat) : (c.put k v).ras = c.ras := by rfl
@[simp] theorem Cell.put_dma (c : Cell) (k v : Nat) : (c.put k v).dma = c.dma := by rfl
@[simp] theorem Cell.put_pat (c : Cell) (k v : Nat) : (c.put k v).pat = c.pat := by rfl
@[simp] theorem Cell.put_out (c : Cell) (k v : Nat) : (c.put k v).out = c.out := by rfl

@[simp] theorem Cell.putDom_now (c : Cell) (k : Nat) (v : List Byte) : (c.putDom k v).now = c.now := by rfl
@[simp] theorem Cell.putDom_nowNs (c : Cell) (k : Nat) (v : List Byte) : (c.putDom k v).nowNs = c.nowNs := by rfl
@[simp] theorem Cell.putDom_held (c : Cell) (k : Nat) (v : List Byte) : (c.putDom k v).held = c.held := by rfl
@[simp] theorem Cell.putDom_regs (c : Cell) (k : Nat) (v : List Byte) : (c.putDom k v).regs = c.regs := by rfl
@[simp] theorem Cell.putDom_act (c : Cell) (k : Nat) (v : List Byte) : (c.putDom k v).act = c.act := by rfl
@[simp] theorem Cell.putDom_actDoms (c : Cell) (k : Nat) (v : List Byte) : (c.putDom k v).actDoms = c.actDoms := by rfl
@[simp] theorem Cell.putDom_arm (c : Cell) (k : Nat) (v : List Byte) : (c.putDom k v).arm = c.arm := by rfl
@[simp] theorem Cell.putDom_armDoms (c : Cell) (k : Nat) (v : List Byte) : (c.putDom k v).armDoms = c.armDoms := by rfl
@[simp] theorem Cell.putDom_frm (c : Cell) (k : Nat) (v : List Byte) : (c.putDom k v).frm = c.frm := by rfl
@[simp] theorem Cell.putDom_frmDoms (c : Cell) (k : Nat) (v : List Byte) : (c.putDom k v).frmDoms = c.frmDoms := by rfl
@[simp] theorem Cell.putDom_rst (c : Cell) (k : Nat) (v : List Byte) : (c.putDom k v).rst = c.rst := by rfl
@[simp] theorem Cell.putDom_fab (c : Cell) (k : Nat) (v : List Byte) : (c.putDom k v).fab = c.fab := by rfl
@[simp] theorem Cell.putDom_exe (c : Cell) (k : Nat) (v : List Byte) : (c.putDom k v).exe = c.exe := by rfl
@[simp] theorem Cell.putDom_trk (c : Cell) (k : Nat) (v : List Byte) : (c.putDom k v).trk = c.trk := by rfl
@[simp] theorem Cell.putDom_clk (c : Cell) (k : Nat) (v : List Byte) : (c.putDom k v).clk = c.clk := by rfl
@[simp] theorem Cell.putDom_fe (c : Cell) (k : Nat) (v : List Byte) : (c.putDom k v).fe = c.fe := by rfl
@[simp] theorem Cell.putDom_hay (c : Cell) (k : Nat) (v : List Byte) : (c.putDom k v).hay = c.hay := by rfl
@[simp] theorem Cell.putDom_cor (c : Cell) (k : Nat) (v : List Byte) : (c.putDom k v).cor = c.cor := by rfl
@[simp] theorem Cell.putDom_flt (c : Cell) (k : Nat) (v : List Byte) : (c.putDom k v).flt = c.flt := by rfl
@[simp] theorem Cell.putDom_trg (c : Cell) (k : Nat) (v : List Byte) : (c.putDom k v).trg = c.trg := by rfl
@[simp] theorem Cell.putDom_plc (c : Cell) (k : Nat) (v : List Byte) : (c.putDom k v).plc = c.plc := by rfl
@[simp] theorem Cell.putDom_cap (c : Cell) (k : Nat) (v : List Byte) : (c.putDom k v).cap = c.cap := by rfl
@[simp] theorem Cell.putDom_acc (c : Cell) (k : Nat) (v : List Byte) : (c.putDom k v).acc = c.acc := by rfl
@[simp] theorem Cell.putDom_mem (c : Cell) (k : Nat) (v : List Byte) : (c.putDom k v).mem = c.mem := by rfl
@[simp] theorem Cell.putDom_prt (c : Cell) (k : Nat) (v : List Byte) : (c.putDom k v).prt = c.prt := by rfl
@[simp] theorem Cell.putDom_ras (c : Cell) (k : Nat) (v : List Byte) : (c.putDom k v).ras = c.ras := by rfl
@[simp] theorem Cell.putDom_dma (c : Cell) (k : Nat) (v : List Byte) : (c.putDom k v).dma = c.dma := by rfl
@[simp] theorem Cell.putDom_pat (c : Cell) (k : Nat) (v : List Byte) : (c.putDom k v).pat = c.pat := by rfl
@[simp] theorem Cell.putDom_out (c : Cell) (k : Nat) (v : List Byte) : (c.putDom k v).out = c.out := by rfl

@[simp] theorem Cell.inc32_now (c : Cell) (k : Nat) : (c.inc32 k).now = c.now := by rfl
@[simp] theorem Cell.inc32_nowNs (c : Cell) (k : Nat) : (c.inc32 k).nowNs = c.nowNs := by rfl
@[simp] theorem Cell.inc32_held (c : Cell) (k : Nat) : (c.inc32 k).held = c.held := by rfl
@[simp] theorem Cell.inc32_doms (c : Cell) (k : Nat) : (c.inc32 k).doms = c.doms := by rfl
@[simp] theorem Cell.inc32_act (c : Cell) (k : Nat) : (c.inc32 k).act = c.act := by rfl
@[simp] theorem Cell.inc32_actDoms (c : Cell) (k : Nat) : (c.inc32 k).actDoms = c.actDoms := by rfl
@[simp] theorem Cell.inc32_arm (c : Cell) (k : Nat) : (c.inc32 k).arm = c.arm := by rfl
@[simp] theorem Cell.inc32_armDoms (c : Cell) (k : Nat) : (c.inc32 k).armDoms = c.armDoms := by rfl
@[simp] theorem Cell.inc32_frm (c : Cell) (k : Nat) : (c.inc32 k).frm = c.frm := by rfl
@[simp] theorem Cell.inc32_frmDoms (c : Cell) (k : Nat) : (c.inc32 k).frmDoms = c.frmDoms := by rfl
@[simp] theorem Cell.inc32_rst (c : Cell) (k : Nat) : (c.inc32 k).rst = c.rst := by rfl
@[simp] theorem Cell.inc32_fab (c : Cell) (k : Nat) : (c.inc32 k).fab = c.fab := by rfl
@[simp] theorem Cell.inc32_exe (c : Cell) (k : Nat) : (c.inc32 k).exe = c.exe := by rfl
@[simp] theorem Cell.inc32_trk (c : Cell) (k : Nat) : (c.inc32 k).trk = c.trk := by rfl
@[simp] theorem Cell.inc32_clk (c : Cell) (k : Nat) : (c.inc32 k).clk = c.clk := by rfl
@[simp] theorem Cell.inc32_fe (c : Cell) (k : Nat) : (c.inc32 k).fe = c.fe := by rfl
@[simp] theorem Cell.inc32_hay (c : Cell) (k : Nat) : (c.inc32 k).hay = c.hay := by rfl
@[simp] theorem Cell.inc32_cor (c : Cell) (k : Nat) : (c.inc32 k).cor = c.cor := by rfl
@[simp] theorem Cell.inc32_flt (c : Cell) (k : Nat) : (c.inc32 k).flt = c.flt := by rfl
@[simp] theorem Cell.inc32_trg (c : Cell) (k : Nat) : (c.inc32 k).trg = c.trg := by rfl
@[simp] theorem Cell.inc32_plc (c : Cell) (k : Nat) : (c.inc32 k).plc = c.plc := by rfl
@[simp] theorem Cell.inc32_cap (c : Cell) (k : Nat) : (c.inc32 k).cap = c.cap := by rfl
@[simp] theorem Cell.inc32_acc (c : Cell) (k : Nat) : (c.inc32 k).acc = c.acc := by rfl
@[simp] theorem Cell.inc32_mem (c : Cell) (k : Nat) : (c.inc32 k).mem = c.mem := by rfl
@[simp] theorem Cell.inc32_prt (c : Cell) (k : Nat) : (c.inc32 k).prt = c.prt := by rfl
@[simp] theorem Cell.inc32_ras (c : Cell) (k : Nat) : (c.inc32 k).ras = c.ras := by rfl
@[simp] theorem Cell.inc32_dma (c : Cell) (k : Nat) : (c.inc32 k).dma = c.dma := by rfl
@[simp] theorem Cell.inc32_pat (c : Cell) (k : Nat) : (c.inc32 k).pat = c.pat := by rfl
@[simp] theorem Cell.inc32_out (c : Cell) (k : Nat) : (c.inc32 k).out = c.out := by rfl

@[simp] theorem Cell.inc64_now (c : Cell) (k : Nat) : (c.inc64 k).now = c.now := by rfl
@[simp] theorem Cell.inc64_nowNs (c : Cell) (k : Nat) : (c.inc64 k).nowNs = c.nowNs := by rfl
@[simp] theorem Cell.inc64_held (c : Cell) (k : Nat) : (c.inc64 k).held = c.held := by rfl
@[simp] theorem Cell.inc64_doms (c : Cell) (k : Nat) : (c.inc64 k).doms = c.doms := by rfl
@[simp] theorem Cell.inc64_act (c : Cell) (k : Nat) : (c.inc64 k).act = c.act := by rfl
@[simp] theorem Cell.inc64_actDoms (c : Cell) (k : Nat) : (c.inc64 k).actDoms = c.actDoms := by rfl
@[simp] theorem Cell.inc64_arm (c : Cell) (k : Nat) : (c.inc64 k).arm = c.arm := by rfl
@[simp] theorem Cell.inc64_armDoms (c : Cell) (k : Nat) : (c.inc64 k).armDoms = c.armDoms := by rfl
@[simp] theorem Cell.inc64_frm (c : Cell) (k : Nat) : (c.inc64 k).frm = c.frm := by rfl
@[simp] theorem Cell.inc64_frmDoms (c : Cell) (k : Nat) : (c.inc64 k).frmDoms = c.frmDoms := by rfl
@[simp] theorem Cell.inc64_rst (c : Cell) (k : Nat) : (c.inc64 k).rst = c.rst := by rfl
@[simp] theorem Cell.inc64_fab (c : Cell) (k : Nat) : (c.inc64 k).fab = c.fab := by rfl
@[simp] theorem Cell.inc64_exe (c : Cell) (k : Nat) : (c.inc64 k).exe = c.exe := by rfl
@[simp] theorem Cell.inc64_trk (c : Cell) (k : Nat) : (c.inc64 k).trk = c.trk := by rfl
@[simp] theorem Cell.inc64_clk (c : Cell) (k : Nat) : (c.inc64 k).clk = c.clk := by rfl
@[simp] theorem Cell.inc64_fe (c : Cell) (k : Nat) : (c.inc64 k).fe = c.fe := by rfl
@[simp] theorem Cell.inc64_hay (c : Cell) (k : Nat) : (c.inc64 k).hay = c.hay := by rfl
@[simp] theorem Cell.inc64_cor (c : Cell) (k : Nat) : (c.inc64 k).cor = c.cor := by rfl
@[simp] theorem Cell.inc64_flt (c : Cell) (k : Nat) : (c.inc64 k).flt = c.flt := by rfl
@[simp] theorem Cell.inc64_trg (c : Cell) (k : Nat) : (c.inc64 k).trg = c.trg := by rfl
@[simp] theorem Cell.inc64_plc (c : Cell) (k : Nat) : (c.inc64 k).plc = c.plc := by rfl
@[simp] theorem Cell.inc64_cap (c : Cell) (k : Nat) : (c.inc64 k).cap = c.cap := by rfl
@[simp] theorem Cell.inc64_acc (c : Cell) (k : Nat) : (c.inc64 k).acc = c.acc := by rfl
@[simp] theorem Cell.inc64_mem (c : Cell) (k : Nat) : (c.inc64 k).mem = c.mem := by rfl
@[simp] theorem Cell.inc64_prt (c : Cell) (k : Nat) : (c.inc64 k).prt = c.prt := by rfl
@[simp] theorem Cell.inc64_ras (c : Cell) (k : Nat) : (c.inc64 k).ras = c.ras := by rfl
@[simp] theorem Cell.inc64_dma (c : Cell) (k : Nat) : (c.inc64 k).dma = c.dma := by rfl
@[simp] theorem Cell.inc64_pat (c : Cell) (k : Nat) : (c.inc64 k).pat = c.pat := by rfl
@[simp] theorem Cell.inc64_out (c : Cell) (k : Nat) : (c.inc64 k).out = c.out := by rfl

@[simp] theorem Cell.add32_now (c : Cell) (k d : Nat) : (c.add32 k d).now = c.now := by rfl
@[simp] theorem Cell.add32_nowNs (c : Cell) (k d : Nat) : (c.add32 k d).nowNs = c.nowNs := by rfl
@[simp] theorem Cell.add32_held (c : Cell) (k d : Nat) : (c.add32 k d).held = c.held := by rfl
@[simp] theorem Cell.add32_doms (c : Cell) (k d : Nat) : (c.add32 k d).doms = c.doms := by rfl
@[simp] theorem Cell.add32_act (c : Cell) (k d : Nat) : (c.add32 k d).act = c.act := by rfl
@[simp] theorem Cell.add32_actDoms (c : Cell) (k d : Nat) : (c.add32 k d).actDoms = c.actDoms := by rfl
@[simp] theorem Cell.add32_arm (c : Cell) (k d : Nat) : (c.add32 k d).arm = c.arm := by rfl
@[simp] theorem Cell.add32_armDoms (c : Cell) (k d : Nat) : (c.add32 k d).armDoms = c.armDoms := by rfl
@[simp] theorem Cell.add32_frm (c : Cell) (k d : Nat) : (c.add32 k d).frm = c.frm := by rfl
@[simp] theorem Cell.add32_frmDoms (c : Cell) (k d : Nat) : (c.add32 k d).frmDoms = c.frmDoms := by rfl
@[simp] theorem Cell.add32_rst (c : Cell) (k d : Nat) : (c.add32 k d).rst = c.rst := by rfl
@[simp] theorem Cell.add32_fab (c : Cell) (k d : Nat) : (c.add32 k d).fab = c.fab := by rfl
@[simp] theorem Cell.add32_exe (c : Cell) (k d : Nat) : (c.add32 k d).exe = c.exe := by rfl
@[simp] theorem Cell.add32_trk (c : Cell) (k d : Nat) : (c.add32 k d).trk = c.trk := by rfl
@[simp] theorem Cell.add32_clk (c : Cell) (k d : Nat) : (c.add32 k d).clk = c.clk := by rfl
@[simp] theorem Cell.add32_fe (c : Cell) (k d : Nat) : (c.add32 k d).fe = c.fe := by rfl
@[simp] theorem Cell.add32_hay (c : Cell) (k d : Nat) : (c.add32 k d).hay = c.hay := by rfl
@[simp] theorem Cell.add32_cor (c : Cell) (k d : Nat) : (c.add32 k d).cor = c.cor := by rfl
@[simp] theorem Cell.add32_flt (c : Cell) (k d : Nat) : (c.add32 k d).flt = c.flt := by rfl
@[simp] theorem Cell.add32_trg (c : Cell) (k d : Nat) : (c.add32 k d).trg = c.trg := by rfl
@[simp] theorem Cell.add32_plc (c : Cell) (k d : Nat) : (c.add32 k d).plc = c.plc := by rfl
@[simp] theorem Cell.add32_cap (c : Cell) (k d : Nat) : (c.add32 k d).cap = c.cap := by rfl
@[simp] theorem Cell.add32_acc (c : Cell) (k d : Nat) : (c.add32 k d).acc = c.acc := by rfl
@[simp] theorem Cell.add32_mem (c : Cell) (k d : Nat) : (c.add32 k d).mem = c.mem := by rfl
@[simp] theorem Cell.add32_prt (c : Cell) (k d : Nat) : (c.add32 k d).prt = c.prt := by rfl
@[simp] theorem Cell.add32_ras (c : Cell) (k d : Nat) : (c.add32 k d).ras = c.ras := by rfl
@[simp] theorem Cell.add32_dma (c : Cell) (k d : Nat) : (c.add32 k d).dma = c.dma := by rfl
@[simp] theorem Cell.add32_pat (c : Cell) (k d : Nat) : (c.add32 k d).pat = c.pat := by rfl
@[simp] theorem Cell.add32_out (c : Cell) (k d : Nat) : (c.add32 k d).out = c.out := by rfl

@[simp] theorem Cell.clearCounters_now (c : Cell) (lo hi : Nat) : (c.clearCounters lo hi).now = c.now := by rfl
@[simp] theorem Cell.clearCounters_nowNs (c : Cell) (lo hi : Nat) : (c.clearCounters lo hi).nowNs = c.nowNs := by rfl
@[simp] theorem Cell.clearCounters_held (c : Cell) (lo hi : Nat) : (c.clearCounters lo hi).held = c.held := by rfl
@[simp] theorem Cell.clearCounters_doms (c : Cell) (lo hi : Nat) : (c.clearCounters lo hi).doms = c.doms := by rfl
@[simp] theorem Cell.clearCounters_act (c : Cell) (lo hi : Nat) : (c.clearCounters lo hi).act = c.act := by rfl
@[simp] theorem Cell.clearCounters_actDoms (c : Cell) (lo hi : Nat) : (c.clearCounters lo hi).actDoms = c.actDoms := by rfl
@[simp] theorem Cell.clearCounters_arm (c : Cell) (lo hi : Nat) : (c.clearCounters lo hi).arm = c.arm := by rfl
@[simp] theorem Cell.clearCounters_armDoms (c : Cell) (lo hi : Nat) : (c.clearCounters lo hi).armDoms = c.armDoms := by rfl
@[simp] theorem Cell.clearCounters_frm (c : Cell) (lo hi : Nat) : (c.clearCounters lo hi).frm = c.frm := by rfl
@[simp] theorem Cell.clearCounters_frmDoms (c : Cell) (lo hi : Nat) : (c.clearCounters lo hi).frmDoms = c.frmDoms := by rfl
@[simp] theorem Cell.clearCounters_rst (c : Cell) (lo hi : Nat) : (c.clearCounters lo hi).rst = c.rst := by rfl
@[simp] theorem Cell.clearCounters_fab (c : Cell) (lo hi : Nat) : (c.clearCounters lo hi).fab = c.fab := by rfl
@[simp] theorem Cell.clearCounters_exe (c : Cell) (lo hi : Nat) : (c.clearCounters lo hi).exe = c.exe := by rfl
@[simp] theorem Cell.clearCounters_trk (c : Cell) (lo hi : Nat) : (c.clearCounters lo hi).trk = c.trk := by rfl
@[simp] theorem Cell.clearCounters_clk (c : Cell) (lo hi : Nat) : (c.clearCounters lo hi).clk = c.clk := by rfl
@[simp] theorem Cell.clearCounters_fe (c : Cell) (lo hi : Nat) : (c.clearCounters lo hi).fe = c.fe := by rfl
@[simp] theorem Cell.clearCounters_hay (c : Cell) (lo hi : Nat) : (c.clearCounters lo hi).hay = c.hay := by rfl
@[simp] theorem Cell.clearCounters_cor (c : Cell) (lo hi : Nat) : (c.clearCounters lo hi).cor = c.cor := by rfl
@[simp] theorem Cell.clearCounters_flt (c : Cell) (lo hi : Nat) : (c.clearCounters lo hi).flt = c.flt := by rfl
@[simp] theorem Cell.clearCounters_trg (c : Cell) (lo hi : Nat) : (c.clearCounters lo hi).trg = c.trg := by rfl
@[simp] theorem Cell.clearCounters_plc (c : Cell) (lo hi : Nat) : (c.clearCounters lo hi).plc = c.plc := by rfl
@[simp] theorem Cell.clearCounters_cap (c : Cell) (lo hi : Nat) : (c.clearCounters lo hi).cap = c.cap := by rfl
@[simp] theorem Cell.clearCounters_acc (c : Cell) (lo hi : Nat) : (c.clearCounters lo hi).acc = c.acc := by rfl
@[simp] theorem Cell.clearCounters_mem (c : Cell) (lo hi : Nat) : (c.clearCounters lo hi).mem = c.mem := by rfl
@[simp] theorem Cell.clearCounters_prt (c : Cell) (lo hi : Nat) : (c.clearCounters lo hi).prt = c.prt := by rfl
@[simp] theorem Cell.clearCounters_ras (c : Cell) (lo hi : Nat) : (c.clearCounters lo hi).ras = c.ras := by rfl
@[simp] theorem Cell.clearCounters_dma (c : Cell) (lo hi : Nat) : (c.clearCounters lo hi).dma = c.dma := by rfl
@[simp] theorem Cell.clearCounters_pat (c : Cell) (lo hi : Nat) : (c.clearCounters lo hi).pat = c.pat := by rfl
@[simp] theorem Cell.clearCounters_out (c : Cell) (lo hi : Nat) : (c.clearCounters lo hi).out = c.out := by rfl

@[simp] theorem Cell.send_now (c : Cell) (m : Msg) : (c.send m).now = c.now := by rfl
@[simp] theorem Cell.send_nowNs (c : Cell) (m : Msg) : (c.send m).nowNs = c.nowNs := by rfl
@[simp] theorem Cell.send_held (c : Cell) (m : Msg) : (c.send m).held = c.held := by rfl
@[simp] theorem Cell.send_regs (c : Cell) (m : Msg) : (c.send m).regs = c.regs := by rfl
@[simp] theorem Cell.send_doms (c : Cell) (m : Msg) : (c.send m).doms = c.doms := by rfl
@[simp] theorem Cell.send_act (c : Cell) (m : Msg) : (c.send m).act = c.act := by rfl
@[simp] theorem Cell.send_actDoms (c : Cell) (m : Msg) : (c.send m).actDoms = c.actDoms := by rfl
@[simp] theorem Cell.send_arm (c : Cell) (m : Msg) : (c.send m).arm = c.arm := by rfl
@[simp] theorem Cell.send_armDoms (c : Cell) (m : Msg) : (c.send m).armDoms = c.armDoms := by rfl
@[simp] theorem Cell.send_frm (c : Cell) (m : Msg) : (c.send m).frm = c.frm := by rfl
@[simp] theorem Cell.send_frmDoms (c : Cell) (m : Msg) : (c.send m).frmDoms = c.frmDoms := by rfl
@[simp] theorem Cell.send_rst (c : Cell) (m : Msg) : (c.send m).rst = c.rst := by rfl
@[simp] theorem Cell.send_fab (c : Cell) (m : Msg) : (c.send m).fab = c.fab := by rfl
@[simp] theorem Cell.send_exe (c : Cell) (m : Msg) : (c.send m).exe = c.exe := by rfl
@[simp] theorem Cell.send_trk (c : Cell) (m : Msg) : (c.send m).trk = c.trk := by rfl
@[simp] theorem Cell.send_clk (c : Cell) (m : Msg) : (c.send m).clk = c.clk := by rfl
@[simp] theorem Cell.send_fe (c : Cell) (m : Msg) : (c.send m).fe = c.fe := by rfl
@[simp] theorem Cell.send_hay (c : Cell) (m : Msg) : (c.send m).hay = c.hay := by rfl
@[simp] theorem Cell.send_cor (c : Cell) (m : Msg) : (c.send m).cor = c.cor := by rfl
@[simp] theorem Cell.send_flt (c : Cell) (m : Msg) : (c.send m).flt = c.flt := by rfl
@[simp] theorem Cell.send_trg (c : Cell) (m : Msg) : (c.send m).trg = c.trg := by rfl
@[simp] theorem Cell.send_plc (c : Cell) (m : Msg) : (c.send m).plc = c.plc := by rfl
@[simp] theorem Cell.send_cap (c : Cell) (m : Msg) : (c.send m).cap = c.cap := by rfl
@[simp] theorem Cell.send_acc (c : Cell) (m : Msg) : (c.send m).acc = c.acc := by rfl
@[simp] theorem Cell.send_mem (c : Cell) (m : Msg) : (c.send m).mem = c.mem := by rfl
@[simp] theorem Cell.send_prt (c : Cell) (m : Msg) : (c.send m).prt = c.prt := by rfl
@[simp] theorem Cell.send_ras (c : Cell) (m : Msg) : (c.send m).ras = c.ras := by rfl
@[simp] theorem Cell.send_dma (c : Cell) (m : Msg) : (c.send m).dma = c.dma := by rfl
@[simp] theorem Cell.send_pat (c : Cell) (m : Msg) : (c.send m).pat = c.pat := by rfl

@[simp] theorem Cell.log_now (c : Cell) (code sev : Nat) (d : List Byte) : (c.log code sev d).now = c.now := by rfl
@[simp] theorem Cell.log_nowNs (c : Cell) (code sev : Nat) (d : List Byte) : (c.log code sev d).nowNs = c.nowNs := by rfl
@[simp] theorem Cell.log_held (c : Cell) (code sev : Nat) (d : List Byte) : (c.log code sev d).held = c.held := by rfl
@[simp] theorem Cell.log_regs (c : Cell) (code sev : Nat) (d : List Byte) : (c.log code sev d).regs = c.regs := by rfl
@[simp] theorem Cell.log_doms (c : Cell) (code sev : Nat) (d : List Byte) : (c.log code sev d).doms = c.doms := by rfl
@[simp] theorem Cell.log_act (c : Cell) (code sev : Nat) (d : List Byte) : (c.log code sev d).act = c.act := by rfl
@[simp] theorem Cell.log_actDoms (c : Cell) (code sev : Nat) (d : List Byte) : (c.log code sev d).actDoms = c.actDoms := by rfl
@[simp] theorem Cell.log_arm (c : Cell) (code sev : Nat) (d : List Byte) : (c.log code sev d).arm = c.arm := by rfl
@[simp] theorem Cell.log_armDoms (c : Cell) (code sev : Nat) (d : List Byte) : (c.log code sev d).armDoms = c.armDoms := by rfl
@[simp] theorem Cell.log_frm (c : Cell) (code sev : Nat) (d : List Byte) : (c.log code sev d).frm = c.frm := by rfl
@[simp] theorem Cell.log_frmDoms (c : Cell) (code sev : Nat) (d : List Byte) : (c.log code sev d).frmDoms = c.frmDoms := by rfl
@[simp] theorem Cell.log_rst (c : Cell) (code sev : Nat) (d : List Byte) : (c.log code sev d).rst = c.rst := by rfl
@[simp] theorem Cell.log_fab (c : Cell) (code sev : Nat) (d : List Byte) : (c.log code sev d).fab = c.fab := by rfl
@[simp] theorem Cell.log_exe (c : Cell) (code sev : Nat) (d : List Byte) : (c.log code sev d).exe = c.exe := by rfl
@[simp] theorem Cell.log_trk (c : Cell) (code sev : Nat) (d : List Byte) : (c.log code sev d).trk = c.trk := by rfl
@[simp] theorem Cell.log_clk (c : Cell) (code sev : Nat) (d : List Byte) : (c.log code sev d).clk = c.clk := by rfl
@[simp] theorem Cell.log_fe (c : Cell) (code sev : Nat) (d : List Byte) : (c.log code sev d).fe = c.fe := by rfl
@[simp] theorem Cell.log_hay (c : Cell) (code sev : Nat) (d : List Byte) : (c.log code sev d).hay = c.hay := by rfl
@[simp] theorem Cell.log_cor (c : Cell) (code sev : Nat) (d : List Byte) : (c.log code sev d).cor = c.cor := by rfl
@[simp] theorem Cell.log_flt (c : Cell) (code sev : Nat) (d : List Byte) : (c.log code sev d).flt = c.flt := by rfl
@[simp] theorem Cell.log_trg (c : Cell) (code sev : Nat) (d : List Byte) : (c.log code sev d).trg = c.trg := by rfl
@[simp] theorem Cell.log_plc (c : Cell) (code sev : Nat) (d : List Byte) : (c.log code sev d).plc = c.plc := by rfl
@[simp] theorem Cell.log_cap (c : Cell) (code sev : Nat) (d : List Byte) : (c.log code sev d).cap = c.cap := by rfl
@[simp] theorem Cell.log_acc (c : Cell) (code sev : Nat) (d : List Byte) : (c.log code sev d).acc = c.acc := by rfl
@[simp] theorem Cell.log_mem (c : Cell) (code sev : Nat) (d : List Byte) : (c.log code sev d).mem = c.mem := by rfl
@[simp] theorem Cell.log_prt (c : Cell) (code sev : Nat) (d : List Byte) : (c.log code sev d).prt = c.prt := by rfl
@[simp] theorem Cell.log_ras (c : Cell) (code sev : Nat) (d : List Byte) : (c.log code sev d).ras = c.ras := by rfl
@[simp] theorem Cell.log_dma (c : Cell) (code sev : Nat) (d : List Byte) : (c.log code sev d).dma = c.dma := by rfl
@[simp] theorem Cell.log_pat (c : Cell) (code sev : Nat) (d : List Byte) : (c.log code sev d).pat = c.pat := by rfl

@[simp] theorem Cell.pulseAt_now (c : Cell) (l t : Nat) : (c.pulseAt l t).now = c.now := by unfold Cell.pulseAt; split <;> rfl
@[simp] theorem Cell.pulseAt_nowNs (c : Cell) (l t : Nat) : (c.pulseAt l t).nowNs = c.nowNs := by unfold Cell.pulseAt; split <;> rfl
@[simp] theorem Cell.pulseAt_held (c : Cell) (l t : Nat) : (c.pulseAt l t).held = c.held := by unfold Cell.pulseAt; split <;> rfl
@[simp] theorem Cell.pulseAt_doms (c : Cell) (l t : Nat) : (c.pulseAt l t).doms = c.doms := by unfold Cell.pulseAt; split <;> rfl
@[simp] theorem Cell.pulseAt_act (c : Cell) (l t : Nat) : (c.pulseAt l t).act = c.act := by unfold Cell.pulseAt; split <;> rfl
@[simp] theorem Cell.pulseAt_actDoms (c : Cell) (l t : Nat) : (c.pulseAt l t).actDoms = c.actDoms := by unfold Cell.pulseAt; split <;> rfl
@[simp] theorem Cell.pulseAt_arm (c : Cell) (l t : Nat) : (c.pulseAt l t).arm = c.arm := by unfold Cell.pulseAt; split <;> rfl
@[simp] theorem Cell.pulseAt_armDoms (c : Cell) (l t : Nat) : (c.pulseAt l t).armDoms = c.armDoms := by unfold Cell.pulseAt; split <;> rfl
@[simp] theorem Cell.pulseAt_frm (c : Cell) (l t : Nat) : (c.pulseAt l t).frm = c.frm := by unfold Cell.pulseAt; split <;> rfl
@[simp] theorem Cell.pulseAt_frmDoms (c : Cell) (l t : Nat) : (c.pulseAt l t).frmDoms = c.frmDoms := by unfold Cell.pulseAt; split <;> rfl
@[simp] theorem Cell.pulseAt_rst (c : Cell) (l t : Nat) : (c.pulseAt l t).rst = c.rst := by unfold Cell.pulseAt; split <;> rfl
@[simp] theorem Cell.pulseAt_exe (c : Cell) (l t : Nat) : (c.pulseAt l t).exe = c.exe := by unfold Cell.pulseAt; split <;> rfl
@[simp] theorem Cell.pulseAt_trk (c : Cell) (l t : Nat) : (c.pulseAt l t).trk = c.trk := by unfold Cell.pulseAt; split <;> rfl
@[simp] theorem Cell.pulseAt_clk (c : Cell) (l t : Nat) : (c.pulseAt l t).clk = c.clk := by unfold Cell.pulseAt; split <;> rfl
@[simp] theorem Cell.pulseAt_fe (c : Cell) (l t : Nat) : (c.pulseAt l t).fe = c.fe := by unfold Cell.pulseAt; split <;> rfl
@[simp] theorem Cell.pulseAt_hay (c : Cell) (l t : Nat) : (c.pulseAt l t).hay = c.hay := by unfold Cell.pulseAt; split <;> rfl
@[simp] theorem Cell.pulseAt_cor (c : Cell) (l t : Nat) : (c.pulseAt l t).cor = c.cor := by unfold Cell.pulseAt; split <;> rfl
@[simp] theorem Cell.pulseAt_flt (c : Cell) (l t : Nat) : (c.pulseAt l t).flt = c.flt := by unfold Cell.pulseAt; split <;> rfl
@[simp] theorem Cell.pulseAt_trg (c : Cell) (l t : Nat) : (c.pulseAt l t).trg = c.trg := by unfold Cell.pulseAt; split <;> rfl
@[simp] theorem Cell.pulseAt_plc (c : Cell) (l t : Nat) : (c.pulseAt l t).plc = c.plc := by unfold Cell.pulseAt; split <;> rfl
@[simp] theorem Cell.pulseAt_cap (c : Cell) (l t : Nat) : (c.pulseAt l t).cap = c.cap := by unfold Cell.pulseAt; split <;> rfl
@[simp] theorem Cell.pulseAt_acc (c : Cell) (l t : Nat) : (c.pulseAt l t).acc = c.acc := by unfold Cell.pulseAt; split <;> rfl
@[simp] theorem Cell.pulseAt_mem (c : Cell) (l t : Nat) : (c.pulseAt l t).mem = c.mem := by unfold Cell.pulseAt; split <;> rfl
@[simp] theorem Cell.pulseAt_prt (c : Cell) (l t : Nat) : (c.pulseAt l t).prt = c.prt := by unfold Cell.pulseAt; split <;> rfl
@[simp] theorem Cell.pulseAt_ras (c : Cell) (l t : Nat) : (c.pulseAt l t).ras = c.ras := by unfold Cell.pulseAt; split <;> rfl
@[simp] theorem Cell.pulseAt_dma (c : Cell) (l t : Nat) : (c.pulseAt l t).dma = c.dma := by unfold Cell.pulseAt; split <;> rfl
@[simp] theorem Cell.pulseAt_out (c : Cell) (l t : Nat) : (c.pulseAt l t).out = c.out := by unfold Cell.pulseAt; split <;> rfl

@[simp] theorem Cell.pulse_now (c : Cell) (l : Nat) : (c.pulse l).now = c.now := by simp [Cell.pulse]
@[simp] theorem Cell.pulse_nowNs (c : Cell) (l : Nat) : (c.pulse l).nowNs = c.nowNs := by simp [Cell.pulse]
@[simp] theorem Cell.pulse_held (c : Cell) (l : Nat) : (c.pulse l).held = c.held := by simp [Cell.pulse]
@[simp] theorem Cell.pulse_doms (c : Cell) (l : Nat) : (c.pulse l).doms = c.doms := by simp [Cell.pulse]
@[simp] theorem Cell.pulse_act (c : Cell) (l : Nat) : (c.pulse l).act = c.act := by simp [Cell.pulse]
@[simp] theorem Cell.pulse_actDoms (c : Cell) (l : Nat) : (c.pulse l).actDoms = c.actDoms := by simp [Cell.pulse]
@[simp] theorem Cell.pulse_arm (c : Cell) (l : Nat) : (c.pulse l).arm = c.arm := by simp [Cell.pulse]
@[simp] theorem Cell.pulse_armDoms (c : Cell) (l : Nat) : (c.pulse l).armDoms = c.armDoms := by simp [Cell.pulse]
@[simp] theorem Cell.pulse_frm (c : Cell) (l : Nat) : (c.pulse l).frm = c.frm := by simp [Cell.pulse]
@[simp] theorem Cell.pulse_frmDoms (c : Cell) (l : Nat) : (c.pulse l).frmDoms = c.frmDoms := by simp [Cell.pulse]
@[simp] theorem Cell.pulse_rst (c : Cell) (l : Nat) : (c.pulse l).rst = c.rst := by simp [Cell.pulse]
@[simp] theorem Cell.pulse_exe (c : Cell) (l : Nat) : (c.pulse l).exe = c.exe := by simp [Cell.pulse]
@[simp] theorem Cell.pulse_trk (c : Cell) (l : Nat) : (c.pulse l).trk = c.trk := by simp [Cell.pulse]
@[simp] theorem Cell.pulse_clk (c : Cell) (l : Nat) : (c.pulse l).clk = c.clk := by simp [Cell.pulse]
@[simp] theorem Cell.pulse_fe (c : Cell) (l : Nat) : (c.pulse l).fe = c.fe := by simp [Cell.pulse]
@[simp] theorem Cell.pulse_hay (c : Cell) (l : Nat) : (c.pulse l).hay = c.hay := by simp [Cell.pulse]
@[simp] theorem Cell.pulse_cor (c : Cell) (l : Nat) : (c.pulse l).cor = c.cor := by simp [Cell.pulse]
@[simp] theorem Cell.pulse_flt (c : Cell) (l : Nat) : (c.pulse l).flt = c.flt := by simp [Cell.pulse]
@[simp] theorem Cell.pulse_trg (c : Cell) (l : Nat) : (c.pulse l).trg = c.trg := by simp [Cell.pulse]
@[simp] theorem Cell.pulse_plc (c : Cell) (l : Nat) : (c.pulse l).plc = c.plc := by simp [Cell.pulse]
@[simp] theorem Cell.pulse_cap (c : Cell) (l : Nat) : (c.pulse l).cap = c.cap := by simp [Cell.pulse]
@[simp] theorem Cell.pulse_acc (c : Cell) (l : Nat) : (c.pulse l).acc = c.acc := by simp [Cell.pulse]
@[simp] theorem Cell.pulse_mem (c : Cell) (l : Nat) : (c.pulse l).mem = c.mem := by simp [Cell.pulse]
@[simp] theorem Cell.pulse_prt (c : Cell) (l : Nat) : (c.pulse l).prt = c.prt := by simp [Cell.pulse]
@[simp] theorem Cell.pulse_ras (c : Cell) (l : Nat) : (c.pulse l).ras = c.ras := by simp [Cell.pulse]
@[simp] theorem Cell.pulse_dma (c : Cell) (l : Nat) : (c.pulse l).dma = c.dma := by simp [Cell.pulse]
@[simp] theorem Cell.pulse_out (c : Cell) (l : Nat) : (c.pulse l).out = c.out := by simp [Cell.pulse]

@[simp] theorem Glob.put_nowNs (g : Glob) (k v : Nat) : (g.put k v).nowNs = g.nowNs := by rfl
@[simp] theorem Glob.put_doms (g : Glob) (k v : Nat) : (g.put k v).doms = g.doms := by rfl
@[simp] theorem Glob.put_rst (g : Glob) (k v : Nat) : (g.put k v).rst = g.rst := by rfl
@[simp] theorem Glob.put_answers (g : Glob) (k v : Nat) : (g.put k v).answers = g.answers := by rfl
@[simp] theorem Glob.put_hst (g : Glob) (k v : Nat) : (g.put k v).hst = g.hst := by rfl
@[simp] theorem Glob.put_can (g : Glob) (k v : Nat) : (g.put k v).can = g.can := by rfl
@[simp] theorem Glob.put_eth (g : Glob) (k v : Nat) : (g.put k v).eth = g.eth := by rfl
@[simp] theorem Glob.put_mgmt (g : Glob) (k v : Nat) : (g.put k v).mgmt = g.mgmt := by rfl
@[simp] theorem Glob.put_readData (g : Glob) (k v : Nat) : (g.put k v).readData = g.readData := by rfl
@[simp] theorem Glob.put_log (g : Glob) (k v : Nat) : (g.put k v).log = g.log := by rfl
@[simp] theorem Glob.put_trigs (g : Glob) (k v : Nat) : (g.put k v).trigs = g.trigs := by rfl
@[simp] theorem Glob.put_mgmtDown (g : Glob) (k v : Nat) : (g.put k v).mgmtDown = g.mgmtDown := by rfl
@[simp] theorem Glob.put_ptpOff (g : Glob) (k v : Nat) : (g.put k v).ptpOff = g.ptpOff := by rfl
@[simp] theorem Glob.put_fresh (g : Glob) (k v : Nat) : (g.put k v).fresh = g.fresh := by rfl

@[simp] theorem Glob.putDom_nowNs (g : Glob) (k : Nat) (v : List Byte) : (g.putDom k v).nowNs = g.nowNs := by rfl
@[simp] theorem Glob.putDom_regs (g : Glob) (k : Nat) (v : List Byte) : (g.putDom k v).regs = g.regs := by rfl
@[simp] theorem Glob.putDom_rst (g : Glob) (k : Nat) (v : List Byte) : (g.putDom k v).rst = g.rst := by rfl
@[simp] theorem Glob.putDom_answers (g : Glob) (k : Nat) (v : List Byte) : (g.putDom k v).answers = g.answers := by rfl
@[simp] theorem Glob.putDom_hst (g : Glob) (k : Nat) (v : List Byte) : (g.putDom k v).hst = g.hst := by rfl
@[simp] theorem Glob.putDom_can (g : Glob) (k : Nat) (v : List Byte) : (g.putDom k v).can = g.can := by rfl
@[simp] theorem Glob.putDom_eth (g : Glob) (k : Nat) (v : List Byte) : (g.putDom k v).eth = g.eth := by rfl
@[simp] theorem Glob.putDom_mgmt (g : Glob) (k : Nat) (v : List Byte) : (g.putDom k v).mgmt = g.mgmt := by rfl
@[simp] theorem Glob.putDom_readData (g : Glob) (k : Nat) (v : List Byte) : (g.putDom k v).readData = g.readData := by rfl
@[simp] theorem Glob.putDom_log (g : Glob) (k : Nat) (v : List Byte) : (g.putDom k v).log = g.log := by rfl
@[simp] theorem Glob.putDom_trigs (g : Glob) (k : Nat) (v : List Byte) : (g.putDom k v).trigs = g.trigs := by rfl
@[simp] theorem Glob.putDom_mgmtDown (g : Glob) (k : Nat) (v : List Byte) : (g.putDom k v).mgmtDown = g.mgmtDown := by rfl
@[simp] theorem Glob.putDom_ptpOff (g : Glob) (k : Nat) (v : List Byte) : (g.putDom k v).ptpOff = g.ptpOff := by rfl
@[simp] theorem Glob.putDom_fresh (g : Glob) (k : Nat) (v : List Byte) : (g.putDom k v).fresh = g.fresh := by rfl

@[simp] theorem Glob.inc32_nowNs (g : Glob) (k : Nat) : (g.inc32 k).nowNs = g.nowNs := by rfl
@[simp] theorem Glob.inc32_doms (g : Glob) (k : Nat) : (g.inc32 k).doms = g.doms := by rfl
@[simp] theorem Glob.inc32_rst (g : Glob) (k : Nat) : (g.inc32 k).rst = g.rst := by rfl
@[simp] theorem Glob.inc32_answers (g : Glob) (k : Nat) : (g.inc32 k).answers = g.answers := by rfl
@[simp] theorem Glob.inc32_hst (g : Glob) (k : Nat) : (g.inc32 k).hst = g.hst := by rfl
@[simp] theorem Glob.inc32_can (g : Glob) (k : Nat) : (g.inc32 k).can = g.can := by rfl
@[simp] theorem Glob.inc32_eth (g : Glob) (k : Nat) : (g.inc32 k).eth = g.eth := by rfl
@[simp] theorem Glob.inc32_mgmt (g : Glob) (k : Nat) : (g.inc32 k).mgmt = g.mgmt := by rfl
@[simp] theorem Glob.inc32_readData (g : Glob) (k : Nat) : (g.inc32 k).readData = g.readData := by rfl
@[simp] theorem Glob.inc32_log (g : Glob) (k : Nat) : (g.inc32 k).log = g.log := by rfl
@[simp] theorem Glob.inc32_trigs (g : Glob) (k : Nat) : (g.inc32 k).trigs = g.trigs := by rfl
@[simp] theorem Glob.inc32_mgmtDown (g : Glob) (k : Nat) : (g.inc32 k).mgmtDown = g.mgmtDown := by rfl
@[simp] theorem Glob.inc32_ptpOff (g : Glob) (k : Nat) : (g.inc32 k).ptpOff = g.ptpOff := by rfl
@[simp] theorem Glob.inc32_fresh (g : Glob) (k : Nat) : (g.inc32 k).fresh = g.fresh := by rfl

@[simp] theorem Glob.trigger_nowNs (g : Glob) (i : IntSrc) : (g.trigger i).nowNs = g.nowNs := by rfl
@[simp] theorem Glob.trigger_regs (g : Glob) (i : IntSrc) : (g.trigger i).regs = g.regs := by rfl
@[simp] theorem Glob.trigger_doms (g : Glob) (i : IntSrc) : (g.trigger i).doms = g.doms := by rfl
@[simp] theorem Glob.trigger_rst (g : Glob) (i : IntSrc) : (g.trigger i).rst = g.rst := by rfl
@[simp] theorem Glob.trigger_answers (g : Glob) (i : IntSrc) : (g.trigger i).answers = g.answers := by rfl
@[simp] theorem Glob.trigger_hst (g : Glob) (i : IntSrc) : (g.trigger i).hst = g.hst := by rfl
@[simp] theorem Glob.trigger_can (g : Glob) (i : IntSrc) : (g.trigger i).can = g.can := by rfl
@[simp] theorem Glob.trigger_eth (g : Glob) (i : IntSrc) : (g.trigger i).eth = g.eth := by rfl
@[simp] theorem Glob.trigger_mgmt (g : Glob) (i : IntSrc) : (g.trigger i).mgmt = g.mgmt := by rfl
@[simp] theorem Glob.trigger_readData (g : Glob) (i : IntSrc) : (g.trigger i).readData = g.readData := by rfl
@[simp] theorem Glob.trigger_log (g : Glob) (i : IntSrc) : (g.trigger i).log = g.log := by rfl
@[simp] theorem Glob.trigger_mgmtDown (g : Glob) (i : IntSrc) : (g.trigger i).mgmtDown = g.mgmtDown := by rfl
@[simp] theorem Glob.trigger_ptpOff (g : Glob) (i : IntSrc) : (g.trigger i).ptpOff = g.ptpOff := by rfl
@[simp] theorem Glob.trigger_fresh (g : Glob) (i : IntSrc) : (g.trigger i).fresh = g.fresh := by rfl

@[simp] theorem Glob.answer_nowNs (g : Glob) (p : Port) (code : Nat) : (g.answer p code).nowNs = g.nowNs := by rfl
@[simp] theorem Glob.answer_regs (g : Glob) (p : Port) (code : Nat) : (g.answer p code).regs = g.regs := by rfl
@[simp] theorem Glob.answer_doms (g : Glob) (p : Port) (code : Nat) : (g.answer p code).doms = g.doms := by rfl
@[simp] theorem Glob.answer_rst (g : Glob) (p : Port) (code : Nat) : (g.answer p code).rst = g.rst := by rfl
@[simp] theorem Glob.answer_hst (g : Glob) (p : Port) (code : Nat) : (g.answer p code).hst = g.hst := by rfl
@[simp] theorem Glob.answer_can (g : Glob) (p : Port) (code : Nat) : (g.answer p code).can = g.can := by rfl
@[simp] theorem Glob.answer_eth (g : Glob) (p : Port) (code : Nat) : (g.answer p code).eth = g.eth := by rfl
@[simp] theorem Glob.answer_mgmt (g : Glob) (p : Port) (code : Nat) : (g.answer p code).mgmt = g.mgmt := by rfl
@[simp] theorem Glob.answer_readData (g : Glob) (p : Port) (code : Nat) : (g.answer p code).readData = g.readData := by rfl
@[simp] theorem Glob.answer_log (g : Glob) (p : Port) (code : Nat) : (g.answer p code).log = g.log := by rfl
@[simp] theorem Glob.answer_trigs (g : Glob) (p : Port) (code : Nat) : (g.answer p code).trigs = g.trigs := by rfl
@[simp] theorem Glob.answer_mgmtDown (g : Glob) (p : Port) (code : Nat) : (g.answer p code).mgmtDown = g.mgmtDown := by rfl
@[simp] theorem Glob.answer_ptpOff (g : Glob) (p : Port) (code : Nat) : (g.answer p code).ptpOff = g.ptpOff := by rfl
@[simp] theorem Glob.answer_fresh (g : Glob) (p : Port) (code : Nat) : (g.answer p code).fresh = g.fresh := by rfl

@[simp] theorem Glob.at_regs (g : Glob) (ns : Nat) : (g.at ns).regs = g.regs := by rfl
@[simp] theorem Glob.at_doms (g : Glob) (ns : Nat) : (g.at ns).doms = g.doms := by rfl
@[simp] theorem Glob.at_rst (g : Glob) (ns : Nat) : (g.at ns).rst = g.rst := by rfl
@[simp] theorem Glob.at_answers (g : Glob) (ns : Nat) : (g.at ns).answers = g.answers := by rfl
@[simp] theorem Glob.at_hst (g : Glob) (ns : Nat) : (g.at ns).hst = g.hst := by rfl
@[simp] theorem Glob.at_can (g : Glob) (ns : Nat) : (g.at ns).can = g.can := by rfl
@[simp] theorem Glob.at_eth (g : Glob) (ns : Nat) : (g.at ns).eth = g.eth := by rfl
@[simp] theorem Glob.at_mgmt (g : Glob) (ns : Nat) : (g.at ns).mgmt = g.mgmt := by rfl
@[simp] theorem Glob.at_readData (g : Glob) (ns : Nat) : (g.at ns).readData = g.readData := by rfl
@[simp] theorem Glob.at_log (g : Glob) (ns : Nat) : (g.at ns).log = g.log := by rfl
@[simp] theorem Glob.at_trigs (g : Glob) (ns : Nat) : (g.at ns).trigs = g.trigs := by rfl
@[simp] theorem Glob.at_mgmtDown (g : Glob) (ns : Nat) : (g.at ns).mgmtDown = g.mgmtDown := by rfl
@[simp] theorem Glob.at_ptpOff (g : Glob) (ns : Nat) : (g.at ns).ptpOff = g.ptpOff := by rfl
@[simp] theorem Glob.at_fresh (g : Glob) (ns : Nat) : (g.at ns).fresh = g.fresh := by rfl

@[simp] theorem Glob.failed_nowNs (g : Glob) (p : Port) (ix sub code : Nat) : (g.failed p ix sub code).nowNs = g.nowNs := by
  cases p <;> simp [Glob.failed]
@[simp] theorem Glob.failed_doms (g : Glob) (p : Port) (ix sub code : Nat) : (g.failed p ix sub code).doms = g.doms := by
  cases p <;> simp [Glob.failed]
@[simp] theorem Glob.failed_rst (g : Glob) (p : Port) (ix sub code : Nat) : (g.failed p ix sub code).rst = g.rst := by
  cases p <;> simp [Glob.failed]
@[simp] theorem Glob.failed_hst (g : Glob) (p : Port) (ix sub code : Nat) : (g.failed p ix sub code).hst = g.hst := by
  cases p <;> simp [Glob.failed]
@[simp] theorem Glob.failed_can (g : Glob) (p : Port) (ix sub code : Nat) : (g.failed p ix sub code).can = g.can := by
  cases p <;> simp [Glob.failed]
@[simp] theorem Glob.failed_eth (g : Glob) (p : Port) (ix sub code : Nat) : (g.failed p ix sub code).eth = g.eth := by
  cases p <;> simp [Glob.failed]
@[simp] theorem Glob.failed_mgmt (g : Glob) (p : Port) (ix sub code : Nat) : (g.failed p ix sub code).mgmt = g.mgmt := by
  cases p <;> simp [Glob.failed]
@[simp] theorem Glob.failed_readData (g : Glob) (p : Port) (ix sub code : Nat) : (g.failed p ix sub code).readData = g.readData := by
  cases p <;> simp [Glob.failed]
@[simp] theorem Glob.failed_log (g : Glob) (p : Port) (ix sub code : Nat) : (g.failed p ix sub code).log = g.log := by
  cases p <;> simp [Glob.failed]
@[simp] theorem Glob.failed_mgmtDown (g : Glob) (p : Port) (ix sub code : Nat) : (g.failed p ix sub code).mgmtDown = g.mgmtDown := by
  cases p <;> simp [Glob.failed]
@[simp] theorem Glob.failed_ptpOff (g : Glob) (p : Port) (ix sub code : Nat) : (g.failed p ix sub code).ptpOff = g.ptpOff := by
  cases p <;> simp [Glob.failed]
@[simp] theorem Glob.failed_fresh (g : Glob) (p : Port) (ix sub code : Nat) : (g.failed p ix sub code).fresh = g.fresh := by
  cases p <;> simp [Glob.failed]

@[simp] theorem Glob.logEntry_nowNs (g : Glob) (src code sev : Nat) (d : List Byte) : (g.logEntry src code sev d).nowNs = g.nowNs := by
  unfold Glob.logEntry; dsimp only; repeat' (first | rfl | split)
@[simp] theorem Glob.logEntry_regs (g : Glob) (src code sev : Nat) (d : List Byte) : (g.logEntry src code sev d).regs = g.regs := by
  unfold Glob.logEntry; dsimp only; repeat' (first | rfl | split)
@[simp] theorem Glob.logEntry_doms (g : Glob) (src code sev : Nat) (d : List Byte) : (g.logEntry src code sev d).doms = g.doms := by
  unfold Glob.logEntry; dsimp only; repeat' (first | rfl | split)
@[simp] theorem Glob.logEntry_rst (g : Glob) (src code sev : Nat) (d : List Byte) : (g.logEntry src code sev d).rst = g.rst := by
  unfold Glob.logEntry; dsimp only; repeat' (first | rfl | split)
@[simp] theorem Glob.logEntry_answers (g : Glob) (src code sev : Nat) (d : List Byte) :
  (g.logEntry src code sev d).answers = g.answers := by unfold Glob.logEntry; dsimp only; repeat' (first | rfl | split)
@[simp] theorem Glob.logEntry_hst (g : Glob) (src code sev : Nat) (d : List Byte) : (g.logEntry src code sev d).hst = g.hst := by
  unfold Glob.logEntry; dsimp only; repeat' (first | rfl | split)
@[simp] theorem Glob.logEntry_can (g : Glob) (src code sev : Nat) (d : List Byte) : (g.logEntry src code sev d).can = g.can := by
  unfold Glob.logEntry; dsimp only; repeat' (first | rfl | split)
@[simp] theorem Glob.logEntry_eth (g : Glob) (src code sev : Nat) (d : List Byte) : (g.logEntry src code sev d).eth = g.eth := by
  unfold Glob.logEntry; dsimp only; repeat' (first | rfl | split)
@[simp] theorem Glob.logEntry_mgmt (g : Glob) (src code sev : Nat) (d : List Byte) : (g.logEntry src code sev d).mgmt = g.mgmt := by
  unfold Glob.logEntry; dsimp only; repeat' (first | rfl | split)
@[simp] theorem Glob.logEntry_readData (g : Glob) (src code sev : Nat) (d : List Byte) :
  (g.logEntry src code sev d).readData = g.readData := by unfold Glob.logEntry; dsimp only; repeat' (first | rfl | split)
@[simp] theorem Glob.logEntry_mgmtDown (g : Glob) (src code sev : Nat) (d : List Byte) :
  (g.logEntry src code sev d).mgmtDown = g.mgmtDown := by unfold Glob.logEntry; dsimp only; repeat' (first | rfl | split)
@[simp] theorem Glob.logEntry_ptpOff (g : Glob) (src code sev : Nat) (d : List Byte) : (g.logEntry src code sev d).ptpOff = g.ptpOff :=
  by unfold Glob.logEntry; dsimp only; repeat' (first | rfl | split)
@[simp] theorem Glob.logEntry_fresh (g : Glob) (src code sev : Nat) (d : List Byte) : (g.logEntry src code sev d).fresh = g.fresh := by
  unfold Glob.logEntry; dsimp only; repeat' (first | rfl | split)

/-! Cells of the state -/

@[simp] theorem State.cell_setCell_self (s : State) (n : CellNo) (c : Cell) : (s.setCell n c).cell n = c := by
  show (s.cells.set n.val c n.isLt)[n.val] = c
  simp

theorem State.cell_setCell_ne {m n : CellNo} (h : m ≠ n) (s : State) (c : Cell) : (s.setCell n c).cell m = s.cell m := by
  have h' : n.val ≠ m.val := fun x => h (Fin.ext x.symm)
  show (s.cells.set n.val c n.isLt)[m.val] = s.cells[m.val]
  simp [h']

@[simp] theorem State.setCell_glob (s : State) (n : CellNo) (c : Cell) : (s.setCell n c).glob = s.glob := by rfl
@[simp] theorem State.setCell_pending (s : State) (n : CellNo) (c : Cell) : (s.setCell n c).pending = s.pending := by rfl

@[simp] theorem State.close_pending (s : State) (n : CellNo) (w : When) (c : Cell) : (s.close n w c).pending = s.pending := by rfl

/-- The cell of a command after it: what its meaning left, the outbox emptied. -/
@[simp] theorem State.cell_close_self (s : State) (n : CellNo) (w : When) (c : Cell) :
    (s.close n w c).cell n = { c with out := [] } := by
  show (s.setCell n { c with out := [] }).cell n = _
  simp

/-- Every other cell after it: unchanged (R22). -/
theorem State.cell_close_ne {m n : CellNo} (h : m ≠ n) (s : State) (w : When) (c : Cell) : (s.close n w c).cell m = s.cell m := by
  show (s.setCell n { c with out := [] }).cell m = _
  exact State.cell_setCell_ne h s _

/-- What carrying a cell's messages out leaves alone in the shared region. -/
theorem Glob.deliver_frame (n : CellNo) (g : Glob) (m : Msg) :
    (Glob.deliver n g m).mgmt = g.mgmt ∧ (Glob.deliver n g m).hst = g.hst ∧ (Glob.deliver n g m).can = g.can ∧
    (Glob.deliver n g m).eth = g.eth ∧ (Glob.deliver n g m).doms = g.doms ∧ (Glob.deliver n g m).rst = g.rst ∧
    (Glob.deliver n g m).answers = g.answers ∧ (Glob.deliver n g m).mgmtDown = g.mgmtDown ∧ (Glob.deliver n g m).ptpOff = g.ptpOff ∧
    (Glob.deliver n g m).nowNs = g.nowNs ∧ (Glob.deliver n g m).readData = g.readData ∧ (Glob.deliver n g m).fresh = g.fresh := by
  cases m <;> simp [Glob.deliver]

theorem Glob.deliver_all_frame (n : CellNo) (ms : List Msg) (g : Glob) :
    (ms.foldl (Glob.deliver n) g).mgmt = g.mgmt ∧ (ms.foldl (Glob.deliver n) g).hst = g.hst ∧
    (ms.foldl (Glob.deliver n) g).can = g.can ∧ (ms.foldl (Glob.deliver n) g).eth = g.eth ∧
    (ms.foldl (Glob.deliver n) g).doms = g.doms ∧ (ms.foldl (Glob.deliver n) g).rst = g.rst ∧
    (ms.foldl (Glob.deliver n) g).answers = g.answers ∧ (ms.foldl (Glob.deliver n) g).mgmtDown = g.mgmtDown ∧
    (ms.foldl (Glob.deliver n) g).ptpOff = g.ptpOff ∧ (ms.foldl (Glob.deliver n) g).nowNs = g.nowNs ∧
    (ms.foldl (Glob.deliver n) g).readData = g.readData ∧ (ms.foldl (Glob.deliver n) g).fresh = g.fresh := by
  induction ms generalizing g with
  | nil => simp
  | cons m ms ih =>
    obtain ⟨a1, a2, a3, a4, a5, a6, a7, a8, a9, a10, a11, a12⟩ := ih (Glob.deliver n g m)
    obtain ⟨b1, b2, b3, b4, b5, b6, b7, b8, b9, b10, b11, b12⟩ := Glob.deliver_frame n g m
    simp only [List.foldl_cons]
    exact ⟨a1.trans b1, a2.trans b2, a3.trans b3, a4.trans b4, a5.trans b5, a6.trans b6, a7.trans b7, a8.trans b8, a9.trans b9,
      a10.trans b10, a11.trans b11, a12.trans b12⟩

@[simp] theorem State.cellAt_held (s : State) (n : CellNo) (w : When) : (s.cellAt n w).held = (s.cell n).held := by rfl
@[simp] theorem State.cellAt_now (s : State) (n : CellNo) (w : When) : (s.cellAt n w).now = w.cc := by rfl
@[simp] theorem State.cellAt_nowNs (s : State) (n : CellNo) (w : When) : (s.cellAt n w).nowNs = w.ns := by rfl
@[simp] theorem State.cellAt_out (s : State) (n : CellNo) (w : When) : (s.cellAt n w).out = [] := by rfl
@[simp] theorem State.cellAt_get (s : State) (n : CellNo) (w : When) (k : Nat) : (s.cellAt n w).get k = (s.cell n).get k := by rfl
@[simp] theorem State.cellAt_flag (s : State) (n : CellNo) (w : When) (k : Nat) : (s.cellAt n w).flag k = (s.cell n).flag k := by rfl

@[simp] theorem State.cellAt_regs (s : State) (n : CellNo) (w : When) : (s.cellAt n w).regs = (s.cell n).regs := by rfl
@[simp] theorem State.cellAt_doms (s : State) (n : CellNo) (w : When) : (s.cellAt n w).doms = (s.cell n).doms := by rfl
@[simp] theorem State.cellAt_act (s : State) (n : CellNo) (w : When) : (s.cellAt n w).act = (s.cell n).act := by rfl
@[simp] theorem State.cellAt_actDoms (s : State) (n : CellNo) (w : When) : (s.cellAt n w).actDoms = (s.cell n).actDoms := by rfl
@[simp] theorem State.cellAt_arm (s : State) (n : CellNo) (w : When) : (s.cellAt n w).arm = (s.cell n).arm := by rfl
@[simp] theorem State.cellAt_armDoms (s : State) (n : CellNo) (w : When) : (s.cellAt n w).armDoms = (s.cell n).armDoms := by rfl
@[simp] theorem State.cellAt_frm (s : State) (n : CellNo) (w : When) : (s.cellAt n w).frm = (s.cell n).frm := by rfl
@[simp] theorem State.cellAt_frmDoms (s : State) (n : CellNo) (w : When) : (s.cellAt n w).frmDoms = (s.cell n).frmDoms := by rfl
@[simp] theorem State.cellAt_rst (s : State) (n : CellNo) (w : When) : (s.cellAt n w).rst = (s.cell n).rst := by rfl
@[simp] theorem State.cellAt_fab (s : State) (n : CellNo) (w : When) : (s.cellAt n w).fab = (s.cell n).fab := by rfl
@[simp] theorem State.cellAt_exe (s : State) (n : CellNo) (w : When) : (s.cellAt n w).exe = (s.cell n).exe := by rfl
@[simp] theorem State.cellAt_trk (s : State) (n : CellNo) (w : When) : (s.cellAt n w).trk = (s.cell n).trk := by rfl
@[simp] theorem State.cellAt_clk (s : State) (n : CellNo) (w : When) : (s.cellAt n w).clk = (s.cell n).clk := by rfl
@[simp] theorem State.cellAt_fe (s : State) (n : CellNo) (w : When) : (s.cellAt n w).fe = (s.cell n).fe := by rfl
@[simp] theorem State.cellAt_hay (s : State) (n : CellNo) (w : When) : (s.cellAt n w).hay = (s.cell n).hay := by rfl
@[simp] theorem State.cellAt_cor (s : State) (n : CellNo) (w : When) : (s.cellAt n w).cor = (s.cell n).cor := by rfl
@[simp] theorem State.cellAt_flt (s : State) (n : CellNo) (w : When) : (s.cellAt n w).flt = (s.cell n).flt := by rfl
@[simp] theorem State.cellAt_trg (s : State) (n : CellNo) (w : When) : (s.cellAt n w).trg = (s.cell n).trg := by rfl
@[simp] theorem State.cellAt_plc (s : State) (n : CellNo) (w : When) : (s.cellAt n w).plc = (s.cell n).plc := by rfl
@[simp] theorem State.cellAt_cap (s : State) (n : CellNo) (w : When) : (s.cellAt n w).cap = (s.cell n).cap := by rfl
@[simp] theorem State.cellAt_acc (s : State) (n : CellNo) (w : When) : (s.cellAt n w).acc = (s.cell n).acc := by rfl
@[simp] theorem State.cellAt_mem (s : State) (n : CellNo) (w : When) : (s.cellAt n w).mem = (s.cell n).mem := by rfl
@[simp] theorem State.cellAt_prt (s : State) (n : CellNo) (w : When) : (s.cellAt n w).prt = (s.cell n).prt := by rfl
@[simp] theorem State.cellAt_ras (s : State) (n : CellNo) (w : When) : (s.cellAt n w).ras = (s.cell n).ras := by rfl
@[simp] theorem State.cellAt_dma (s : State) (n : CellNo) (w : When) : (s.cellAt n w).dma = (s.cell n).dma := by rfl
@[simp] theorem State.cellAt_pat (s : State) (n : CellNo) (w : When) : (s.cellAt n w).pat = (s.cell n).pat := by rfl

end Sys2Proof.Machine
end

