-- ==== Sys2Proof/Laws/Ops.lean ====
section
/-! SUPPORT. What the shared operations can do, said once: the ways a command acts on a cell and on the shared region, pulses, counters. -/

namespace Sys2Proof.Machine

/-! Counters -/

@[simp] theorem Cell.get_inc32 (c : Cell) (j k : Nat) : (c.inc32 k).get j = if j = k then wrapAdd 32 (c.get k) 1 else c.get j := by
  simp only [Cell.inc32, Cell.add32, Cell.get_put]

@[simp] theorem Cell.get_inc64 (c : Cell) (j k : Nat) : (c.inc64 k).get j = if j = k then wrapAdd 64 (c.get k) 1 else c.get j := by
  simp only [Cell.inc64, Cell.add64, Cell.get_put]

@[simp] theorem Cell.get_send (c : Cell) (m : Msg) (k : Nat) : (c.send m).get k = c.get k := by rfl
@[simp] theorem Cell.get_log (c : Cell) (code sev : Nat) (d : List Byte) (k : Nat) : (c.log code sev d).get k = c.get k := by rfl
@[simp] theorem Cell.get_putDom (c : Cell) (j : Nat) (v : List Byte) (k : Nat) : (c.putDom j v).get k = c.get k := by rfl

/-- Reading an entry depends on the register list only. -/
theorem Cell.get_congr {c d : Cell} (h : c.regs = d.regs) (k : Nat) : c.get k = d.get k := by simp [Cell.get, h]

/-! Pulses (R31) -/

/-- A pulse changes no entry but the count of its line. -/
theorem Cell.get_pulseAt_ne (c : Cell) (line t : Nat) {k : Nat} (h : k ≠ K.EventCount + line) :
    (c.pulseAt line t).get k = c.get k := by
  unfold Cell.pulseAt
  split
  · rfl
  · show (c.inc32 (K.EventCount + line)).get k = c.get k
    simp [h]

/-- A line that exists and has not pulsed in the cycle pulses and counts once. -/
theorem Cell.pulseAt_fires (c : Cell) (line t : Nat) (hl : lineExists line = true) (hp : (t, line) ∉ c.fab.pulses) :
    (t, line) ∈ (c.pulseAt line t).fab.pulses ∧
      (c.pulseAt line t).get (K.EventCount + line) = wrapAdd 32 (c.get (K.EventCount + line)) 1 := by
  unfold Cell.pulseAt
  simp only [hl, List.contains_eq_mem, hp, Bool.not_true, decide_false, Bool.or_self, Bool.false_eq_true, if_false]
  constructor
  · simp
  · show (c.inc32 (K.EventCount + line)).get _ = _
    simp

/-- Raised again in the same cycle, it is the same pulse: nothing changes (R31). -/
theorem Cell.pulseAt_again (c : Cell) (line t : Nat) (hp : (t, line) ∈ c.fab.pulses) : c.pulseAt line t = c := by
  unfold Cell.pulseAt
  simp [hp]

/-- After it the line has pulsed in the cycle, if it exists at all. -/
theorem Cell.pulseAt_pulsed (c : Cell) (line t : Nat) (hl : lineExists line = true) :
    (t, line) ∈ (c.pulseAt line t).fab.pulses := by
  by_cases hp : (t, line) ∈ c.fab.pulses
  · rw [Cell.pulseAt_again c line t hp]; exact hp
  · exact (Cell.pulseAt_fires c line t hl hp).1

/-! A command of a cell (R21, R22) -/

/-- An event in a cell that is not held. -/
theorem onCell_live (s : State) (n : CellNo) (w : When) (f : Glob → Cell → Cell) (h : (s.cell n).held = false) :
    onCell s n w f = .next (s.close n w (f (s.glob.at w.ns) (s.cellAt n w))) := by simp [onCell, h]

/-- An event in a cell held in reset: time goes on, nothing else (R490). -/
theorem onCell_held (s : State) (n : CellNo) (w : When) (f : Glob → Cell → Cell) (h : (s.cell n).held = true) :
    onCell s n w f = .next (s.close n w (s.cellAt n w)) := by simp [onCell, h]

/-- Whatever an event does, it answers a next state in which the other cells and the queue are as before. -/
theorem onCell_frame (s : State) (n : CellNo) (w : When) (f : Glob → Cell → Cell) :
    ∃ t, onCell s n w f = .next t ∧ t.pending = s.pending ∧ (∀ m, m ≠ n → t.cell m = s.cell m) := by
  unfold onCell
  split
  · exact ⟨_, rfl, rfl, fun m h => State.cell_close_ne h s w _⟩
  · exact ⟨_, rfl, rfl, fun m h => State.cell_close_ne h s w _⟩

/-- A write that has an effect of its own, where it succeeds. -/
theorem onCellPort_ok (s : State) (n : CellNo) (w : When) (p : Port) (k : Nat) (f : Glob → Cell → Except Nat Cell) (c : Cell)
    (hs : s.glob.serves p = true) (hh : (s.cell n).held = false) (hf : f (s.glob.at w.ns) (s.cellAt n w) = .ok c) :
    onCellPort s n w p k f = .next { s.close n w c with glob := (s.close n w c).glob.answer p 0 } := by
  simp [onCellPort, onCellRecord, hs, hh, hf]

/-- The same where it fails: the cell is as before but for the time, and the port hears the code (R424, R429). -/
theorem onCellPort_error (s : State) (n : CellNo) (w : When) (p : Port) (k : Nat) (f : Glob → Cell → Except Nat Cell) (code : Nat)
    (hs : s.glob.serves p = true) (hh : (s.cell n).held = false) (hc : code ≠ 0)
    (hf : f (s.glob.at w.ns) (s.cellAt n w) = .error code) :
    onCellPort s n w p k f =
      .next { s.close n w (s.cellAt n w) with
              glob := (s.close n w (s.cellAt n w)).glob.failed p (cellIx n k) (k % 256) code } := by
  simp [onCellPort, onCellRecord, hs, hh, hf, hc]

/-- A port that is not served changes only the time (R447, R463, R488). -/
theorem onCellPort_unserved (s : State) (n : CellNo) (w : When) (p : Port) (k : Nat) (f : Glob → Cell → Except Nat Cell)
    (hs : s.glob.serves p = false) : onCellPort s n w p k f = .next { s with glob := s.glob.at w.ns } := by
  simp [onCellPort, onCellRecord, hs]

/-- Whatever such a write does, it answers a next state in which the other cells and the queue are as before. -/
theorem onCellRecord_frame (s : State) (n : CellNo) (w : When) (p : Port) (k : Nat) (f : Glob → Cell → Cell × Nat) :
    ∃ t, onCellRecord s n w p k f = .next t ∧ t.pending = s.pending ∧ (∀ m, m ≠ n → t.cell m = s.cell m) := by
  unfold onCellRecord
  split
  · exact ⟨_, rfl, rfl, fun m _ => rfl⟩
  · exact ⟨_, rfl, rfl, fun m h => State.cell_close_ne h s w _⟩

theorem onCellPort_frame (s : State) (n : CellNo) (w : When) (p : Port) (k : Nat) (f : Glob → Cell → Except Nat Cell) :
    ∃ t, onCellPort s n w p k f = .next t ∧ t.pending = s.pending ∧ (∀ m, m ≠ n → t.cell m = s.cell m) :=
  onCellRecord_frame s n w p k _

/-! A command of the shared region -/

/-- An event in the shared region, with power up. -/
theorem onGlob_up (s : State) (ns : Nat) (f : Glob → Glob) (h : s.glob.mgmt.boot ≠ .off) :
    onGlob s ns f = .next { s with glob := f (s.glob.at ns) } := by simp [onGlob, h]

/-- Whatever it does, every cell and the queue are as before. -/
theorem onGlob_frame (s : State) (ns : Nat) (f : Glob → Glob) :
    ∃ t, onGlob s ns f = .next t ∧ t.pending = s.pending ∧ t.cells = s.cells := by
  unfold onGlob
  split
  · exact ⟨_, rfl, rfl, rfl⟩
  · exact ⟨_, rfl, rfl, rfl⟩

/-- A write to a shared entry that has an effect of its own, where it succeeds. -/
theorem onGlobPort_ok (s : State) (ns : Nat) (p : Port) (k : Nat) (f : Glob → Except Nat Glob) (g : Glob)
    (hs : s.glob.serves p = true) (hr : s.glob.refuses k = false) (hf : f (s.glob.at ns) = .ok g) :
    onGlobPort s ns p k f = .next { s with glob := g.answer p 0 } := by
  simp [onGlobPort, hs, hr, hf]

/-- The same where it fails. -/
theorem onGlobPort_error (s : State) (ns : Nat) (p : Port) (k : Nat) (f : Glob → Except Nat Glob) (code : Nat)
    (hs : s.glob.serves p = true) (hr : s.glob.refuses k = false) (hf : f (s.glob.at ns) = .error code) :
    onGlobPort s ns p k f = .next { s with glob := (s.glob.at ns).failed p (k / 256) (k % 256) code } := by
  simp [onGlobPort, hs, hr, hf]

theorem onGlobPort_frame (s : State) (ns : Nat) (p : Port) (k : Nat) (f : Glob → Except Nat Glob) :
    ∃ t, onGlobPort s ns p k f = .next t ∧ t.pending = s.pending ∧ t.cells = s.cells := by
  unfold onGlobPort
  split
  · exact ⟨_, rfl, rfl, rfl⟩
  · split
    · exact ⟨_, rfl, rfl, rfl⟩
    · exact ⟨_, rfl, rfl, rfl⟩

end Sys2Proof.Machine
end

