-- ==== Sys2Proof/WellFormed.lean ====
section
/-! DEFINITION. The commands a sender of the spec's own kind can form: operands within the fields that carry them.  A command that is
not well formed reaches no part; the model gives it a meaning all the same, except for the BAR transfers no TLP can carry (R426). -/

namespace Sys2Proof

/-- What is wrong with a command. -/
inductive IllFormed where
  /-- an index above FFFFh or a sub-index above FFh (R10) -/
  | entry
  /-- a slot write of more than 8 bytes, or without one enable per byte (R16, R429) -/
  | slot
  /-- a TLP of no byte or more than 4,096, or without one enable per byte (R426) -/
  | tlp
  /-- a value that its entry's type cannot hold (R12) -/
  | value
  /-- a CAN FD frame that no length holds (R436) -/
  | frame
  /-- a datagram of more than 1,408 data bytes, or a field beyond its width (R439) -/
  | datagram
  /-- not 32 temperatures and 24 voltages (R448) -/
  | sensors
  /-- a source number above 4 (R38) -/
  | source
  /-- a symbol whose interpolation span lies outside the stage-1 outputs given, or that ends before it begins (R185) -/
  | symbols
deriving DecidableEq, Repr

def entryFits (ix sub : Nat) : Bool := ix < 65536 && sub < 256

def requestFits (q : HdapReq) : Bool := entryFits q.ix q.sub && q.seq < 2 ^ 32 && q.offset < 2 ^ 32

/-- Every symbol's interpolation span lies among the outputs from `first` on. -/
def symbolsFit (symbols : List SymbolIn) (first : Nat) (outs : List Int) : Bool :=
  symbols.all (fun x => first ≤ x.lo && x.lo ≤ x.hi && x.hi < first + outs.length)

def failWith (ok : Bool) (e : IllFormed) : Option IllFormed := if ok then none else some e

/-- What is wrong with a command, or nothing. -/
def Instr.illFormed : Instr → Option IllFormed
  | .dictWrite _ p ix sub data enables kind =>
    if !entryFits ix sub then some .entry
    else failWith (if p = .pcie then data.length ≤ 4096 && enables.length == data.length else kind == .write) .slot
  | .bar2Read _ _ _ len => failWith (1 ≤ len && len ≤ 4096) .tlp
  | .bar4Read _ _ _ len _ => failWith (1 ≤ len && len ≤ 4096) .tlp
  | .bar2Write _ _ _ data enables _ => failWith (1 ≤ data.length && data.length ≤ 4096 && enables.length == data.length) .tlp
  | .bar4Write _ _ _ data enables _ => failWith (1 ≤ data.length && data.length ≤ 4096 && enables.length == data.length) .tlp
  | .hostAreaWrite _ _ data enables _ => failWith (1 ≤ data.length && data.length ≤ 4096 && enables.length == data.length) .tlp
  | .eventCountClear _ _ _ mask => failWith (mask < 2 ^ 64) .value
  | .intClear _ _ value => failWith (value < 65536) .value
  | .indTarget _ _ _ _ v => failWith (v < 65536) .value
  | .profileStore _ _ v => failWith (v < 256) .value
  | .profileErase _ _ v => failWith (v < 256) .value
  | .profileActivate _ _ v => failWith (v < 256) .value
  | .cellResetRequest _ _ mask => failWith (mask < 256) .value
  | .initiateDownloadExpedited _ ix sub size data =>
    if !entryFits ix sub then some .entry else failWith (1 ≤ size && size ≤ data.length && data.length ≤ 56) .frame
  | .initiateDownloadSegmented _ ix sub size => if !entryFits ix sub then some .entry else failWith (size < 2 ^ 32) .frame
  | .initiateUpload _ ix sub => failWith (entryFits ix sub) .entry
  | .downloadSegment _ _ _ data => failWith (1 ≤ data.length && data.length ≤ 62) .frame
  | .icmpEchoRequest _ _ _ _ _ data => failWith (data.length ≤ 1472) .frame
  | .hdapRead _ q len => failWith (requestFits q && len < 65536) .datagram
  | .hdapReadContinue _ q len => failWith (requestFits q && len < 65536) .datagram
  | .hdapWrite _ q data => failWith (requestFits q && data.length ≤ 1408) .datagram
  | .hdapWriteSegment _ q _ data => failWith (requestFits q && data.length ≤ 1408) .datagram
  | .sensorSample _ temps volts => failWith (temps.length == 32 && volts.length == 24) .sensors
  | .sourceLost _ _ src => failWith (src ≤ 4) .source
  | .sourceReturn _ _ src => failWith (src ≤ 4) .source
  | .symbolMatch _ _ symbols first outs => failWith (symbolsFit symbols first outs) .symbols
  | .cdrBlockEnd _ _ symbols first outs last => failWith (symbolsFit (symbols ++ [last]) first outs) .symbols
  | .swathBoundary .. | .trackerUpdate .. | .epochStrobe .. | .ppsInputEdge .. | .imageStagedWrite .. | .imageVerifyDone ..
    | .swapRequest .. | .commit .. | .pulse .. | .arm .. | .stop .. | .windowOpen .. | .windowClose .. | .segmentStart ..
    | .patternRelease .. | .eyeOrigin .. | .forceTrigger .. | .accGateOn .. | .accGateOff .. | .swEvent .. | .eviEdge .. | .dreqEdge ..
    | .evoPulseStart .. | .evoPulseEnd .. | .overRangeSample .. | .legOverloadEnter .. | .legOverloadExit .. | .overRangeClear ..
    | .auxEdge .. | .synthLock .. | .synthUnlock .. | .refActivityLoss .. | .refActivityDeclared .. | .bypassSwitch .. | .holdoffExpiry ..
    | .memPllLock .. | .freshSwathStart .. | .fgCalDone .. | .placementCalDone .. | .bgBlockEnd .. | .recalRequest .. | .recalDone ..
    | .coefSetWrite .. | .stage2BankWrite .. | .bankSwapRequest .. | .fadeEnd .. | .deferredSwapStart .. | .filterCountClear ..
    | .unitEvent .. | .timeoutEvent .. | .seqExpiry .. | .unsettledSampleClear .. | .trackBlockEnd .. | .triggerCandidate ..
    | .triggerCountClear .. | .armRequest .. | .armStartLinePulse .. | .armedEntry .. | .autoTimeout .. | .forceTriggerWrite ..
    | .segmentClose .. | .rearmEnd .. | .stopWrite .. | .stopLinePulse .. | .armCountClear .. | .tdcEdge .. | .skewRecalDone ..
    | .tdcTableComplete .. | .tdcCalIntervalExpiry .. | .stookPack .. | .stookQueue .. | .stookDrain .. | .segmentEntryWrite ..
    | .gapEntryWrite .. | .captureCountClear .. | .memBringUpDone .. | .fixedRead .. | .fixedReadData .. | .openAdmit ..
    | .openReadData .. | .refresh .. | .mr4Poll .. | .selfRefreshEntry .. | .memWake .. | .memWakeWrite .. | .wakeDone .. | .scrubRead ..
    | .scrubYield .. | .retrainDone .. | .retrainRequest .. | .retrainIntervalExpiry .. | .channelFail .. | .memErrorClear ..
    | .haywardGrant .. | .grantWindowEnd .. | .haywardCountClear .. | .accIntake .. | .accApply .. | .accStart .. | .accFreeze ..
    | .accResume .. | .accClear .. | .accFrozen .. | .accClearDone .. | .accCountClear .. | .rasterEnable .. | .rasterDisable ..
    | .rasterFirstFrame .. | .dsiStartupWrite .. | .frameStart .. | .lineStart .. | .vblankStart .. | .modeSwitchEnd .. | .rasterCommit ..
    | .commitSample .. | .teEdge .. | .teTimeout .. | .cursorFetchDone .. | .rasterCountClear .. | .dmaRequest .. | .moverTake ..
    | .descriptorFetch .. | .burstStart .. | .burstEnd .. | .descriptorEnd .. | .hostCompletion .. | .dmaCompletionTimeout ..
    | .channelEnable .. | .channelDisable .. | .channelAbort .. | .dmaCountClear .. | .portEnable .. | .portDisable .. | .portLocked ..
    | .portAligned .. | .portUp .. | .portDown .. | .portTrainTimeout .. | .portRetrainDelayExpiry .. | .rxIdle .. | .rxDmaData ..
    | .rxRequest .. | .rxPwrite .. | .rxLink .. | .rxBadFlit .. | .txFlit .. | .liveFlitTimeout .. | .playbackStart .. | .playbackStop ..
    | .playbackEnd .. | .portCountClear .. | .patternStart .. | .patternStartPulse .. | .patternStop .. | .halt .. | .play .. | .hold ..
    | .setc .. | .loop .. | .branch .. | .waitTrig .. | .waitTrigDone .. | .waitTl .. | .event .. | .prefetchArrival ..
    | .patternCountClear .. | .msixTrigger .. | .configRequest .. | .wideRead .. | .wideWrite .. | .wideDone .. | .uploadSegment ..
    | .sdoAbort .. | .sdoTimeout .. | .canFrameIgnored .. | .hdapAssemblyTimeout .. | .hdapBadDatagram .. | .ethLinkChange ..
    | .dhcpLease .. | .ptpSyncRx .. | .ptpAnnounceRx .. | .ptpDelayRx .. | .ptpMessageTimeout .. | .ppsOutputEdge .. | .watchdogRestart ..
    | .managementResume .. | .logMirrorDone .. | .mirrorIntervalExpiry .. | .logRead .. | .ntcSample .. | .indCurveWrite .. | .begin ..
    | .eraseDone .. | .programData .. | .verify .. | .verifyDone .. | .activate .. | .cancel .. | .slotConfirm .. | .profileStoreDone ..
    | .profileEraseDone .. | .profileActivationDone .. | .lcToProvisioned .. | .lcToField .. | .lcToService .. | .lcToRetired ..
    | .serviceExpiry .. | .wipeSramDone .. | .wipeDone .. | .deviceResetRequest .. | .systemReset .. | .perstAssert .. | .perstRelease ..
    | .powerDrop .. | .powerOnRelease .. | .bypass .. | .idcode .. | .samplePreload .. | .extest .. | .extestPulse .. | .extestTrain ..
    | .clamp .. | .highz .. | .tapReset .. | .rasterStopped .. | .indPwmPeriod .. | .ppsPulseEnd .. | .ptpSyncInterval ..
    | .canBusError .. | .busOffRecovery .. | .arpRequest .. | .pcieLinkChange .. => none

def Instr.wellFormed (i : Instr) : Bool := i.illFormed == none

end Sys2Proof
end

