-- ==== Sys2Proof/Tests/Slice0.lean ====
section
/-! SUPPORT. The model's own tests: for each clause of each statement that has hypotheses, a concrete state and operands that meet all of
them together; one ill-formed command per check; fixed values the spec states. -/

namespace Sys2Proof.Machine

set_option Elab.async false

/-- The running part: the processor runs, no cell is held in reset. -/
def base : State :=
  { State.reset with
    cells := Vector.replicate 4 Cell.init
    glob := { Glob.init with mgmt := { Mgmt.init with boot := .running } } }
def Cell.puts (c : Cell) (es : List (Nat × Nat)) : Cell := es.foldl (fun c e => c.put e.1 e.2) c
def Glob.puts (g : Glob) (es : List (Nat × Nat)) : Glob := es.foldl (fun g e => g.put e.1 e.2) g
/-- The running part with cell `n` changed. -/
def onN (n : CellNo) (f : Cell → Cell) : State := base.setCell n (f Cell.init)
def on0 (f : Cell → Cell) : State := onN 0 f
def with0 (es : List (Nat × Nat)) : State := on0 (fun c => c.puts es)
def onG (f : Glob → Glob) : State := { base with glob := f base.glob }
def withG (es : List (Nat × Nat)) : State := onG (fun g => g.puts es)
def t0 (cc : Nat) : When := ⟨0, cc⟩
def x4 : Strobe4 := ⟨⟨9, 0⟩, ⟨9, 0⟩, ⟨9, 0⟩, ⟨9, 0⟩⟩
def w4 : When4 := ⟨5, x4, 0⟩
/-- On fcc in RUN. -/
def Cell.run (c : Cell) : Cell := { c.put K.ClockState 0 with clk := { c.clk with onFcc := true } }
/-- A schedule image of one quantum that is a swath of 100 cc. -/
def img0 : Image := ⟨[], 0, 0, 1000000, 4, 1, 7, [], [], [], [], [], []⟩
def img1 : Image := { img0 with lanes := [{ noPlan with flags := 3 }] }
/-- An acquisition that started at sample 1,280 with no pre- and 64 post-trigger samples. -/
def acq (ph : ArmPhase) : Acq :=
  ⟨1280, 26, [(K.ArmMode, 0), (K.PreTriggerSamples, 0), (K.PostTriggerSamples, 64), (K.SourceEnable, 1), (K.UnitType, 1)], none, ph, 1280, none, false, none, 0, none, none⟩
def bgb : BgBlock := ⟨[], 0⟩

/-! What a statement's words ask, as something to compute. -/

theorem inst_of {rs : List EventRun} {idx p : Nat} {e : EventEntry}
    (h : (rs[idx]?).any (fun r => r.origin.any (fun o => e.hasInst r.next && p == e.at o r.next)) = true) :
    ∃ r o, rs[idx]? = some r ∧ r.origin = some o ∧ e.hasInst r.next = true ∧ p = e.at o r.next := by
  simp only [Option.any_eq_true, Bool.and_eq_true, beq_iff_eq] at h
  obtain ⟨r, hr, o, ho, h1, h2⟩ := h
  exact ⟨r, o, hr, ho, h1, h2⟩
theorem due_of {s : State} {n : CellNo} {w : When} {idx action p : Nat} {e : EventEntry}
    (h : (s.cell n).held = false ∧ (s.cell n).exe.running = true ∧ (s.cell n).get K.ClockState = 0 ∧ e.enabled = true ∧ e.action = action ∧
      (s.cell n).events[idx]? = some e ∧
      ((s.cell n).exe.runs[idx]?).any (fun r => r.origin.any (fun o => e.hasInst r.next && p == e.at o r.next)) = true ∧
      (s.cell n).pos (128 * w.cc) ≤ p ∧ p < (s.cell n).pos (128 * w.cc + 128) ∧ e.base ≠ 2 ∧
      (s.cellAt n w).earlierDue p e.rank idx 0 (s.cell n).events (s.cell n).exe.runs = false) : s.instanceDue n w idx action e p := by
  obtain ⟨h1, h2, h3, h4, h5, h6, h7, h8, h9, h10, h11⟩ := h
  obtain ⟨r, o, h⟩ := inst_of h7
  exact ⟨h1, h2, h3, h4, h5, ⟨r, o, h6, h⟩, h8, h9, fun h => absurd h h10, h11⟩
theorem releases_of {s : State} {n : CellNo} {w : When} {idx p b : Nat} {e : EventEntry}
    (h : s.runs n ∧ (s.cell n).exe.running = true ∧ e.enabled = true ∧ e.action = 6 ∧ (s.cell n).events[idx]? = some e ∧
      ((s.cell n).exe.runs[idx]?).any (fun r => r.origin.any (fun o => e.hasInst r.next && p == e.at o r.next)) = true ∧
      ((s.cell n).lineAhead (w.cc + 2)).pos (128 * (w.cc + 2)) ≤ p ∧ p < ((s.cell n).lineAhead (w.cc + 2)).pos (128 * (w.cc + 3)) ∧
      b = ceilDiv (((s.cell n).lineAhead (w.cc + 2)).firstAt p (((s.cell n).lineAhead (w.cc + 2)).mark p (w.cc + 2))) 64 ∧
      b / 2 = w.cc + 3 ∧ (s.cell n).pat.releases.contains (e.param, b) = false ∧ e.base ≠ 2 ∧
      (s.cellAt n w).earlierRelease idx p = false) : s.releases n w idx e p b := by
  obtain ⟨h1, h2, h3, h4, h5, h6, h7, h8, h9, h10, h11, h12, h13⟩ := h
  obtain ⟨r, o, h⟩ := inst_of h6
  exact ⟨h1, h2, h3, h4, ⟨r, o, h5, h⟩, h7, h8, h9, h10, h11, fun h => absurd h h12, h13⟩
theorem mayArm_of {s : State} {n : CellNo} {a : Nat}
    (h : (s.cell n).trg.acqs = [] ∧ (s.cell n).get K.ClockState = 0 ∧ (s.cell n).get K.FgCalState ≠ 1 ∧
      (s.cell n).plc.startup = false ∧ s.glob.get (G.WipeState + n.val) ≠ 1 ∧ s.glob.get (G.WipeState + n.val) ≠ 2 ∧
      s.glob.get G.LifeCycleState ≠ 4 ∧ (s.cell n).get K.ThermalHold = 0 ∧
      (3 < (s.cell n).get K.ArmWindow ∨ (s.cell n).insideWindow ((s.cell n).get K.ArmWindow) ((s.cell n).posOf a) = true) ∧
      (s.cell n).trigCheck (s.cell n).armValues = none ∧
      (s.cell n).exe.active.any (fun m => (s.cell n).armConfigCheck m (s.cell n).armValues == none) = true) : s.mayArm n a := by
  obtain ⟨h1, h2, h3, h4, h5, h6, h7, h8, h9, h10, h11⟩ := h
  simp only [Option.any_eq_true, beq_iff_eq] at h11
  exact ⟨h1, h2, h3, h4, h5, h6, h7, h8, h9, h10, h11⟩
def PatOut.reachesB (o : PatOut) (t u : Nat) (first : Bool) : Bool :=
  match o with
  | .waiting (some f) _ => f ≤ t && u == boundaryOf t && first
  | .waiting none _ => false
  | .word _ _ (some x) => x == u && u / 2 == t + 3 && !first
  | .word _ _ none => false
  | .play _ x _ _ => x == u && u / 2 == t + 3 && !first
theorem patAt_of {s : State} {n : CellNo} {w : When} {u v : Nat} {first : Bool}
    (h : s.runs n ∧ (s.cell n).get K.PatternState = 1 ∧ (s.cell n).pat.out.reachesB w.cc u first = true ∧ (s.cell n).pat.run < 64 ∧
      (s.cell n).patInstr (s.cell n).patPc = v) : s.patAt n w u v first := by
  obtain ⟨h1, h2, h3, h4⟩ := h
  refine ⟨h1, h2, ?_, h4⟩
  revert h3
  cases (s.cell n).pat.out with
  | waiting f x => cases f <;> simp [PatOut.reaches, PatOut.reachesB, and_assoc]
  | word a b x => cases x <;> simp [PatOut.reaches, PatOut.reachesB, and_assoc]
  | _ => simp [PatOut.reaches, PatOut.reachesB, and_assoc]
/-- What a decoded stook holds when it was read without error. -/
def Decoded.cleanPayload? : Decoded → Option Nat
  | .clean v => some (payload v)
  | _ => none
theorem accReads_of {s : State} {n : CellNo} {flips : List (Nat × Nat)} {x p : Nat}
    (h : (s.cell n).acc.memory.wf = true ∧
      (decodeStook (stookAt (s.cell n).acc.memory (x / 4) ^^^ flipOf flips (x / 4))).cleanPayload? = some p) : s.accReads n flips x p := by
  obtain ⟨h1, h2⟩ := h
  refine ⟨h1, ?_⟩
  revert h2
  cases decodeStook (stookAt (s.cell n).acc.memory (x / 4) ^^^ flipOf flips (x / 4)) with
  | clean v => exact fun h => ⟨v, rfl, Option.some.inj h⟩
  | _ => nofun
theorem option_all {o : Option Nat} {P : Nat → Prop} (h : ∀ d ∈ o, P d) (d : Nat) (e : o = some d) : P d := h d e
theorem due_first {c : Cell} {u : Nat} {k : Fin 8}
    (h : ∀ j : Fin 8, c.chanState j = 1 → ((c.chan j).seen.head?.all (fun v => u < v || (u == v && k ≤ j))) = true) (j : Fin 8) (v : Nat)
    (vs : List Nat) (h1 : c.chanState j = 1) (h2 : (c.chan j).seen = v :: vs) : u < v ∨ (u = v ∧ k ≤ j) := by
  have := h j h1
  rw [h2] at this
  simpa using this
theorem unmatched_free (p : List Byte) (len : Nat) (h : List Nat) (hp : fld p 64 64 = 0) (hl : len ≤ h.length) :
    patternMatches p len h = true := by
  simp [patternMatches, hp, hl, bits]

/-! Witnesses -/

theorem wit_BoundaryAndTrackerComplete :
    (∃ (s : State) (n : CellNo) (w : When), s.runs n ∧ (s.cell n).exe.running = true ∧ w.cc = (s.cell n).handOver ∧ (s.cell n).get K.CommitPending = 0 ∧ (s.cell n).clk.retune = none) ∧
    (∃ (s : State) (n : CellNo) (w : When) (k : Nat) (e : Entry), s.runs n ∧ (s.cell n).exe.running = true ∧ w.cc = (s.cell n).handOver ∧ (s.cell n).get K.CommitPending = 1 ∧ cellEntry? k = some e ∧ e.cls = .swath ∧ e.ty.isBlock = false ∧ (s.cell n).keepsOut k = false) ∧
    (∃ (s : State) (n : CellNo) (w : When) (m : Image), s.runs n ∧ (s.cell n).exe.running = true ∧ w.cc = (s.cell n).handOver ∧ (s.cell n).get K.CommitPending = 0 ∧ (s.cell n).clk.retune = none ∧ (s.cell n).get K.SwapPending = 1 ∧ 2 ≤ (s.cell n).get K.FgCalState ∧ (s.cell n).exe.staged = some m ∧ m.allows ((s.cell n).get K.SampleRateApplied) = true) ∧
    (∃ (s : State) (n : CellNo) (w : When) (_ : List MeasIn), s.runs n ∧ (s.cell n).exe.running = true ∧ w.cc + 4 = (s.cell n).handOver ∧ (s.cell n).source = 0) :=
    ⟨⟨(on0 (fun c => let c := c.run; ({ c with exe := { c.exe with running := true } } : Cell))), 0, (t0 99), by decide +kernel⟩,
    ⟨(on0 (fun c => let c := c.run.puts [(K.Level, 77), (K.CommitPending, 1), (K.SwathCount, 6)]; ({ c with exe := { c.exe with running := true } } : Cell))), 0, (t0 99), K.Level, ((cellEntry? K.Level).getD (ro 0 0 .u8 0)), by decide +kernel⟩,
    ⟨(on0 (fun c => let c := c.run.puts [(K.FgCalState, 2), (K.SwapPending, 1)]; ({ c with exe := { c.exe with running := true, active := some img0, staged := some img1 } } : Cell))), 0, (t0 99), img1, by decide +kernel⟩,
    ⟨(on0 (fun c => let c := c.run; ({ c with exe := { c.exe with running := true } } : Cell))), 0, (t0 95), [], by decide +kernel⟩⟩

theorem wit_SourceLossAndReturn :
    (∃ (s : State) (n : CellNo) (_ : When) (src : Nat), s.live n ∧ src ≠ 4 ∧ (s.cell n).source = src ∧ (s.cell n).srcLost s.glob src = true) ∧
    (∃ (s : State) (n : CellNo) (_ : When), s.live n ∧ (s.cell n).source = 4 ∧ (s.cell n).trk.auxQuiet = 2 ∧ (s.cell n).trk.auxSeen = false) ∧
    (∃ (s : State) (n : CellNo) (_ : When) (src : Nat), s.live n ∧ src ≠ 4 ∧ (s.cell n).source = src ∧ (s.cell n).srcLost s.glob src = false) ∧
    (∃ (s : State) (n : CellNo) (_ : When), s.live n ∧ (s.cell n).source = 4 ∧ (s.cell n).trk.auxSeen = true) :=
    ⟨⟨(on0 (fun c => let c := c.run; ({ c with exe := { c.exe with running := true, active := some { img0 with source := 1 } } } : Cell))), 0, (t0 7), 1, by decide +kernel⟩,
    ⟨(on0 (fun c => let c := c.run; ({ c with trk := { c.trk with auxQuiet := 2 }, exe := { c.exe with running := true, active := some { img0 with source := 4 } } } : Cell))), 0, (t0 7), by decide +kernel⟩,
    ⟨(on0 (fun c => let c := c.run.puts [(K.RefActive, 1), (K.SourceLost, 1)]; ({ c with exe := { c.exe with running := true, active := some { img0 with source := 1 } } } : Cell))), 0, (t0 7), 1, by decide +kernel⟩,
    ⟨(on0 (fun c => let c := c.run.puts [(K.SourceLost, 1)]; ({ c with trk := { c.trk with auxSeen := true, auxLost := true }, exe := { c.exe with running := true, active := some { img0 with source := 4 } } } : Cell))), 0, (t0 7), by decide +kernel⟩⟩

theorem wit_EpochStrobes :
    (∃ (s : State) (_ : Nat) (p : Port) (_ : Strobe4) (n : CellNo), s.writes p G.EpochStrobe ∧ s.anySelectedArmed (s.glob.get G.EpochCellMask) = false ∧ s.glob.get G.EpochStrobeSource = 0 ∧ bit (s.glob.get G.EpochCellMask) n.val = true ∧ s.live n) ∧
    (∃ (s : State) (_ : Nat) (p : Port) (_ : Strobe4), s.writes p G.EpochStrobe ∧ s.anySelectedArmed (s.glob.get G.EpochCellMask) = false ∧ s.glob.get G.EpochStrobeSource = 1) ∧
    (∃ (s : State) (_ : Nat) (p : Port) (_ : Strobe4), s.writes p G.EpochStrobe ∧ s.anySelectedArmed (s.glob.get G.EpochCellMask) = true) ∧
    (∃ (s : State) (_ : Nat) (_ : Nat) (_ : Strobe4), s.glob.mgmt.boot = .running ∧ s.glob.get G.PpsDirection = 1) :=
    ⟨⟨(withG [(G.EpochCellMask, 3)]), 5, .eth, x4, 0, by decide +kernel⟩,
    ⟨(withG [(G.EpochCellMask, 3), (G.EpochStrobeSource, 1)]), 5, .can, x4, by decide +kernel⟩,
    ⟨({ with0 [(K.ArmState, 1)] with glob := base.glob.puts [(G.EpochCellMask, 1)] }), 5, .can, x4, by decide +kernel⟩,
    ⟨(withG [(G.PpsDirection, 1)]), 5, 77, x4, by decide +kernel⟩⟩

theorem wit_ImagesAndCommits :
    (∃ (s : State) (n : CellNo) (_ : When) (p : Port) (data : List Byte), s.writable n p ∧ data.length ≤ 32768 ∧ (s.cell n).get K.SwapPending = 0 ∧ (s.cell n).exe.bank ≠ .verifying) ∧
    (∃ (s : State) (n : CellNo) (_ : When), s.live n ∧ (s.cell n).exe.bank = .verifying ∧ s.glob.get G.ProfileState ≠ 2) ∧
    (∃ (s : State) (n : CellNo) (w : When) (p : Port), s.writable n p ∧ (s.cell n).get K.StagedValid = 1 ∧ s.onTime n w) ∧
    (∃ (s : State) (n : CellNo) (_ : When) (p : Port), s.writable n p ∧ (s.cell n).get K.StagedValid = 0) ∧
    (∃ (s : State) (n : CellNo) (w : When) (p : Port), s.writable n p ∧ s.onTime n w) :=
    ⟨⟨(on0 (fun c => c.run)), 0, (t0 9), .eth, ([1, 2]), by decide +kernel⟩,
    ⟨(on0 (fun c => let c := c.run; ({ c with exe := { c.exe with bank := .verifying, stagedBytes := [1, 2] } } : Cell))), 0, (t0 9), by decide +kernel⟩,
    ⟨(on0 (fun c => let c := c.run.puts [(K.StagedValid, 1)]; ({ c with trk := { c.trk with startCc := 3 } } : Cell))), 0, (t0 9), .eth, by decide +kernel⟩,
    ⟨(on0 (fun c => c.run)), 0, (t0 9), .eth, by decide +kernel⟩,
    ⟨(on0 (fun c => c.run)), 0, (t0 9), .eth, by decide +kernel⟩⟩

theorem wit_DueInstanceFires :
    ∃ (s : State) (n : CellNo) (w : When) (idx : Nat) (e : EventEntry) (p : Nat), s.instanceDue n w idx 0 e p :=
    ⟨(on0 (fun c => let c := c.run; (let c : Cell := c; { c with exe := { c.exe with running := true, active := some { img0 with events := [⟨5 * 2 ^ 8, 0, 0, 0, 2, 5, 0, 1⟩] }, runs := [⟨some (5 * 2 ^ 8), 0⟩] } } : Cell))), 0, (t0 0), 0, (⟨5 * 2 ^ 8, 0, 0, 0, 2, 5, 0, 1⟩), (5 * 2 ^ 8), due_of (by decide +kernel)⟩

theorem wit_EventActionsComplete :
    (∃ (s : State) (n : CellNo) (w : When) (idx : Nat) (e : EventEntry) (p : Nat), s.instanceDue n w idx 3 e p) ∧
    (∃ (s : State) (n : CellNo) (w : When) (idx : Nat) (e : EventEntry) (p : Nat), s.instanceDue n w idx 4 e p ∧ (s.cell n).trg.acqs = []) ∧
    (∃ (s : State) (n : CellNo) (w : When) (idx : Nat) (e : EventEntry) (p : Nat) (q : Acq), s.instanceDue n w idx 4 e p ∧ s.filling n w.cc q ∧ (q.val K.ArmWindow = e.param ∧ q.val K.ArmWindowStop ≠ 0)) ∧
    (∃ (s : State) (n : CellNo) (w : When) (idx : Nat) (e : EventEntry) (p : Nat) (q : Acq), s.instanceDue n w idx 2 e p ∧ s.filling n w.cc q) ∧
    (∃ (s : State) (n : CellNo) (w : When) (idx : Nat) (e : EventEntry) (p : Nat), s.instanceDue n w idx 2 e p) ∧
    (∃ (s : State) (n : CellNo) (w : When) (idx : Nat) (e : EventEntry) (p : Nat) (q : Acq), s.instanceDue n w idx 5 e p ∧ s.filling n w.cc q) ∧
    (∃ (s : State) (n : CellNo) (w : When) (idx : Nat) (e : EventEntry) (p : Nat), s.instanceDue n w idx 7 e p) ∧
    (∃ (s : State) (n : CellNo) (w : When) (idx : Nat) (e : EventEntry) (p : Nat) (q : Acq), s.instanceDue n w idx 8 e p ∧ s.filling n w.cc q ∧ (s.cell n).clk.onFcc = true) ∧
    (∃ (s : State) (n : CellNo) (w : When) (idx : Nat) (e : EventEntry) (p : Nat), s.instanceDue n w idx 9 e p) ∧
    (∃ (s : State) (n : CellNo) (w : When) (idx : Nat) (e : EventEntry) (p : Nat), s.instanceDue n w idx 10 e p) :=
    ⟨⟨(on0 (fun c => let c := c.run; (let c : Cell := c; { c with exe := { c.exe with running := true, active := some { img0 with events := [⟨5 * 2 ^ 8, 0, 0, 3, 2, 1, 0, 1⟩] }, runs := [⟨some (5 * 2 ^ 8), 0⟩] } } : Cell))), 0, (t0 0), 0, (⟨5 * 2 ^ 8, 0, 0, 3, 2, 1, 0, 1⟩), (5 * 2 ^ 8), due_of (by decide +kernel)⟩,
    ⟨(on0 (fun c => let c := c.run; (let c : Cell := c; { c with exe := { c.exe with running := true, active := some { img0 with events := [⟨5 * 2 ^ 8, 0, 0, 4, 255, 1, 0, 1⟩] }, runs := [⟨some (5 * 2 ^ 8), 0⟩] } } : Cell))), 0, (t0 0), 0, (⟨5 * 2 ^ 8, 0, 0, 4, 255, 1, 0, 1⟩), (5 * 2 ^ 8), due_of (by decide +kernel), by decide +kernel⟩,
    ⟨(on0 (fun c => let c := c.run; (let c : Cell := { c with trg := { c.trg with acqs := [{ acq .prefill with cfg := [(K.ArmMode, 0), (K.PreTriggerSamples, 0), (K.PostTriggerSamples, 64), (K.SourceEnable, 1), (K.UnitType, 1), (K.ArmWindow, 1), (K.ArmWindowStop, 1)] }] } }; { c with exe := { c.exe with running := true, active := some { img0 with events := [⟨7 * 2 ^ 32, 0, 0, 4, 2, 1, 0, 1⟩] }, runs := [⟨some (7 * 2 ^ 32), 0⟩] } } : Cell))), 0, (t0 0), 0, (⟨7 * 2 ^ 32, 0, 0, 4, 2, 1, 0, 1⟩), (7 * 2 ^ 32), ({ acq .prefill with cfg := [(K.ArmMode, 0), (K.PreTriggerSamples, 0), (K.PostTriggerSamples, 64), (K.SourceEnable, 1), (K.UnitType, 1), (K.ArmWindow, 1), (K.ArmWindowStop, 1)] }), due_of (by decide +kernel), by unfold State.filling; decide +kernel, by decide +kernel⟩,
    ⟨(on0 (fun c => let c := c.run; (let c : Cell := { c with trg := { c.trg with acqs := [{ acq .prefill with cfg := [(K.ArmMode, 0), (K.PreTriggerSamples, 0), (K.PostTriggerSamples, 64), (K.SourceEnable, 1), (K.UnitType, 1)] }] } }; { c with exe := { c.exe with running := true, active := some { img0 with events := [⟨7 * 2 ^ 32, 0, 0, 2, 2, 5, 0, 1⟩] }, runs := [⟨some (7 * 2 ^ 32), 0⟩] } } : Cell))), 0, (t0 0), 0, (⟨7 * 2 ^ 32, 0, 0, 2, 2, 5, 0, 1⟩), (7 * 2 ^ 32), ({ acq .prefill with cfg := [(K.ArmMode, 0), (K.PreTriggerSamples, 0), (K.PostTriggerSamples, 64), (K.SourceEnable, 1), (K.UnitType, 1)] }), due_of (by decide +kernel), by unfold State.filling; decide +kernel⟩,
    ⟨(on0 (fun c => let c := c.run; (let c : Cell := c; { c with exe := { c.exe with running := true, active := some { img0 with events := [⟨5 * 2 ^ 8, 0, 0, 2, 2, 5, 0, 1⟩] }, runs := [⟨some (5 * 2 ^ 8), 0⟩] } } : Cell))), 0, (t0 0), 0, (⟨5 * 2 ^ 8, 0, 0, 2, 2, 5, 0, 1⟩), (5 * 2 ^ 8), due_of (by decide +kernel)⟩,
    ⟨(on0 (fun c => let c := c.run; (let c : Cell := { c with trg := { c.trg with acqs := [{ acq .prefill with cfg := [(K.ArmMode, 0), (K.PreTriggerSamples, 0), (K.PostTriggerSamples, 64), (K.SourceEnable, 1), (K.UnitType, 1)] }] } }; { c with exe := { c.exe with running := true, active := some { img0 with events := [⟨7 * 2 ^ 32, 0, 0, 5, 2, 5, 0, 1⟩] }, runs := [⟨some (7 * 2 ^ 32), 0⟩] } } : Cell))), 0, (t0 0), 0, (⟨7 * 2 ^ 32, 0, 0, 5, 2, 5, 0, 1⟩), (7 * 2 ^ 32), ({ acq .prefill with cfg := [(K.ArmMode, 0), (K.PreTriggerSamples, 0), (K.PostTriggerSamples, 64), (K.SourceEnable, 1), (K.UnitType, 1)] }), due_of (by decide +kernel), by unfold State.filling; decide +kernel⟩,
    ⟨(on0 (fun c => let c := c.run; (let c : Cell := c; { c with exe := { c.exe with running := true, active := some { img0 with events := [⟨5 * 2 ^ 8, 0, 0, 7, 2, 5, 0, 1⟩] }, runs := [⟨some (5 * 2 ^ 8), 0⟩] } } : Cell))), 0, (t0 0), 0, (⟨5 * 2 ^ 8, 0, 0, 7, 2, 5, 0, 1⟩), (5 * 2 ^ 8), due_of (by decide +kernel)⟩,
    ⟨(on0 (fun c => let c := c.run; (let c : Cell := { c with trg := { c.trg with acqs := [{ acq .prefill with cfg := [(K.ArmMode, 0), (K.PreTriggerSamples, 0), (K.PostTriggerSamples, 64), (K.SourceEnable, 1), (K.UnitType, 1)] }] } }; { c with exe := { c.exe with running := true, active := some { img0 with events := [⟨7 * 2 ^ 32, 0, 0, 8, 2, 5, 0, 1⟩] }, runs := [⟨some (7 * 2 ^ 32), 0⟩] } } : Cell))), 0, (t0 0), 0, (⟨7 * 2 ^ 32, 0, 0, 8, 2, 5, 0, 1⟩), (7 * 2 ^ 32), ({ acq .prefill with cfg := [(K.ArmMode, 0), (K.PreTriggerSamples, 0), (K.PostTriggerSamples, 64), (K.SourceEnable, 1), (K.UnitType, 1)] }), due_of (by decide +kernel), by unfold State.filling; decide +kernel, by decide +kernel⟩,
    ⟨(on0 (fun c => let c := c.run; (let c : Cell := c; { c with exe := { c.exe with running := true, active := some { img0 with events := [⟨5 * 2 ^ 8, 0, 0, 9, 2, 5, 0, 1⟩] }, runs := [⟨some (5 * 2 ^ 8), 0⟩] } } : Cell))), 0, (t0 0), 0, (⟨5 * 2 ^ 8, 0, 0, 9, 2, 5, 0, 1⟩), (5 * 2 ^ 8), due_of (by decide +kernel)⟩,
    ⟨(on0 (fun c => let c := c.run; (let c : Cell := c; { c with exe := { c.exe with running := true, active := some { img0 with events := [⟨5 * 2 ^ 8, 0, 0, 10, 255, 5, 0, 1⟩] }, runs := [⟨some (5 * 2 ^ 8), 0⟩] } } : Cell))), 0, (t0 0), 0, (⟨5 * 2 ^ 8, 0, 0, 10, 255, 5, 0, 1⟩), (5 * 2 ^ 8), due_of (by decide +kernel)⟩⟩

theorem wit_InputsAndFabricComplete :
    (∃ (s : State) (n : CellNo) (_ : When) (p : Port) (_ : Fin 8), s.writable n p) ∧
    (∃ (s : State) (n : CellNo) (_ : When) (p : Port) (mask : Nat) (l : Fin 64), s.writable n p ∧ bit mask l.val = true) ∧
    (∃ (s : State) (n : CellNo) (_ : When) (pin : Fin 2) (rising : Bool) (_ : Bool), s.live n ∧ edgeQualifies ((s.cell n).get (K.EviEdge + pin.val)) rising = true) ∧
    (∃ (s : State) (n : CellNo) (_ : When) (_ : Fin 2) (_ : Bool), s.live n) ∧
    (∃ (s : State) (n : CellNo) (w : When) (pin : Fin 2), s.live n ∧ (s.cell n).fab.carriedAt + 2 ≤ w.cc ∧ s.pulsed n ((s.cell n).get (K.EvoSelect + pin.val)) (w.cc - 2)) ∧
    (∃ (s : State) (n : CellNo) (w : When) (pin : Fin 2) (e : Nat), s.live n ∧ (s.cell n).evoEnd pin = some e ∧ e ≤ w.cc) ∧
    (∃ (s : State) (n : CellNo) (_ : When) (_ : Nat), s.live n ∧ (s.cell n).get K.FgCalState ≠ 1) ∧
    (∃ (s : State) (n : CellNo) (_ : When) (_ : Nat) (v : Int) (q : Int), s.live n ∧ (s.cell n).get K.FgCalState ≠ 1 ∧ (s.cell n).fe.legsOut = false ∧ ((v < -600000 ∨ 1500000 < v ∨ q < -600000 ∨ 1500000 < q))) ∧
    (∃ (s : State) (n : CellNo) (_ : When) (_ : Nat) (f : Nat) (v : Int) (q : Int), s.live n ∧ (s.cell n).get K.FgCalState ≠ 1 ∧ (s.cell n).fe.legsOut = true ∧ (s.cell n).fe.overloadFrom = some f ∧ -550000 ≤ v ∧ v ≤ 1450000 ∧ -550000 ≤ q ∧ q ≤ 1450000) ∧
    (∃ (s : State) (n : CellNo) (_ : When) (p : Port), s.writable n p) ∧
    (∃ (s : State) (n : CellNo) (_ : When) (vin : Int), s.live n ∧ (s.cell n).get K.AuxLevel = 0 ∧ auxTrip (s.cell n).act true ≤ vin) ∧
    (∃ (s : State) (n : CellNo) (_ : When) (vin : Int), s.live n ∧ (s.cell n).get K.AuxLevel = 1 ∧ vin ≤ auxTrip (s.cell n).act false) :=
    ⟨⟨(on0 (fun c => c.run)), 0, (t0 9), .eth, 3, by decide +kernel⟩,
    ⟨(on0 (fun c => let c := c.run.puts [(K.EventCount + 5, 9)]; (c : Cell))), 0, (t0 9), .eth, 32, 5, by decide +kernel⟩,
    ⟨(on0 (fun c => let c := c.run.puts [(K.EviEdge + 1, 0)]; (c : Cell))), 0, (t0 9), 1, true, false, by decide +kernel⟩,
    ⟨(on0 (fun c => c.run)), 0, (t0 9), 1, true, by decide +kernel⟩,
    ⟨(on0 (fun c => let c := c.run.puts [(K.EvoSelect, 5), (K.EvoSelect + 1, 5)]; ({ c with fab := { c.fab with pulses := [(7, 5)] } } : Cell))), 0, (t0 9), 0, by decide +kernel⟩,
    ⟨(on0 (fun c => let c := c.run; ({ c with fab := { c.fab with evo0End := some 9 } } : Cell))), 0, (t0 9), 0, 9, by decide +kernel⟩,
    ⟨(on0 (fun c => let c := c.run.puts [(K.FgCalState, 2)]; (c : Cell))), 0, (t0 1), 130, by decide +kernel⟩,
    ⟨(on0 (fun c => let c := c.run.puts [(K.FgCalState, 2)]; (c : Cell))), 0, (t0 1), 130, (-600001), 0, by decide +kernel⟩,
    ⟨(on0 (fun c => let c := c.run.puts [(K.LegOverloadActive, 1)]; ({ c with fe := { c.fe with overloadFrom := some 100, legsOut := true } } : Cell))), 0, (t0 1), 130, 100, (-550000), 1450000, by decide +kernel⟩,
    ⟨(on0 (fun c => let c := c.run.puts [(K.OverRangeCount, 7)]; (c : Cell))), 0, (t0 1), .can, by decide +kernel⟩,
    ⟨(on0 (fun c => c.run)), 0, (t0 1), 10000000, by decide +kernel⟩,
    ⟨(on0 (fun c => let c := c.run.puts [(K.AuxLevel, 1)]; (c : Cell))), 0, (t0 1), (-10000000), by decide +kernel⟩⟩

theorem wit_LockDetectorCompletes :
    (∃ (s : State) (n : CellNo) (_ : When) (err : Int) (cycles : Nat) (_ : Nat), s.live n ∧ (s.cell n).get K.SynthLocked = 0 ∧ err.natAbs ≤ 4 * (s.cell n).get K.LockWindow ∧ (s.cell n).get K.LockCount ≤ (s.cell n).clk.inRun + cycles) ∧
    (∃ (s : State) (n : CellNo) (_ : When) (err : Int) (cycles : Nat) (_ : Nat), s.live n ∧ (s.cell n).get K.SynthLocked = 1 ∧ 4 * (s.cell n).get K.LockWindow < err.natAbs ∧ 1 ≤ cycles ∧ (s.cell n).get K.UnlockCount ≤ (s.cell n).clk.outRun + cycles ∧ (s.cell n).get K.ClockState = 0) ∧
    (∃ (s : State) (n : CellNo) (_ : When) (err : Int) (cycles : Nat) (_ : Nat), s.live n ∧ (s.cell n).get K.SynthLocked = 1 ∧ 4 * (s.cell n).get K.LockWindow < err.natAbs ∧ 1 ≤ cycles ∧ (s.cell n).get K.UnlockCount ≤ (s.cell n).clk.outRun + cycles ∧ (s.cell n).get K.ClockState = 3) ∧
    (∃ (s : State) (n : CellNo) (w : When) (rs : List RefRun), s.live n ∧ (s.cell n).get K.SynthLocked = 0 ∧ (s.cell n).get K.LockCount ≤ ((s.cellAt n w).refRuns rs).clk.inRun ∧ (s.cell n).get K.RefActive = 0) ∧
    (∃ (s : State) (n : CellNo) (w : When) (rs : List RefRun), s.live n ∧ (s.cell n).get K.SynthLocked = 0 ∧ (s.cell n).get K.LockCount ≤ ((s.cellAt n w).refRuns rs).clk.inRun ∧ (s.cell n).get K.RefActive = 1 ∧ (s.cell n).get K.ClockState = 2) ∧
    (∃ (s : State) (n : CellNo) (w : When) (rs : List RefRun), s.live n ∧ (s.cell n).get K.SynthLocked = 1 ∧ (s.cell n).get K.UnlockCount ≤ ((s.cellAt n w).refRuns rs).clk.outRun ∧ (s.cell n).get K.ClockState = 3) ∧
    (∃ (s : State) (n : CellNo) (w : When) (rs : List RefRun), s.live n ∧ (s.cell n).get K.SynthLocked = 1 ∧ (s.cell n).get K.UnlockCount ≤ ((s.cellAt n w).refRuns rs).clk.outRun ∧ (s.cell n).get K.ClockState = 0) :=
    ⟨⟨(with0 [(K.ClockState, 2)]), 0, (t0 9), 0, 5000000, 100, by decide +kernel⟩,
    ⟨(on0 (fun c => let c := c.run.puts [(K.SynthLocked, 1), (K.RefActive, 1)]; (c : Cell))), 0, (t0 9000000), (-1000000), 5000000, 100, by decide +kernel⟩,
    ⟨(with0 [(K.ClockState, 3), (K.SynthLocked, 1), (K.RefActive, 1)]), 0, (t0 9), 1000000, 5000000, 100, by decide +kernel⟩,
    ⟨(with0 [(K.ClockState, 2)]), 0, (t0 9), ([⟨0, 5000000, 100⟩]), by decide +kernel⟩,
    ⟨(with0 [(K.ClockState, 2), (K.RefActive, 1)]), 0, (t0 9), ([⟨0, 5000000, 100⟩]), by decide +kernel⟩,
    ⟨(with0 [(K.ClockState, 3), (K.SynthLocked, 1), (K.RefActive, 1)]), 0, (t0 9), ([⟨1000000, 5000000, 100⟩]), by decide +kernel⟩,
    ⟨(on0 (fun c => let c := c.run.puts [(K.SynthLocked, 1), (K.RefActive, 1)]; (c : Cell))), 0, (t0 9000000), ([⟨1000000, 5000000, 100⟩]), by decide +kernel⟩⟩

theorem wit_ReferenceMonitorCompletes :
    (∃ (s : State) (n : CellNo) (_ : When) (_ : Nat) (_ : Nat), s.live n ∧ (s.cell n).get K.ClockState = 4 ∧ (s.cell n).clk.onFcc = false) ∧
    (∃ (s : State) (n : CellNo) (_ : When) (hz : Nat) (_ : Nat) (noEdges : Bool), s.live n ∧ (s.cell n).get K.ClockState = 0 ∧ ((noEdges = true ∨ (s.cell n).inTolerance hz = false))) ∧
    (∃ (s : State) (n : CellNo) (_ : When) (hz : Nat), s.live n ∧ (s.cell n).inTolerance hz = true ∧ (s.cell n).get K.SynthLocked = 0) ∧
    (∃ (s : State) (n : CellNo) (_ : When) (hz : Nat), s.live n ∧ (s.cell n).inTolerance hz = true ∧ (s.cell n).get K.SynthLocked = 1 ∧ (s.cell n).get K.ClockState = 2) :=
    ⟨⟨(with0 [(K.ClockState, 4), (K.SynthLocked, 1), (K.RefActive, 1)]), 0, (t0 9), 0, 5, by decide +kernel⟩,
    ⟨(on0 (fun c => let c := c.run.puts [(K.SynthLocked, 1), (K.RefActive, 1)]; (c : Cell))), 0, (t0 9), 0, 5, true, by decide +kernel⟩,
    ⟨(with0 [(K.ClockState, 2)]), 0, (t0 9), ((base.cell 0).swath K.RefFrequency), by decide +kernel⟩,
    ⟨(with0 [(K.ClockState, 2), (K.SynthLocked, 1)]), 0, (t0 9), ((base.cell 0).swath K.RefFrequency), by decide +kernel⟩⟩

theorem wit_DomainSwitchesComplete :
    (∃ (s : State) (n : CellNo) (w : When), s.live n ∧ (s.cell n).get K.ClockState = 1 ∧ w.cc = (s.cell n).clk.faultCc + 40) ∧
    (∃ (s : State) (n : CellNo) (w : When) (_ : Fin 5), s.live n ∧ (s.cell n).get K.ClockState = 3 ∧ (s.cell n).clk.holdoffEnd ≤ w.cc ∧ (s.cell n).clk.pllLocked = false) ∧
    (∃ (s : State) (n : CellNo) (w : When) (_ : Fin 5), s.live n ∧ (s.cell n).get K.ClockState = 3 ∧ (s.cell n).clk.holdoffEnd ≤ w.cc ∧ (s.cell n).clk.pllLocked = true) ∧
    (∃ (s : State) (n : CellNo) (_ : When) (_ : Fin 5), s.live n ∧ (s.cell n).get K.ClockState ≠ 4) ∧
    (∃ (s : State) (n : CellNo) (_ : When) (_ : Fin 5), s.live n ∧ (s.cell n).get K.ClockState = 4 ∧ (s.cell n).clk.onFcc = false) ∧
    (∃ (s : State) (n : CellNo) (_ : When), s.live n ∧ (s.cell n).get K.ClockState = 4 ∧ (s.cell n).clk.onFcc = true ∧ (s.cell n).get K.MemState ≠ 1 ∧ (s.cell n).get K.MemState ≠ 4 ∧ (s.cell n).get K.MemState ≠ 6 ∧ wiping s.glob n = false) :=
    ⟨⟨(on0 (fun c => let c := c.run.puts [(K.ClockState, 1)]; (c : Cell))), 0, (t0 40), by decide +kernel⟩,
    ⟨(with0 [(K.ClockState, 3)]), 0, (t0 9), 2, by decide +kernel⟩,
    ⟨(on0 (fun c => { c.put K.ClockState 3 with clk := { c.clk with pllLocked := true } })), 0, (t0 9), 2, by decide +kernel⟩,
    ⟨(with0 [(K.ClockState, 3)]), 0, (t0 9), 2, by decide +kernel⟩,
    ⟨(with0 [(K.ClockState, 4)]), 0, (t0 9), 2, by decide +kernel⟩,
    ⟨(on0 (fun c => let c := c.run.puts [(K.ClockState, 4), (K.MemState, 2)]; (c : Cell))), 0, (t0 9), by decide +kernel⟩⟩

theorem wit_CalibrationCompletes :
    (∃ (s : State) (n : CellNo) (w : When) (_ : List Int) (_ : List FgSet) (_ : Option ToneFail) (_ : Nat), s.live n ∧ (s.cell n).get K.FgCalState = 1 ∧ w.cc + 1 = (s.cell n).trk.startCc) ∧
    (∃ (s : State) (n : CellNo) (_ : When) (_ : SkewTrims) (_ : List Nat) (_ : List Nat), s.live n ∧ (s.cell n).plc.startup = true) ∧
    (∃ (s : State) (n : CellNo) (_ : When) (p : Port) (_ : Fin 8) (data : List Byte), s.writable n p ∧ data.length = 800 ∧ (decodeSet data).valid = true) ∧
    (∃ (s : State) (n : CellNo) (_ : When) (p : Port) (_ : Fin 8) (data : List Byte), s.writable n p ∧ data.length = 800 ∧ (decodeSet data).valid = false) :=
    ⟨⟨(on0 (fun c => let c := c.run.puts [(K.FgCalState, 1)]; ({ c with trk := { c.trk with startCc := 10 } } : Cell))), 0, (t0 9), [], [], none, 5, by decide +kernel⟩,
    ⟨(on0 (fun c => let c := c.run; ({ c with plc := { c.plc with startup := true } } : Cell))), 0, (t0 9), (⟨1, 2, 3, 4⟩), [5], [], by decide +kernel⟩,
    ⟨(on0 (fun c => c.run)), 0, (t0 9), .eth, 3, (zeros 800), by decide +kernel⟩,
    ⟨(on0 (fun c => c.run)), 0, (t0 9), .eth, 3, (List.replicate 800 127), by decide +kernel⟩⟩

theorem wit_EstimatorCompletes :
    (∃ (s : State) (n : CellNo) (w : When) (b : BgBlock), s.live n ∧ s.blockEnds n w ∧ (s.cell n).blockReject b ≠ 0) ∧
    (∃ (s : State) (n : CellNo) (w : When) (b : BgBlock), s.live n ∧ s.blockEnds n w ∧ (s.cell n).blockReject b = 0 ∧ (s.cell n).get K.RecalEnable = 0) ∧
    (∃ (s : State) (n : CellNo) (_ : When) (p : Port), s.writable n p ∧ (s.cell n).bgState = 2 ∧ (s.cell n).get K.RecalPending = 0) ∧
    (∃ (s : State) (n : CellNo) (_ : When) (p : Port), s.writable n p ∧ (s.cell n).bgState ≠ 2) ∧
    (∃ (s : State) (n : CellNo) (_ : When), s.live n ∧ (s.cell n).get K.HaywardHolder = 1) :=
    ⟨⟨(on0 (fun c => let c := c.run.puts [(K.FgCalState, 2), (K.BgEnable, 1), (K.BgMinLevel, 100)]; ({ c with cor := { c.cor with bgStart := 0 } } : Cell))), 0, (t0 65535), bgb, by decide +kernel⟩,
    ⟨(on0 (fun c => let c := c.run.puts [(K.FgCalState, 2), (K.BgEnable, 1), (K.RecalEnable, 0)]; ({ c with cor := { c.cor with bgStart := 0 } } : Cell))), 0, (t0 65535), (⟨List.replicate 128 [⟨List.replicate 15 (400, false), 65536⟩], 2 ^ 31⟩), by decide +kernel⟩,
    ⟨(on0 (fun c => let c := c.run.puts [(K.FgCalState, 2), (K.BgEnable, 1)]; ({ c with cor := { c.cor with converged := true } } : Cell))), 0, (t0 9), .eth, by decide +kernel⟩,
    ⟨(on0 (fun c => c.run)), 0, (t0 9), .eth, by decide +kernel⟩,
    ⟨(on0 (fun c => let c := c.run.puts [(K.HaywardHolder, 1), (K.FgCalState, 2)]; (c : Cell))), 0, (t0 9), by decide +kernel⟩⟩

theorem wit_FilterCommandsComplete :
    (∃ (s : State) (n : CellNo) (_ : When) (p : Port) (k : Fin 4) (_ : Fin 2) (data : List Byte), s.writable n p ∧ ((s.cell n).lane k).plan = none ∧ data.length = 2048 ∧ coefsOk data = true) ∧
    (∃ (s : State) (n : CellNo) (_ : When) (p : Port) (k : Fin 4) (b : Fin 2) (data : List Byte), s.writable n p ∧ ((s.cell n).lane k).plan ≠ none ∧ (s.cell n).get (laneKey K.LaneActiveBank k) = b.val ∧ data.length = 2048) ∧
    (∃ (s : State) (n : CellNo) (w : When) (p : Port) (k : Fin 4), s.writable n p ∧ ((s.cell n).lane k).latch = none ∧ ((s.cell n).lane k).plan = none ∧ (s.cell n).get (laneKey K.SwapWaiting k) = 0 ∧ s.onTime n w) ∧
    (∃ (s : State) (n : CellNo) (w : When) (k : Fin 4) (e : Nat) (sq : LaneSeq), s.live n ∧ ((s.cell n).lane k).fadeEnd = some e ∧ ((s.cell n).lane k).seqs.getLast? = some sq ∧ sq.stop = none ∧ sq.refOf (e - 1) < 128 * (w.cc + 1)) ∧
    (∃ (s : State) (n : CellNo) (w : When) (k : Fin 4) (len : Nat) (sq : LaneSeq) (r : BankRun) (rs : List BankRun), s.live n ∧ ((s.cell n).lane k).latch = some len ∧ ((s.cell n).lane k).seqs.getLast? = some sq ∧ sq.stop = none ∧ ((s.cell n).lane k).fadeEnd = none ∧ sq.runs = r :: rs ∧ sq.refOf (r.startQ + r.fade) < 128 * (w.cc + 1)) ∧
    (∃ (s : State) (n : CellNo) (_ : When) (p : Port) (_ : Fin 4), s.writable n p) :=
    ⟨⟨(on0 (fun c => c.run)), 0, (t0 9), .eth, 2, 1, (zeros 2048), by decide +kernel⟩,
    ⟨(on0 (fun c => let c := c.run; ({ c with flt := { c.flt with lanes := c.flt.lanes.set 2 { (c.flt.lanes.get 2) with plan := some noPlan } } } : Cell))), 0, (t0 9), .eth, 2, 0, (zeros 2048), by decide +kernel⟩,
    ⟨(on0 (fun c => c.run)), 0, (t0 9), .eth, 2, by decide +kernel⟩,
    ⟨(on0 (fun c => let c := c.run; ({ c with flt := { c.flt with lanes := c.flt.lanes.set 2 { (c.flt.lanes.get 2) with plan := some noPlan, seqs := [(⟨noPlan, 0, 0, [⟨64, 32, [], true⟩, ⟨0, 0, [], false⟩], none, 0⟩ : LaneSeq)], fadeEnd := some 96 } } } : Cell))), 0, (t0 9), 2, 96, ((⟨noPlan, 0, 0, [⟨64, 32, [], true⟩, ⟨0, 0, [], false⟩], none, 0⟩ : LaneSeq)), by decide +kernel⟩,
    ⟨(on0 (fun c => let c := c.run; ({ c with flt := { c.flt with lanes := c.flt.lanes.set 2 { (c.flt.lanes.get 2) with plan := some noPlan, seqs := [(⟨noPlan, 0, 0, [⟨64, 32, [], true⟩, ⟨0, 0, [], false⟩], none, 0⟩ : LaneSeq)], latch := some 32 } } } : Cell))), 0, (t0 9), 2, 32, ((⟨noPlan, 0, 0, [⟨64, 32, [], true⟩, ⟨0, 0, [], false⟩], none, 0⟩ : LaneSeq)), (⟨64, 32, [], true⟩), ([⟨0, 0, [], false⟩]), by decide +kernel⟩,
    ⟨(on0 (fun c => let c := c.run.puts [(K.Stage1SatCount, 6)]; (c : Cell))), 0, (t0 9), .eth, 2, by decide +kernel⟩⟩

def s_UnitEventsComplete_0 : State :=
  on0 (fun c => let c := c.run.puts [(K.FgCalState, 2), (K.UnitEventCount, 5), (K.LevelApplied, 0), (K.HysteresisApplied, 2)]; ({ c with arm := [(K.UnitType, 1), (K.Polarity, 0), (K.QualWindow, 255)], trg := { c.trg with units := c.trg.units.set 0 { clearedUnit 1000 with last := some (-6400), level := ⟨true, false⟩ } } } : Cell))
def s_UnitEventsComplete_1 : State :=
  on0 (fun c => let c := c.run.puts [(K.FgCalState, 2), (K.UnitEventCount, 5), (K.LevelApplied, 0), (K.HysteresisApplied, 2)]; ({ c with arm := [(K.UnitType, 1), (K.Polarity, 1), (K.QualWindow, 255)], trg := { c.trg with units := c.trg.units.set 0 { clearedUnit 1000 with last := some (6400), level := ⟨false, true⟩ } } } : Cell))
def s_UnitEventsComplete_2 : State :=
  on0 (fun c => let c := c.run.puts [(K.FgCalState, 2), (K.UnitEventCount, 5), (K.LevelApplied, 0), (K.HysteresisApplied, 2)]; ({ c with arm := [(K.UnitType, 1), (K.QualWindow, 255)], trg := c.trg } : Cell))
def s_UnitEventsComplete_3 : State :=
  on0 (fun c => let c := c.run.puts [(K.FgCalState, 2), (K.UnitEventCount, 5), (K.LevelApplied, 0), (K.HysteresisApplied, 2)]; ({ c with arm := [(K.UnitType, 6), (K.Mode, 2), (K.Timeout, 2560), (K.QualWindow, 255)], trg := { c.trg with units := c.trg.units.set 0 { clearedUnit 1000 with last := some 5, p0 := some (256 * 990) } } } : Cell))
theorem wit_UnitEventsComplete :
    (∃ (s : State) (n : CellNo) (_ : When) (u : Fin 4) (g : UnitCfg) (k : Nat) (x0 : Int) (x : Int), s.judging n u g k ∧ (g.typ = 1 ∧ g.polarity ≠ 1 ∧ unitVal (s.cell n).arm K.QualWindow u.val = 255 ∧ ((s.cell n).unit u).last = some x0 ∧ ((s.cell n).unit u).level.rise = true ∧ x0 < g.level ∧ g.level ≤ x ∧ ((s.cell n).unit u).lastEvent ≠ some (k - 1) ∧ g.polarity ≤ 2)) ∧
    (∃ (s : State) (n : CellNo) (_ : When) (u : Fin 4) (g : UnitCfg) (k : Nat) (x0 : Int) (x : Int), s.judging n u g k ∧ (g.typ = 1 ∧ ((g.polarity = 1 ∨ g.polarity = 2)) ∧ unitVal (s.cell n).arm K.QualWindow u.val = 255 ∧ ((s.cell n).unit u).last = some x0 ∧ ((s.cell n).unit u).level.fall = true ∧ g.level ≤ x0 ∧ x < g.level ∧ ((s.cell n).unit u).lastEvent ≠ some (k - 1))) ∧
    (∃ (s : State) (n : CellNo) (_ : When) (u : Fin 4) (runs : List (Int × Nat)) (x : UnitSt) (p : Nat), s.runs n ∧ 2 ≤ (s.cell n).get K.FgCalState ∧ (s.cell n).isAnalogUnit u = true ∧ (s.cell n).oldUnit u .analog = none ∧ (s.cell n).analogFeed u.val none runs ((s.cell n).unit u) = (x, [p]) ∧ (s.cell n).spanUnsettled (p / 256) = false ∧ ((s.cell n).cfgAt u.val (p / 256)).path ≠ 1 ∧ unitVal ((s.cell n).armAt (p / 256)) K.QualWindow u.val = 255 ∧ x.lastEvent ≠ some (p / 256)) ∧
    (∃ (s : State) (n : CellNo) (_ : When) (u : Fin 4) (g : UnitCfg) (k : Nat) (m : Nat) (p : Nat) (x : Int), s.judging n u g k ∧ (g.typ = 6 ∧ g.mode = 2 ∧ unitVal (s.cell n).arm K.QualWindow u.val = 255 ∧ ((s.cell n).unit u).last = some x ∧ ((s.cell n).unit u).fired = false ∧ ((s.cell n).unit u).p0.map (· + g.timeout) = some p ∧ (∀ a ∈ (s.cell n).trg.arms, a.until' ≤ p / 256) ∧ p / 256 + 2 ≤ k + m ∧ 1 ≤ m ∧ ((s.cell n).unit u).lastEvent ≠ some (p / 256))) ∧
    (∃ (s : State) (n : CellNo) (_ : When) (lo : Nat) (hi : Nat), s.live n ∧ (s.cell n).clk.onFcc = true ∧ 2 ≤ (s.cell n).get K.FgCalState ∧ lo ≤ hi ∧ (s.cell n).unsettledAt lo = true ∧ (s.cell n).unsettledAt hi = true ∧ (s.cell n).trg.lastUnsettled = none) ∧
    (∃ (s : State) (n : CellNo) (w : When) (src : TdcSource) (k : Nat) (r : TdcReading) (digital : Nat) (p : Int), s.live n ∧ (s.cellAt n w).tdcTakes src digital = true ∧ ((∀ d, (s.cell n).trg.lastEdge = some d → d + 512 ≤ digital)) ∧ p = 32768 * k + 256 * ((s.cell n).tdcTime r digital * 50 + (s.cell n).trimsAt (src == .aux) digital) * (s.cell n).fs.1 / (100000000000000 * (s.cell n).fs.2 : Nat) ∧ digital ≤ p / 256 + 1 ∧ p / 256 ≤ digital + 1) ∧
    (∃ (s : State) (n : CellNo) (w : When) (src : TdcSource) (_ : Nat) (_ : TdcReading) (digital : Nat) (d : Nat), s.live n ∧ (s.cellAt n w).tdcTakes src digital = true ∧ (s.cell n).trg.lastEdge = some d ∧ digital < d + 512 ∧ ((src = .aux → (s.cell n).auxUnitAt digital = true))) :=
    ⟨⟨s_UnitEventsComplete_0, 0, (t0 9), 0, (((s_UnitEventsComplete_0.cell (0 : CellNo)).unitCfg (s_UnitEventsComplete_0.cell (0 : CellNo)).arm (0 : Fin 4).val)), 1000, (-6400), 6400, by unfold State.judging; decide +kernel, by decide +kernel⟩,
    ⟨s_UnitEventsComplete_1, 0, (t0 9), 0, (((s_UnitEventsComplete_1.cell (0 : CellNo)).unitCfg (s_UnitEventsComplete_1.cell (0 : CellNo)).arm (0 : Fin 4).val)), 1000, 6400, (-6400), by unfold State.judging; decide +kernel, by decide +kernel⟩,
    ⟨s_UnitEventsComplete_2, 0, (t0 9), 0, ([(-6400, 100), (6400, 100)]), (((s_UnitEventsComplete_2.cell (0 : CellNo)).analogFeed (0 : Fin 4).val none ([(-6400, 100), (6400, 100)]) ((s_UnitEventsComplete_2.cell (0 : CellNo)).unit (0 : Fin 4))).1), (((s_UnitEventsComplete_2.cell (0 : CellNo)).analogFeed (0 : Fin 4).val none ([(-6400, 100), (6400, 100)]) ((s_UnitEventsComplete_2.cell (0 : CellNo)).unit (0 : Fin 4))).2.headD 0), by decide +kernel⟩,
    ⟨s_UnitEventsComplete_3, 0, (t0 9), 0, (((s_UnitEventsComplete_3.cell (0 : CellNo)).unitCfg (s_UnitEventsComplete_3.cell (0 : CellNo)).arm (0 : Fin 4).val)), 1000, 2, 256000, 5, by unfold State.judging; decide +kernel, by decide +kernel⟩,
    ⟨(on0 (fun c => let c := c.run.puts [(K.FgCalState, 2)]; ({ c with fe := { c.fe with unsettled := [⟨100, 200⟩] } } : Cell))), 0, (t0 9), 100, 200, by decide +kernel⟩,
    ⟨(on0 (fun c => c.run)), 0, (t0 1020), TdcSource.aux, 1000, (⟨-1, 5⟩), 127993, (32768 * 1000 + 256 * (((on0 (fun c => c.run)).cell (0 : CellNo)).tdcTime (⟨-1, 5⟩) 127993 * 50 + ((on0 (fun c => c.run)).cell (0 : CellNo)).trimsAt (TdcSource.aux == .aux) 127993) * ((on0 (fun c => c.run)).cell (0 : CellNo)).fs.1 / (100000000000000 * ((on0 (fun c => c.run)).cell (0 : CellNo)).fs.2 : Nat)), by decide +kernel⟩,
    ⟨(on0 (fun c => let c := c.run.puts [(K.TdcMissCount, 4294967295)]; ({ c with arm := [(K.UnitType, 1), (K.UnitInput, 1)], trg := { c.trg with lastEdge := some 127489 } } : Cell))), 0, (t0 1020), TdcSource.aux, 1000, (⟨0, 99⟩), 128000, 127489, by decide +kernel⟩⟩

def s_RecoveryCompletes_0 : State :=
  on0 (fun c => let c := c.run.puts [(K.FgCalState, 2)]; let c : Cell := { c with act := [(K.CdrEnable, 1), (K.SymbolRate, 10000000000), (K.CdrLockPpm, 10), (K.CdrLockBlocks, 1), (K.CdrPullRange, 1)], trg := { c.trg with cdr := { c.trg.cdr with uis := 4095, edges := 128, integrator := 999, edge := some 6553600 } } }; ({ c with fe := { c.fe with unsettled := [⟨100, 100⟩] } } : Cell))
def s_RecoveryCompletes_1 : State :=
  on0 (fun c => let c := c.run.puts [(K.FgCalState, 2), (K.CdrLocked, 1)]; let c : Cell := { c with act := [(K.CdrEnable, 1), (K.SymbolRate, 10000000000), (K.CdrLockPpm, 10), (K.CdrLockBlocks, 1), (K.CdrPullRange, 1)], trg := { c.trg with cdr := { c.trg.cdr with uis := 5000, edges := 127, bad := 1, edge := some 6553600 } } }; ({ c with fe := { c.fe with unsettled := [⟨100, 100⟩] } } : Cell))
def s_RecoveryCompletes_2 : State :=
  on0 (fun c => let c := c.run.puts [(K.FgCalState, 2)]; let c : Cell := { c with act := [(K.CdrEnable, 1), (K.SymbolRate, 10000000000), (K.CdrLockPpm, 10), (K.CdrLockBlocks, 1), (K.CdrPullRange, 1)], trg := { c.trg with cdr := { c.trg.cdr with uis := 4095, edges := 5, edge := some 6553600 } } }; ({ c with fe := { c.fe with unsettled := [⟨100, 100⟩] } } : Cell))
def s_RecoveryCompletes_3 : State :=
  on0 (fun c => let c := c.run.puts [(K.FgCalState, 2)]; let c : Cell := { c with act := [(K.CdrEnable, 1), (K.SymbolRate, 10000000000), (K.CdrLockPpm, 10), (K.CdrLockBlocks, 1), (K.CdrPullRange, 1)], trg := { c.trg with cdr := { c.trg.cdr with uis := 4094 } } }; ({ c with fe := { c.fe with unsettled := [⟨100, 100⟩] } } : Cell))
def s_RecoveryCompletes_4 : State :=
  on0 (fun c => let c := c.run.puts [(K.FgCalState, 2), (K.CdrLocked, 1)]; let c : Cell := { c with act := [(K.CdrEnable, 1), (K.SymbolRate, 10000000000), (K.CdrLockPpm, 10), (K.CdrLockBlocks, 1), (K.CdrPullRange, 1)], trg := { c.trg with cdr := { c.trg.cdr with uis := 0 } } }; ({ c with arm := [(K.SymbolPatternLength, 1)] } : Cell))
def s_RecoveryCompletes_5 : State :=
  on0 (fun c => let c := c.run.puts [(K.FgCalState, 2), (K.CdrLocked, 1)]; let c : Cell := { c with act := [(K.CdrEnable, 1), (K.SymbolRate, 10000000000), (K.CdrLockPpm, 10), (K.CdrLockBlocks, 1), (K.CdrPullRange, 1)], trg := { c.trg with cdr := { c.trg.cdr with uis := 0 } } }; ({ c with arm := [(K.SymbolPatternLength, 1), (K.UnitType + 256, 8), (K.QualWindow + 256, 255)] } : Cell))
def s_RecoveryCompletes_6 : State :=
  on0 (fun c => let c := c.run.puts [(K.FgCalState, 2)]; (let c : Cell := { c with act := [(K.TrackEnable, 1)] }; { c with trg := { c.trg with track := freshTracking 0 } } : Cell))
theorem wit_RecoveryCompletes :
    (∃ (s : State) (n : CellNo) (w : When) (symbols : List SymbolIn) (first : Nat) (outs : List Int) (last : SymbolIn) (d : Cell), d = (s.cellAt n w).takeSymbols (symbols ++ [last]) first outs ∧ (s.live n ∧ (s.cell n).cdrRuns = true ∧ 4096 ≤ d.trg.cdr.uis ∧ (d.trg.cdr.integrator - d.trg.cdr.blockFrom).natAbs < 100 * d.swath K.CdrLockPpm ∧ 128 ≤ d.trg.cdr.edges ∧ d.get K.CdrLocked = 0 ∧ d.swath K.CdrLockBlocks ≤ min 255 (d.trg.cdr.good + 1))) ∧
    (∃ (s : State) (n : CellNo) (w : When) (symbols : List SymbolIn) (first : Nat) (outs : List Int) (last : SymbolIn) (d : Cell), d = (s.cellAt n w).takeSymbols (symbols ++ [last]) first outs ∧ (s.live n ∧ (s.cell n).cdrRuns = true ∧ 4096 ≤ d.trg.cdr.uis ∧ d.trg.cdr.edges < 128 ∧ d.get K.CdrLocked = 1 ∧ 1 ≤ d.trg.cdr.bad ∧ d.source ≠ 2)) ∧
    (∃ (s : State) (n : CellNo) (w : When) (symbols : List SymbolIn) (first : Nat) (outs : List Int) (last : SymbolIn) (d : Cell), d = (s.cellAt n w).takeSymbols (symbols ++ [last]) first outs ∧ (s.live n ∧ (s.cell n).cdrRuns = true ∧ 4096 ≤ d.trg.cdr.uis ∧ d.source ≠ 2)) ∧
    (∃ (s : State) (n : CellNo) (w : When) (symbols : List SymbolIn) (first : Nat) (outs : List Int) (last : SymbolIn) (d : Cell), d = (s.cellAt n w).takeSymbols (symbols ++ [last]) first outs ∧ (s.live n ∧ (s.cell n).cdrRuns = true ∧ d.trg.cdr.uis < 4096)) ∧
    (∃ (s : State) (n : CellNo) (_ : When) (x : SymbolIn) (first : Nat) (outs : List Int) (b : Nat), b = (s.cell n).symbolEnds first outs x ∧ patternMatches ((s.cell n).symbolPattern (b / 65536)) (regGet (cellDflt K.SymbolPatternLength) K.SymbolPatternLength ((s.cell n).armAt (b / 65536))) (((s.cell n).decideSymbol first outs x :: (s.cell n).trg.cdr.history).take 256) = true ∧ (s.runs n ∧ (s.cell n).cdrRuns = true ∧ (s.cell n).symbolValid x = true ∧ (s.cell n).serialUnit (b / 65536) = none)) ∧
    (∃ (s : State) (n : CellNo) (_ : When) (x : SymbolIn) (first : Nat) (outs : List Int) (u : Fin 4) (b : Nat), b = (s.cell n).symbolEnds first outs x ∧ patternMatches ((s.cell n).symbolPattern (b / 65536)) (regGet (cellDflt K.SymbolPatternLength) K.SymbolPatternLength ((s.cell n).armAt (b / 65536))) (((s.cell n).decideSymbol first outs x :: (s.cell n).trg.cdr.history).take 256) = true ∧ (s.runs n ∧ (s.cell n).cdrRuns = true ∧ (s.cell n).symbolValid x = true ∧ (s.cell n).serialUnit (b / 65536) = some u ∧ (s.cell n).get K.CdrLocked = 1 ∧ unitVal ((s.cell n).armAt (b / 65536)) K.QualWindow u.val = 255 ∧ ((s.cell n).unit u).lastEvent ≠ some (b / 65536))) ∧
    (∃ (s : State) (n : CellNo) (w : When) (samps : List TrackRun) (x : TrackLevels), s.live n ∧ (s.cell n).clk.onFcc = true ∧ 2 ≤ (s.cell n).get K.FgCalState ∧ (s.cell n).trackOn = true ∧ (s.cell n).swath K.TrackSource = 0 ∧ w.cc + 1 = (s.cell n).trg.track.blockFrom + 65536 ∧ (s.cell n).trg.track.est = none ∧ splitLevels (trackHistogram samps) (histMedian (trackHistogram samps)) ((s.cell n).swath K.CdrModulation = 1) ((s.cell n).swath K.TrackMinAmplitude) = some x) ∧
    (∃ (s : State) (n : CellNo) (w : When) (samps : List TrackRun), s.live n ∧ (s.cell n).clk.onFcc = true ∧ 2 ≤ (s.cell n).get K.FgCalState ∧ (s.cell n).trackOn = true ∧ (s.cell n).swath K.TrackSource = 0 ∧ w.cc + 1 = (s.cell n).trg.track.blockFrom + 65536 ∧ (s.cell n).trg.track.est = none ∧ splitLevels (trackHistogram samps) (histMedian (trackHistogram samps)) ((s.cell n).swath K.CdrModulation = 1) ((s.cell n).swath K.TrackMinAmplitude) = none) :=
    ⟨⟨s_RecoveryCompletes_0, 0, (t0 9), [], 96, (List.replicate 16 100), ((⟨98, 105⟩ : SymbolIn)), (((s_RecoveryCompletes_0.cellAt (0 : CellNo) (t0 9)).takeSymbols (([]) ++ [((⟨98, 105⟩ : SymbolIn))]) 96 (List.replicate 16 100))), rfl, by decide +kernel⟩,
    ⟨s_RecoveryCompletes_1, 0, (t0 9), [], 96, (List.replicate 16 100), ((⟨98, 105⟩ : SymbolIn)), (((s_RecoveryCompletes_1.cellAt (0 : CellNo) (t0 9)).takeSymbols (([]) ++ [((⟨98, 105⟩ : SymbolIn))]) 96 (List.replicate 16 100))), rfl, by decide +kernel⟩,
    ⟨s_RecoveryCompletes_2, 0, (t0 9), [], 96, (List.replicate 16 100), ((⟨98, 105⟩ : SymbolIn)), (((s_RecoveryCompletes_2.cellAt (0 : CellNo) (t0 9)).takeSymbols (([]) ++ [((⟨98, 105⟩ : SymbolIn))]) 96 (List.replicate 16 100))), rfl, by decide +kernel⟩,
    ⟨s_RecoveryCompletes_3, 0, (t0 9), [], 96, (List.replicate 16 100), ((⟨98, 105⟩ : SymbolIn)), (((s_RecoveryCompletes_3.cellAt (0 : CellNo) (t0 9)).takeSymbols (([]) ++ [((⟨98, 105⟩ : SymbolIn))]) 96 (List.replicate 16 100))), rfl, by decide +kernel⟩,
    ⟨s_RecoveryCompletes_4, 0, (t0 9), ((⟨98, 105⟩ : SymbolIn)), 96, (List.replicate 16 100), (((s_RecoveryCompletes_4.cell (0 : CellNo)).symbolEnds 96 (List.replicate 16 100) ((⟨98, 105⟩ : SymbolIn)))), rfl, unmatched_free _ _ _ (by decide +kernel) (by decide +kernel), by decide +kernel⟩,
    ⟨s_RecoveryCompletes_5, 0, (t0 9), ((⟨98, 105⟩ : SymbolIn)), 96, (List.replicate 16 100), 1, (((s_RecoveryCompletes_5.cell (0 : CellNo)).symbolEnds 96 (List.replicate 16 100) ((⟨98, 105⟩ : SymbolIn)))), rfl, unmatched_free _ _ _ (by decide +kernel) (by decide +kernel), by decide +kernel⟩,
    ⟨s_RecoveryCompletes_6, 0, (t0 65535), ([⟨-6400, false, false, 4000⟩, ⟨6400, false, false, 6000⟩, ⟨9000, true, false, 100⟩]), ((splitLevels (trackHistogram ([⟨-6400, false, false, 4000⟩, ⟨6400, false, false, 6000⟩, ⟨9000, true, false, 100⟩])) (histMedian (trackHistogram ([⟨-6400, false, false, 4000⟩, ⟨6400, false, false, 6000⟩, ⟨9000, true, false, 100⟩]))) ((s_RecoveryCompletes_6.cell (0 : CellNo)).swath K.CdrModulation = 1) ((s_RecoveryCompletes_6.cell (0 : CellNo)).swath K.TrackMinAmplitude)).getD ⟨0, 0, []⟩), by decide +kernel⟩,
    ⟨(on0 (fun c => let c := c.run.puts [(K.FgCalState, 2)]; (let c : Cell := { c with act := [(K.TrackEnable, 1)] }; { c with trg := { c.trg with track := freshTracking 0 } } : Cell))), 0, (t0 65535), ([⟨64, false, false, 5000⟩, ⟨9000, false, true, 100⟩]), by decide +kernel⟩⟩

def s_ArmRequestsComplete_3 : State :=
  on0 (fun c => let c := c.run.puts [(K.FgCalState, 2), (K.SourceEnable, 1), (K.UnitType, 1), (K.CapacityStooks, 1000000), (K.ThermalHold, 1)]; ({ c with exe := { c.exe with running := true, active := some img0 } } : Cell))
theorem wit_ArmRequestsComplete :
    (∃ (s : State) (n : CellNo) (w : When) (idx : Nat) (e : EventEntry) (p : Nat), s.instanceDue n w idx 1 e p ∧ s.mayArm n (s.firstOf n w p) ∧ (s.cell n).trg.armTaken ≠ some w.cc) ∧
    (∃ (s : State) (n : CellNo) (w : When), s.mayArm n (128 * (w.cc + 1)) ∧ (s.live n ∧ s.pulsed n ((s.cell n).get K.ArmStartLine) w.cc ∧ (s.cell n).trg.armTaken ≠ some w.cc)) ∧
    (∃ (s : State) (n : CellNo) (w : When) (p : Port), s.mayArm n (128 * (w.cc + 1)) ∧ (s.writable n p ∧ (s.cell n).trg.armTaken ≠ some w.cc)) ∧
    (∃ (s : State) (n : CellNo) (w : When) (p : Port) (d : Cell) (cause : Nat), s.writable n p ∧ (s.cell n).trg.acqs = [] ∧ (s.cell n).trg.armTaken ≠ some w.cc ∧ (s.cellAt n w).refusal (s.glob.at w.ns) n (128 * (w.cc + 1)) = (d, cause) ∧ cause ≠ 0) :=
    ⟨⟨(on0 (fun c => let c := c.run.puts [(K.FgCalState, 2), (K.SourceEnable, 1), (K.UnitType, 1), (K.CapacityStooks, 1000000)]; (let c : Cell := c; { c with exe := { c.exe with running := true, active := some { img0 with events := [⟨7 * 2 ^ 32, 0, 0, 1, 2, 5, 0, 1⟩] }, runs := [⟨some (7 * 2 ^ 32), 0⟩] } } : Cell))), 0, (t0 0), 0, (⟨7 * 2 ^ 32, 0, 0, 1, 2, 5, 0, 1⟩), (7 * 2 ^ 32), due_of (by decide +kernel), mayArm_of (by decide +kernel), by decide +kernel⟩,
    ⟨(on0 (fun c => let c := c.run.puts [(K.FgCalState, 2), (K.SourceEnable, 1), (K.UnitType, 1), (K.CapacityStooks, 1000000), (K.ArmStartLine, 9)]; { c with exe := { c.exe with running := true, active := some img0 }, fab := { c.fab with pulses := [(9, 9)] } })), 0, (t0 9), mayArm_of (by decide +kernel), by decide +kernel⟩,
    ⟨(on0 (fun c => let c := c.run.puts [(K.FgCalState, 2), (K.SourceEnable, 1), (K.UnitType, 1), (K.CapacityStooks, 1000000)]; { c with exe := { c.exe with running := true, active := some img0 }, trg := { c.trg with armTaken := some 8 } })), 0, (t0 9), .eth, mayArm_of (by decide +kernel), by decide +kernel⟩,
    ⟨s_ArmRequestsComplete_3, 0, (t0 9), .eth, (((s_ArmRequestsComplete_3.cellAt (0 : CellNo) (t0 9)).refusal (s_ArmRequestsComplete_3.glob.at (t0 9).ns) (0 : CellNo) (128 * ((t0 9).cc + 1))).1), 6, by decide +kernel⟩⟩

theorem wit_StopsAndForcesComplete :
    (∃ (s : State) (n : CellNo) (_ : When) (p : Port), s.writable n p ∧ (s.cell n).trg.acqs = []) ∧
    (∃ (s : State) (n : CellNo) (w : When) (p : Port) (q : Acq), s.filling n w.cc q ∧ (s.writable n p ∧ (s.cell n).clk.onFcc = true)) ∧
    (∃ (s : State) (n : CellNo) (_ : When) (p : Port), s.writable n p ∧ (s.cell n).clk.onFcc = true) ∧
    (∃ (s : State) (n : CellNo) (_ : When) (p : Port), s.writable n p ∧ (s.cell n).clk.onFcc = false) ∧
    (∃ (s : State) (n : CellNo) (w : When), s.live n ∧ (s.cell n).clk.onFcc = true ∧ s.pulsed n ((s.cell n).get K.StopLine) w.cc) :=
    ⟨⟨(on0 (fun c => c.run)), 0, (t0 9), .eth, by decide +kernel⟩,
    ⟨(on0 (fun c => let c := c.run; ({ c with trg := { c.trg with acqs := [{ acq .prefill with cfg := [(K.ArmMode, 0), (K.PreTriggerSamples, 0), (K.PostTriggerSamples, 64), (K.SourceEnable, 1), (K.UnitType, 1)] }] } } : Cell))), 0, (t0 9), .eth, ({ acq .prefill with cfg := [(K.ArmMode, 0), (K.PreTriggerSamples, 0), (K.PostTriggerSamples, 64), (K.SourceEnable, 1), (K.UnitType, 1)] }), by unfold State.filling; decide +kernel, by decide +kernel⟩,
    ⟨(on0 (fun c => let c := c.run; ({ c with trg := { c.trg with acqs := [acq .armed]  } } : Cell))), 0, (t0 40), .eth, by decide +kernel⟩,
    ⟨base, 0, (t0 40), .can, by decide +kernel⟩,
    ⟨(on0 (fun c => let c := c.run.puts [(K.StopLine, 9)]; ({ c with fab := { c.fab with pulses := [(40, 9)] }, trg := { c.trg with acqs := [acq .armed] } } : Cell))), 0, (t0 40), by decide +kernel⟩⟩

theorem wit_DecisionsComplete :
    (∃ (s : State) (n : CellNo) (w : When) (q : Acq), s.live n ∧ (s.cell n).clk.onFcc = true ∧ (s.cell n).trg.acqs = [q] ∧ (s.cell n).trg.queue = [] ∧ (s.cell n).trg.forces = [] ∧ (s.cell n).trg.segMarks = [] ∧ q.stop = none ∧ q.seq = none ∧ q.phase = .prefill ∧ q.p + q.pre < 128 * (w.cc + 1 - q.latency) ∧ q.val K.ArmMode ≠ 2) ∧
    (∃ (s : State) (n : CellNo) (w : When) (q : Acq) (b : Nat), s.live n ∧ (s.cell n).clk.onFcc = true ∧ (s.cell n).trg.acqs = [q] ∧ (s.cell n).trg.queue = [] ∧ (s.cell n).trg.forces = [] ∧ (s.cell n).trg.segMarks = [] ∧ q.stop = none ∧ q.seq = none ∧ q.phase = .armed ∧ q.auto = some b ∧ b / 128 + q.latency = w.cc ∧ 128 * (w.cc + 1 - q.latency) < b + q.val K.PostTriggerSamples) ∧
    (∃ (s : State) (n : CellNo) (w : When) (q : Acq) (e : UnitEvent), s.live n ∧ (s.cell n).clk.onFcc = true ∧ (s.cell n).trg.acqs = [q] ∧ (s.cell n).trg.queue = [e] ∧ (s.cell n).trg.forces = [] ∧ (s.cell n).trg.segMarks = [] ∧ (s.cell n).trg.lastCand = none ∧ q.stop = none ∧ q.seq = none ∧ q.hold = none ∧ q.auto = none ∧ q.phase = .armed ∧ q.val K.TriggerMode = 0 ∧ bit (q.val K.SourceEnable) e.unit = true ∧ e.digital / 128 + q.latency = w.cc ∧ 128 * (w.cc + 1 - q.latency) < e.sample + q.val K.PostTriggerSamples) ∧
    (∃ (s : State) (n : CellNo) (w : When) (q : Acq), s.live n ∧ (s.cell n).clk.onFcc = true ∧ (s.cell n).trg.acqs = [q] ∧ (s.cell n).trg.queue = [] ∧ (s.cell n).trg.forces = [] ∧ (s.cell n).trg.segMarks = [] ∧ q.stop = none ∧ q.seq = none ∧ q.phase = .postfill ∧ q.closed = false ∧ 0 < q.segEnd ∧ q.segEnd = 128 * (w.cc + 1 - q.latency)) ∧
    (∃ (s : State) (n : CellNo) (w : When) (q : Acq), s.live n ∧ (s.cell n).clk.onFcc = true ∧ (s.cell n).trg.acqs = [q] ∧ (s.cell n).trg.queue = [] ∧ (s.cell n).trg.forces = [] ∧ (s.cell n).trg.segMarks = [] ∧ q.stop = none ∧ q.seq = none ∧ q.phase = .rearm ∧ q.segEnd + 4096 < 128 * (w.cc + 1 - q.latency) ∧ 128 * (w.cc + 1 - q.latency) ≤ q.segEnd + 4096 + q.pre) ∧
    (∃ (s : State) (n : CellNo) (w : When) (q : Acq) (r : SeqRun) (x : Nat), s.live n ∧ (s.cell n).clk.onFcc = true ∧ (s.cell n).trg.acqs = [q] ∧ (s.cell n).trg.queue = [] ∧ (s.cell n).trg.forces = [] ∧ (s.cell n).trg.segMarks = [] ∧ q.stop = none ∧ q.phase = .armed ∧ q.auto = none ∧ q.seq = some r ∧ q.expiry = some x ∧ x < (s.cell n).posOf (128 * (w.cc + 1 - q.latency))) :=
    ⟨⟨(on0 (fun c => let c := c.run; ({ c with trg := { c.trg with acqs := [(acq .prefill)]  } } : Cell))), 0, (t0 60), ((acq .prefill)), by decide +kernel⟩,
    ⟨(on0 (fun c => let c := c.run; ({ c with trg := { c.trg with acqs := [{ acq .armed with auto := some 2680 }]  } } : Cell))), 0, (t0 46), ({ acq .armed with auto := some 2680 }), 2680, by decide +kernel⟩,
    ⟨(on0 (fun c => let c := c.run; ({ c with trg := { c.trg with acqs := [acq .armed] , queue := [⟨2681, 0, 2680, 7, 0, 5, true, false⟩] } } : Cell))), 0, (t0 46), (acq .armed), (⟨2681, 0, 2680, 7, 0, 5, true, false⟩), by decide +kernel⟩,
    ⟨(on0 (fun c => let c := c.run; ({ c with trg := { c.trg with acqs := [{ acq .postfill with trig := some ⟨2624, 0, 7, 1, false, true, false⟩ }]  } } : Cell))), 0, (t0 46), ({ acq .postfill with trig := some ⟨2624, 0, 7, 1, false, true, false⟩ }), by decide +kernel⟩,
    ⟨(on0 (fun c => let c := c.run; ({ c with trg := { c.trg with acqs := [{ acq .rearm with trig := some ⟨2624, 0, 7, 1, false, true, false⟩, cfg := [(K.PreTriggerSamples, 512), (K.PostTriggerSamples, 64)] }]  } } : Cell))), 0, (t0 79), ({ acq .rearm with trig := some ⟨2624, 0, 7, 1, false, true, false⟩, cfg := [(K.PreTriggerSamples, 512), (K.PostTriggerSamples, 64)] }), by decide +kernel⟩,
    ⟨(on0 (fun c => let c := c.run; ({ c with trg := { c.trg with acqs := [{ acq .armed with seq := some ⟨1300, 0, 100, 0, 0⟩, cfg := [(K.SeqLimitKind, 1), (K.SeqTimeLimit, 30), (K.TriggerMode, 1)] }]  } } : Cell))), 0, (t0 46), ({ acq .armed with seq := some ⟨1300, 0, 100, 0, 0⟩, cfg := [(K.SeqLimitKind, 1), (K.SeqTimeLimit, 30), (K.TriggerMode, 1)] }), (⟨1300, 0, 100, 0, 0⟩), ((({ acq .armed with seq := some ⟨1300, 0, 100, 0, 0⟩, cfg := [(K.SeqLimitKind, 1), (K.SeqTimeLimit, 30), (K.TriggerMode, 1)] } : Acq).expiry).getD 0), by decide +kernel⟩⟩

theorem wit_PlacementMaintenanceCompletes :
    (∃ (s : State) (n : CellNo) (_ : When) (_ : SkewTrims), s.live n ∧ (s.cell n).get K.HaywardHolder = 2) ∧
    (∃ (s : State) (n : CellNo) (w : When) (_ : List Nat), s.live n ∧ (s.cell n).get K.HaywardHolder = 3 ∧ (s.cellAt n w).tdcHits = 262144 ∧ (s.cell n).plc.toggle = false) ∧
    (∃ (s : State) (n : CellNo) (w : When), s.live n ∧ (s.cell n).get K.TdcCalInterval ≠ 0 ∧ 2 ≤ (s.cell n).get K.SkewState ∧ (s.cell n).get K.TdcPending = 0 ∧ (s.cell n).plc.toggledNs + (s.cell n).get K.TdcCalInterval * 1000000 ≤ w.ns) :=
    ⟨⟨(on0 (fun c => let c := c.run.puts [(K.HaywardHolder, 2), (K.SkewState, 2)]; (c : Cell))), 0, (t0 9), (⟨1, 2, 3, 4⟩), by decide +kernel⟩,
    ⟨(on0 (fun c => let c := c.run.puts [(K.HaywardHolder, 3), (K.TdcHitsCollected, 262144)]; ({ c with hay := { c.hay with grantStart := 0, grantEnd := 8191 } } : Cell))), 0, (t0 9), ([1, 2, 3]), by decide +kernel⟩,
    ⟨(on0 (fun c => let c := c.run.puts [(K.SkewState, 2), (K.TdcCalInterval, 5)]; (c : Cell))), 0, (⟨5000000, 9⟩), by decide +kernel⟩⟩

def s_PackingCompletes_0 : State :=
  on0 (fun c => let c := c.run; ({ c with flt := { c.flt with lanes := c.flt.lanes.set 2 { (c.flt.lanes.get 2) with plan := some noPlan, seqs := [(⟨noPlan, 0, 0, [⟨0, 0, [], false⟩], none, 0⟩ : LaneSeq)] } } } : Cell))
def s_PackingCompletes_1 : State :=
  on0 (fun c => let c := c.run; (let c : Cell := { c with flt := { c.flt with lanes := c.flt.lanes.set 2 { (c.flt.lanes.get 2) with plan := some noPlan, seqs := [(⟨noPlan, 0, 0, [⟨0, 0, [], false⟩], none, 0⟩ : LaneSeq)] } } }; { c with cap := { c.cap with streams := c.cap.streams.set 1 { noStream with active := true, lane := 2, n0 := 0, places := 8, ring := 8 } } } : Cell))
def s_PackingCompletes_2 : State :=
  on0 (fun c => let c := c.run; ({ c with cap := { c.cap with mode := 2, streams := c.cap.streams.set 1 { noStream with active := true, places := 8, ring := 8, stooks := [(⟨0, 0, 8, 0, .held, some 0, 0⟩ : Packed)]  }  } } : Cell))
def s_PackingCompletes_3 : State :=
  on0 (fun c => let c := c.run; ({ c with cap := { c.cap with mode := 0, streams := c.cap.streams.set 1 { noStream with active := true, places := 8, ring := 8, stooks := [(⟨0, 0, 8, 0, .held, none, 0⟩ : Packed)]  }  } } : Cell))
def s_PackingCompletes_4 : State :=
  on0 (fun c => let c := c.run.puts [(K.MemState, 2), (K.CapacityStooks, 1000000), (streamKey K.StooksDrained 1, 4)]; (let c : Cell := { c with cap := { c.cap with mode := 2, streams := c.cap.streams.set 1 { noStream with active := true, places := 8, ring := 8, stooks := [(⟨0, 0, 8, 0, .queued, none, 0⟩ : Packed)]  } , cfg := [(streamKey K.DataStooks 1, 4)] } }; { c with exe := { c.exe with running := true, active := some { img0 with slots := List.replicate 144 17 } } } : Cell))
theorem wit_PackingCompletes :
    (∃ (s : State) (n : CellNo) (w : When) (k : Fin 4) (_ : Nat) (_ : List Samp) (q : LaneSeq), s.mayEnter n w k q ∧ ((∀ i, ((s.cell n).stream i).active = false) ∧ (∀ i, ((s.cell n).prt.live.get i).active = false))) ∧
    (∃ (s : State) (n : CellNo) (w : When) (k : Fin 4) (first : Nat) (samps : List Samp) (q : LaneSeq) (j : Fin 4) (v : Int), s.mayEnter n w k q ∧ (((∀ i, i ≠ j → ((s.cell n).stream i).active = false)) ∧ (∀ i, ((s.cell n).prt.live.get i).active = false) ∧ ((s.cell n).stream j).active = true ∧ ((s.cell n).stream j).done = false ∧ ((s.cell n).stream j).lane = k.val ∧ ((s.cell n).stream j).n0 = q.n0 ∧ ((s.cellAt n w).laneOutput k.val q q.next first samps).vals = [v] ∧ (s.cell n).cap.stop = none ∧ (s.cell n).cap.segments = [] ∧ ((s.cell n).cap.start : Int) ≤ ((s.cell n).stream j).refOf ((s.cell n).stream j).nextVal ∧ ((s.cell n).stream j).openVals.length + 1 < ((s.cell n).stream j).per)) ∧
    (∃ (s : State) (n : CellNo) (w : When) (j : Fin 4) (p : Packed) (ps : List Packed), s.live n ∧ (s.cell n).clk.onFcc = true ∧ (s.cell n).cap.stop = none ∧ ((s.cell n).stream j).stooks = p :: ps ∧ p.state = .held ∧ ((p.segment.isSome = true ∨ (s.cell n).cap.mode = 2)) ∧ ((s.cell n).stream j).intervalEnd p.last / 128 + (s.cell n).get K.TriggerLatencyApplied < w.cc) ∧
    (∃ (s : State) (n : CellNo) (w : When) (j : Fin 4) (p : Packed) (ps : List Packed), s.live n ∧ (s.cell n).clk.onFcc = true ∧ (s.cell n).cap.stop = none ∧ ((s.cell n).stream j).stooks = p :: ps ∧ p.state = .held ∧ p.segment = none ∧ (s.cell n).cap.mode ≠ 2 ∧ (s.cellAt n w).outOfReach ((s.cell n).stream j) p = true) ∧
    (∃ (s : State) (n : CellNo) (w : When) (j : Fin 4) (a : SlotAt) (_ : Nat) (m : Nat) (p : Packed) (ps : List Packed), s.drainsIn n w j a m ∧ s.drains n j a.ch p ps ∧ (s.cell n).deepFullNow j = true) ∧
    (∃ (s : State) (n : CellNo) (w : When) (j : Fin 4) (a : SlotAt) (_ : Nat) (m : Nat) (p : Packed) (ps : List Packed), s.drainsIn n w j a m ∧ s.drains n j a.ch p ps ∧ (s.cell n).deepFullNow j = false) :=
    ⟨⟨s_PackingCompletes_0, 0, (t0 100), 2, 0, [], ((⟨noPlan, 0, 0, [⟨0, 0, [], false⟩], none, 0⟩ : LaneSeq)), by unfold State.mayEnter; decide +kernel, by decide +kernel⟩,
    ⟨s_PackingCompletes_1, 0, (t0 100), 2, 0, [], ((⟨noPlan, 0, 0, [⟨0, 0, [], false⟩], none, 0⟩ : LaneSeq)), 1, (((s_PackingCompletes_1.cellAt (0 : CellNo) (t0 100)).laneOutput (2 : Fin 4).val ((⟨noPlan, 0, 0, [⟨0, 0, [], false⟩], none, 0⟩ : LaneSeq)) ((⟨noPlan, 0, 0, [⟨0, 0, [], false⟩], none, 0⟩ : LaneSeq)).next 0 ([])).vals.headD 0), by unfold State.mayEnter; decide +kernel, by decide +kernel⟩,
    ⟨s_PackingCompletes_2, 0, (t0 100), 1, ((⟨0, 0, 8, 0, .held, some 0, 0⟩ : Packed)), [], by decide +kernel⟩,
    ⟨s_PackingCompletes_3, 0, (t0 100000), 1, ((⟨0, 0, 8, 0, .held, none, 0⟩ : Packed)), [], by decide +kernel⟩,
    ⟨s_PackingCompletes_4, 0, (t0 0), 1, (⟨0, 1⟩), 0, 1, ((⟨0, 0, 8, 0, .queued, none, 0⟩ : Packed)), [], by unfold State.drainsIn State.slotIs; decide +kernel, by unfold State.drains; decide +kernel, by decide +kernel⟩,
    ⟨(on0 (fun c => let c := c.run.puts [(K.MemState, 2), (K.CapacityStooks, 1000000), (streamKey K.StooksDrained 1, 4)]; (let c : Cell := { c with cap := { c.cap with mode := 2, streams := c.cap.streams.set 1 { noStream with active := true, places := 8, ring := 8, stooks := [(⟨0, 0, 8, 0, .queued, none, 0⟩ : Packed)]  } , cfg := [(streamKey K.DataStooks 1, 4), (streamKey K.DataWrap 1, 1)] } }; { c with exe := { c.exe with running := true, active := some { img0 with slots := List.replicate 144 17 } } } : Cell))), 0, (t0 0), 1, (⟨0, 1⟩), 0, 1, ((⟨0, 0, 8, 0, .queued, none, 0⟩ : Packed)), [], by unfold State.drainsIn State.slotIs; decide +kernel, by unfold State.drains; decide +kernel, by decide +kernel⟩⟩

theorem wit_EntriesComplete :
    (∃ (s : State) (n : CellNo) (w : When) (j : Fin 4) (a : SlotAt) (m : Nat) (x : SegStore) (g : Segment), s.drainsIn n w j a m ∧ (channelOf ((s.cell n).entryStook j) = a.ch ∧ ((s.cell n).stream j).half = none ∧ (s.cell n).segmentDue ((s.cell n).stream j) = some (x, g))) ∧
    (∃ (s : State) (n : CellNo) (w : When) (j : Fin 4) (a : SlotAt) (m : Nat) (x : SegStore) (g : Segment) (bs : List Byte), s.drainsIn n w j a m ∧ (channelOf ((s.cell n).entryStook j + 1) = a.ch ∧ ((s.cell n).stream j).half = some bs ∧ bit (leNat bs) 248 = false ∧ (s.cell n).segmentDue ((s.cell n).stream j) = some (x, g))) ∧
    (∃ (s : State) (n : CellNo) (w : When) (j : Fin 4) (a : SlotAt) (m : Nat) (g : Gap), s.drainsIn n w j a m ∧ (channelOf ((s.cell n).entryStook j) = a.ch ∧ ((s.cell n).stream j).half = none ∧ ((s.cell n).stream j).gapDue = some g)) ∧
    (∃ (s : State) (n : CellNo) (w : When) (j : Fin 4) (a : SlotAt) (m : Nat) (g : Gap) (bs : List Byte), s.drainsIn n w j a m ∧ (channelOf ((s.cell n).entryStook j + 1) = a.ch ∧ ((s.cell n).stream j).half = some bs ∧ bit (leNat bs) 248 = true ∧ ((s.cell n).stream j).gapDue = some g)) :=
    ⟨⟨(on0 (fun c => let c := c.run.puts [(K.MemState, 2), (K.CapacityStooks, 1000000)]; (let c : Cell := { c with cap := { c.cap with mode := 2, segments := [(⟨3, 100, 200, none, 7, true, 1⟩ : Segment)], streams := c.cap.streams.set 1 { noStream with active := true, done := true, stores := [(⟨3, some 0, 0, 2, 0, 0, 0, false, false, false⟩ : SegStore)] } } }; { c with exe := { c.exe with running := true, active := some { img0 with slots := List.replicate 144 17 } } } : Cell))), 0, (t0 0), 1, (⟨0, 0⟩), 0, ((⟨3, some 0, 0, 2, 0, 0, 0, false, false, false⟩ : SegStore)), ((⟨3, 100, 200, none, 7, true, 1⟩ : Segment)), by unfold State.drainsIn State.slotIs; decide +kernel, by decide +kernel⟩,
    ⟨(on0 (fun c => let c := c.run.puts [(K.MemState, 2), (K.CapacityStooks, 1000000)]; (let c : Cell := { c with cap := { c.cap with mode := 2, segments := [(⟨3, 100, 200, none, 7, true, 1⟩ : Segment)], streams := c.cap.streams.set 1 { noStream with active := true, done := true, stores := [(⟨3, some 0, 0, 2, 0, 0, 0, false, false, false⟩ : SegStore)], half := some [1, 2, 3] } } }; { c with exe := { c.exe with running := true, active := some { img0 with slots := List.replicate 144 17 } } } : Cell))), 0, (t0 0), 1, (⟨1, 1⟩), 1, ((⟨3, some 0, 0, 2, 0, 0, 0, false, false, false⟩ : SegStore)), ((⟨3, 100, 200, none, 7, true, 1⟩ : Segment)), ([1, 2, 3]), by unfold State.drainsIn State.slotIs; decide +kernel, by decide +kernel⟩,
    ⟨(on0 (fun c => let c := c.run.puts [(K.MemState, 2), (K.CapacityStooks, 1000000)]; (let c : Cell := { c with cap := { c.cap with mode := 2, segments := [], streams := c.cap.streams.set 1 { noStream with active := true, taken := 1, gaps := [(⟨500, 9, 2, some 0⟩ : Gap)] } } }; { c with exe := { c.exe with running := true, active := some { img0 with slots := List.replicate 144 17 } } } : Cell))), 0, (t0 0), 1, (⟨0, 1⟩), 1, ((⟨500, 9, 2, some 0⟩ : Gap)), by unfold State.drainsIn State.slotIs; decide +kernel, by decide +kernel⟩,
    ⟨(on0 (fun c => let c := c.run.puts [(K.MemState, 2), (K.CapacityStooks, 1000000)]; (let c : Cell := { c with cap := { c.cap with mode := 2, segments := [], streams := c.cap.streams.set 1 { noStream with active := true, taken := 1, gaps := [(⟨500, 9, 2, some 0⟩ : Gap)], half := some (zeros 31 ++ [1]) } } }; { c with exe := { c.exe with running := true, active := some { img0 with slots := List.replicate 144 17 } } } : Cell))), 0, (t0 0), 1, (⟨1, 0⟩), 0, ((⟨500, 9, 2, some 0⟩ : Gap)), ((zeros 31 ++ [1])), by unfold State.drainsIn State.slotIs; decide +kernel, by decide +kernel⟩⟩

theorem wit_DeepWindowCompletes :
    (∃ (s : State) (n : CellNo) (_ : When) (off : Nat) (len : Nat), s.live n ∧ wiping s.glob n = false ∧ badTlp n bar2Window off len = false ∧ (s.cell n).parked = true) ∧
    (∃ (s : State) (n : CellNo) (_ : When) (off : Nat) (len : Nat), s.live n ∧ wiping s.glob n = false ∧ badTlp n bar2Window off len = false ∧ (s.cell n).parked = false ∧ (s.cell n).capacity < (stookSpan off len).1 + (stookSpan off len).2) ∧
    (∃ (s : State) (n : CellNo) (_ : When) (off : Nat) (len : Nat), s.live n ∧ wiping s.glob n = false ∧ badTlp n bar2Window off len = false ∧ (s.cell n).parked = false ∧ (stookSpan off len).1 + (stookSpan off len).2 ≤ (s.cell n).capacity ∧ 0 < len) ∧
    (∃ (s : State) (n : CellNo) (_ : When) (off : Nat) (data : List Byte) (_ : List Bool) (_ : Bool), s.live n ∧ wiping s.glob n = false ∧ badTlp n bar2Window off data.length = false ∧ (s.cell n).parked = true) ∧
    (∃ (s : State) (n : CellNo) (_ : When) (off : Nat) (data : List Byte) (enables : List Bool) (ep : Bool) (x : StookWrite), s.live n ∧ wiping s.glob n = false ∧ badTlp n bar2Window off data.length = false ∧ (s.cell n).parked = false ∧ hostWrites off data enables ep = [x] ∧ x.stook < (s.cell n).capacity) ∧
    (∃ (s : State) (n : CellNo) (_ : When) (off : Nat) (len : Nat), (s.cell n).held = true ∧ badTlp n bar2Window off len = false) :=
    ⟨⟨(on0 (fun c => let c := c.run.puts [(K.ClockState, 2)]; (c : Cell))), 0, (t0 9), 16, 32, by decide +kernel⟩,
    ⟨(on0 (fun c => let c := c.run.puts [(K.MemState, 2), (K.CapacityStooks, 1000)]; (c : Cell))), 0, (t0 9), 16000, 32, by decide +kernel⟩,
    ⟨(on0 (fun c => let c := c.run.puts [(K.MemState, 2), (K.CapacityStooks, 1000)]; (c : Cell))), 0, (t0 9), 8, 32, by decide +kernel⟩,
    ⟨(on0 (fun c => let c := c.run.puts [(K.ClockState, 3)]; (c : Cell))), 0, (t0 9), 16, (zeros 16), (List.replicate 16 true), false, by decide +kernel⟩,
    ⟨(on0 (fun c => let c := c.run.puts [(K.MemState, 2), (K.CapacityStooks, 1000)]; (c : Cell))), 0, (t0 9), 16, (List.replicate 16 7), (List.replicate 16 true), false, ((hostWrites 16 (List.replicate 16 7) (List.replicate 16 true) false).headD ⟨0, ⟨0, 0, false⟩⟩), by decide +kernel⟩,
    ⟨(on0 (fun c => { c with held := true })), 0, (t0 9), 16, 32, by decide +kernel⟩⟩

theorem wit_OnDieWindowsComplete :
    (∃ (s : State) (n : CellNo) (_ : When) (off : Nat) (len : Nat) (_ : List (Nat × Nat)), s.live n ∧ wiping s.glob n = false ∧ badTlp n bar4Window off len = false ∧ (bar4Space off).2.1 + (bar4Space off).2.2 < off + len) ∧
    (∃ (s : State) (n : CellNo) (_ : When) (off : Nat) (len : Nat) (_ : List (Nat × Nat)), s.live n ∧ wiping s.glob n = false ∧ badTlp n bar4Window off len = false ∧ off + len ≤ (bar4Space off).2.1 + (bar4Space off).2.2) ∧
    (∃ (s : State) (n : CellNo) (_ : When) (off : Nat) (data : List Byte) (enables : List Bool) (ep : Bool) (x : StookWrite), s.live n ∧ wiping s.glob n = false ∧ badTlp n bar4Window off data.length = false ∧ off < 0x4000000 ∧ hostWrites off data enables ep = [x] ∧ 16 * x.stook < 16 * capturePlaces ∧ (s.cell n).get K.ArmState = 0) ∧
    (∃ (s : State) (n : CellNo) (_ : When) (off : Nat) (data : List Byte) (enables : List Bool) (ep : Bool), s.live n ∧ wiping s.glob n = false ∧ badTlp n bar4Window off data.length = false ∧ off + data.length ≤ 16 * capturePlaces ∧ hostWrites off data enables ep ≠ [] ∧ (s.cell n).get K.ArmState ≠ 0) :=
    ⟨⟨(on0 (fun c => c.run)), 0, (t0 9), 0x3fffff0, 32, [], by decide +kernel⟩,
    ⟨(on0 (fun c => c.run)), 0, (t0 9), 8, 32, [], by decide +kernel⟩,
    ⟨(on0 (fun c => c.run)), 0, (t0 9), 0, (List.replicate 16 7), (List.replicate 16 true), false, ((hostWrites 0 (List.replicate 16 7) (List.replicate 16 true) false).headD ⟨0, ⟨0, 0, false⟩⟩), by decide +kernel⟩,
    ⟨(on0 (fun c => let c := c.run.puts [(K.ArmState, 2)]; (c : Cell))), 0, (t0 9), 4, (List.replicate 9 7), (List.replicate 9 true), true, by decide +kernel⟩⟩

theorem wit_MalformedTlpStops :
    (∃ (_ : State) (n : CellNo) (_ : When) (off : Nat) (len : Nat), (4096 < len ∨ 4 * 2 ^ 34 < n.val * 2 ^ 34 + off + len)) ∧
    (∃ (_ : State) (n : CellNo) (_ : When) (off : Nat) (len : Nat) (_ : List (Nat × Nat)), (4096 < len ∨ 4 * 2 ^ 28 < n.val * 2 ^ 28 + off + len)) ∧
    (∃ (_ : State) (n : CellNo) (_ : When) (off : Nat) (data : List Byte) (_ : List Bool) (_ : Bool), (4096 < data.length ∨ 4 * 2 ^ 34 < n.val * 2 ^ 34 + off + data.length)) ∧
    (∃ (_ : State) (n : CellNo) (_ : When) (off : Nat) (data : List Byte) (_ : List Bool) (_ : Bool), (4096 < data.length ∨ 4 * 2 ^ 28 < n.val * 2 ^ 28 + off + data.length)) ∧
    (∃ (_ : State) (n : CellNo) (_ : When) (off : Nat) (len : Nat), len ≤ 4096 ∧ n.val * 2 ^ 34 + off + len ≤ 4 * 2 ^ 34) ∧
    (∃ (_ : State) (n : CellNo) (_ : When) (off : Nat) (data : List Byte) (_ : List Bool) (_ : Bool), data.length ≤ 4096 ∧ n.val * 2 ^ 34 + off + data.length ≤ 4 * 2 ^ 34) ∧
    (∃ (_ : State) (n : CellNo) (_ : When) (off : Nat) (len : Nat) (_ : List (Nat × Nat)), len ≤ 4096 ∧ n.val * 2 ^ 28 + off + len ≤ 4 * 2 ^ 28) ∧
    (∃ (_ : State) (n : CellNo) (_ : When) (off : Nat) (data : List Byte) (_ : List Bool) (_ : Bool), data.length ≤ 4096 ∧ n.val * 2 ^ 28 + off + data.length ≤ 4 * 2 ^ 28) :=
    ⟨⟨(on0 (fun c => c.run)), 0, (t0 9), 0, 4097, by decide +kernel⟩,
    ⟨(on0 (fun c => c.run)), 0, (t0 9), 0, 4097, [], by decide +kernel⟩,
    ⟨(on0 (fun c => c.run)), 0, (t0 9), 0, (zeros 4097), [], false, by decide +kernel⟩,
    ⟨(on0 (fun c => c.run)), 3, (t0 9), (2 ^ 28 - 1), (zeros 2), [], false, by decide +kernel⟩,
    ⟨(on0 (fun c => c.run)), 3, (t0 9), 17179865088, 4096, by decide +kernel⟩,
    ⟨(on0 (fun c => let c := c.run.puts [(K.MemState, 2), (K.CapacityStooks, 1000)]; (c : Cell))), 0, (t0 9), 36, ([1, 2]), ([true, true]), false, by decide +kernel⟩,
    ⟨(on0 (fun c => c.run)), 3, (t0 9), 268431360, 4096, [], by decide +kernel⟩,
    ⟨(on0 (fun c => c.run)), 3, (t0 9), 268435454, ([1, 2]), ([true, true]), false, by decide +kernel⟩⟩

theorem wit_MemoryBringUpCompletes :
    (∃ (s : State) (n : CellNo) (_ : When) (r0 : ChannelReport) (r1 : ChannelReport) (r2 : ChannelReport) (r3 : ChannelReport), s.live n ∧ (s.cell n).get K.MemState = 1 ∧ (s.cell n).get K.ClockState = 4 ∧ (s.cell n).clk.onFcc = true ∧ (s.cell n).mem.up = false ∧ [r0, r1, r2, r3].all (fun r => bringUpCause r == 0) = true) ∧
    (∃ (s : State) (n : CellNo) (_ : When) (r0 : ChannelReport) (r1 : ChannelReport) (r2 : ChannelReport) (r3 : ChannelReport), s.live n ∧ (s.cell n).get K.MemState = 1 ∧ (s.cell n).get K.ClockState = 4 ∧ (s.cell n).clk.onFcc = true ∧ (s.cell n).mem.up = false ∧ [r0, r1, r2, r3].any (fun r => bringUpCause r != 0) = true) ∧
    (∃ (s : State) (n : CellNo) (_ : When), s.live n) ∧
    (∃ (s : State) (n : CellNo) (_ : When) (_ : Int) (_ : Int) (_ : Int) (_ : Int), s.live n ∧ (s.cell n).get K.MemState = 2) :=
    ⟨⟨(on0 (fun c => (c.run.puts [(K.MemState, 1), (K.ClockState, 4)]))), 0, (t0 9), (⟨0, 1, 2048, false, true, 16, 0, zeros 3, []⟩), (⟨0, 1, 2048, false, true, 16, 0, zeros 3, []⟩), (⟨0, 1, 4096, false, true, 16, 0, zeros 3, []⟩), (⟨0, 1, 2048, false, true, 16, 0, zeros 3, []⟩), by decide +kernel⟩,
    ⟨(on0 (fun c => (c.run.puts [(K.MemState, 1), (K.ClockState, 4)]))), 0, (t0 9), (⟨0, 1, 2048, false, true, 16, 0, zeros 3, []⟩), (⟨0, 1, 2048, false, true, 16, 0, zeros 3, []⟩), (⟨0, 1, 2048, false, false, 16, 0, [], []⟩), (⟨0, 1, 2048, false, true, 16, 0, zeros 3, []⟩), by decide +kernel⟩,
    ⟨(on0 (fun c => c.run)), 0, (t0 9), by decide +kernel⟩,
    ⟨(on0 (fun c => let c := c.run.puts [(K.MemState, 2)]; (c : Cell))), 0, (⟨0, 9⟩), (-20), 30, 86, 40, by decide +kernel⟩⟩

theorem wit_SlotAccessesComplete :
    (∃ (s : State) (n : CellNo) (w : When) (a : SlotAt) (m : Nat) (x : Nat) (k : Fin 8), s.slotIs n w a m (2 + 16 * k.val) ∧ ((s.cell n).fixedNext k = some x ∧ channelOf x = a.ch ∧ x < (s.cell n).capacity ∧ (s.cell n).channelFailed a.ch = false)) ∧
    (∃ (s : State) (n : CellNo) (w : When) (a : SlotAt) (m : Nat) (x : Nat) (p : Fin 4), s.slotIs n w a m (3 + 16 * p.val) ∧ ((s.cell n).playNext p = some x ∧ channelOf x = a.ch ∧ x < (s.cell n).capacity ∧ (s.cell n).channelFailed a.ch = false)) ∧
    (∃ (s : State) (n : CellNo) (w : When) (_ : Nat) (f : FixedRead) (p : Fin 4), s.runs n ∧ (s.cell n).mem.fixedReads = [f] ∧ (s.cellAt n w).cycleFrom ≤ f.due ∧ f.due < (s.cellAt n w).cycleTo ∧ f.kind = 3 ∧ f.target = p.val ∧ f.issued = true ∧ f.source = .device ∧ ((s.cell n).playOf p).discard = 0) ∧
    (∃ (s : State) (n : CellNo) (w : When) (a : SlotAt) (m : Nat) (p : Party) (r : OpenReq) (rs : List OpenReq), s.slotIs n w a m 0 ∧ ((∀ q, q ≠ p → (s.cell n).requestsOf q = [])) ∧ ((s.cell n).get K.HaywardHolder ≠ 0 ∧ (s.cell n).patRunning = false ∧ (s.cell n).requestsOf p = r :: rs ∧ p ≠ .scrub ∧ (s.cell n).blanks = false ∧ channelOf r.stook = a.ch ∧ (queueOf ((s.cell n).banksOf a.ch) (bankOf r.stook)).length + 1 ≤ 8 ∧ r.write = none ∧ (s.cell n).channelFailed a.ch = false)) ∧
    (∃ (s : State) (n : CellNo) (w : When) (a : SlotAt) (m : Nat) (r : OpenReq) (rs : List OpenReq) (x : OpenWrite), s.slotIs n w a m 0 ∧ ((∀ q, q ≠ .host → (s.cell n).requestsOf q = [])) ∧ ((s.cell n).get K.HaywardHolder ≠ 0 ∧ (s.cell n).patRunning = false ∧ (s.cell n).requestsOf .host = r :: rs ∧ channelOf r.stook = a.ch ∧ (queueOf ((s.cell n).banksOf a.ch) (bankOf r.stook)).length + r.need ≤ 8 ∧ r.write = some x ∧ (s.cell n).channelFailed a.ch = false)) ∧
    (∃ (s : State) (n : CellNo) (_ : When) (_ : Nat) (v : Nat) (off : Nat) (len : Nat) (f : Flight) (fs : List Flight), s.live n ∧ (s.cell n).flightsOf .host = f :: fs ∧ f.data = some (v, .device) ∧ f.merge = false ∧ (s.cell n).mem.hostReads = [(off, len)] ∧ (s.cell n).mem.gathered = [] ∧ (stookSpan off len).2 = 1) ∧
    (∃ (s : State) (n : CellNo) (_ : When) (flip : Nat) (v : Nat) (i : Nat) (x : Nat) (f : Flight) (fs : List Flight), s.live n ∧ (s.cell n).flightsOf .scrub = f :: fs ∧ f.data = some (v, .device) ∧ f.merge = false ∧ f.touched = false ∧ decodeStook (v ^^^ flip % 2 ^ 144) = .corrected i x) :=
    ⟨⟨(on0 (fun c => let c := c.run.puts [(K.MemState, 2), (K.CapacityStooks, 1000000), (K.MoverOwner, 2), (chanKey K.DmaChannelState 2, 3)]; (let c : Cell := { c with dma := { c.dma with chans := c.dma.chans.set 2 { noChan with desc := some (⟨0, 64, 128, 0, 0xFFFF, 1, 2, 0, false, 0, 0, false, false, true, 0, 0, false⟩ : Descriptor), bursts := [(⟨0, 64, [⟨0, 16, 0, 16⟩, ⟨4, 16, 0, 16⟩], [], false, 0, 0⟩ : Burst)], fixedOut := 1 } } }; { c with exe := { c.exe with running := true, active := some { img0 with slots := List.replicate 144 34 } } } : Cell))), 0, (t0 0), (⟨0, 1⟩), 1, 4, 2, by unfold State.slotIs; decide +kernel, by decide +kernel⟩,
    ⟨(on0 (fun c => let c := c.run.puts [(K.MemState, 2), (K.CapacityStooks, 1000000), (portKey K.PlaybackState 2, 1), (portKey K.PlaybackStooks 2, 100), (portKey K.PlaybackBase 2, 40)]; (let c : Cell := c; { c with exe := { c.exe with running := true, active := some { img0 with slots := List.replicate 144 35 } } } : Cell))), 0, (t0 0), (⟨0, 1⟩), 1, 40, 2, by unfold State.slotIs; decide +kernel, by decide +kernel⟩,
    ⟨(on0 (fun c => let c := c.run.puts [(K.MemState, 2)]; ({ c with mem := { c.mem with fixedReads := [(⟨14, 3, 2, 40, encodeStook 77, .device, true⟩ : FixedRead)] }, exe := { c.exe with running := true } } : Cell))), 0, (t0 9), 5, ((⟨14, 3, 2, 40, encodeStook 77, .device, true⟩ : FixedRead)), 2, by decide +kernel⟩,
    ⟨(on0 (fun c => let c := c.run.puts [(K.MemState, 2), (K.CapacityStooks, 1000000), (K.HaywardHolder, 255)]; (let c : Cell := { c with mem := { c.mem with requests := c.mem.requests.set (partyIx .host) [(⟨8, 2, none, 5⟩ : OpenReq)] } }; { c with exe := { c.exe with running := true, active := some { img0 with slots := List.replicate 144 0 } } } : Cell))), 0, (t0 0), (⟨0, 1⟩), 1, .host, ((⟨8, 2, none, 5⟩ : OpenReq)), [], by unfold State.slotIs; decide +kernel, by intro q; cases q <;> decide +kernel, by decide +kernel⟩,
    ⟨(on0 (fun c => let c := c.run.puts [(K.MemState, 2), (K.CapacityStooks, 1000000), (K.HaywardHolder, 255)]; (let c : Cell := { c with mem := { c.mem with requests := c.mem.requests.set (partyIx .host) [(⟨8, 1, some ⟨7, 255, false⟩, 5⟩ : OpenReq)] } }; { c with exe := { c.exe with running := true, active := some { img0 with slots := List.replicate 144 0 } } } : Cell))), 0, (t0 0), (⟨0, 1⟩), 1, ((⟨8, 1, some ⟨7, 255, false⟩, 5⟩ : OpenReq)), [], (⟨7, 255, false⟩), by unfold State.slotIs; decide +kernel, by intro q; cases q <;> decide +kernel, by decide +kernel⟩,
    ⟨(on0 (fun c => let c := c.run.puts [(K.MemState, 2)]; ({ c with mem := { c.mem with flights := c.mem.flights.set (partyIx .host) [(⟨2, 0, some (encodeStook 0x1234, .device), false, false, false⟩ : Flight)], hostReads := [(36, 8)] } } : Cell))), 0, (t0 9), 0, ((encodeStook 0x1234)), 36, 8, ((⟨2, 0, some (encodeStook 0x1234, .device), false, false, false⟩ : Flight)), [], by decide +kernel⟩,
    ⟨(on0 (fun c => let c := c.run.puts [(K.MemState, 2)]; ({ c with mem := { c.mem with flights := c.mem.flights.set (partyIx .scrub) [(⟨2, 0, some (encodeStook 0x1234, .device), false, false, false⟩ : Flight)] } } : Cell))), 0, (t0 9), 16, ((encodeStook 0x1234)), 1, ((encodeStook 0x1234)), ((⟨2, 0, some (encodeStook 0x1234, .device), false, false, false⟩ : Flight)), [], by decide +kernel⟩⟩

theorem wit_MemoryStatesComplete :
    (∃ (s : State) (n : CellNo) (w : When), s.runs n ∧ (s.cell n).get K.MemState = 2 ∧ (s.cell n).get K.SelfRefreshEnable = 1 ∧ (s.cell n).get K.ArmState = 0 ∧ (s.cell n).streamsQuiet = true ∧ (s.cellAt n w).memBusy = false ∧ (s.cell n).mem.busyNs + 1000 * (s.cell n).get K.SelfRefreshIdle ≤ w.ns) ∧
    (∃ (s : State) (n : CellNo) (_ : When) (p : Party), s.live n ∧ (s.cell n).get K.MemState = 3 ∧ (s.cell n).requestsOf p ≠ []) ∧
    (∃ (s : State) (n : CellNo) (_ : When) (p : Port), s.writable n p ∧ (s.cell n).get K.MemState = 3) ∧
    (∃ (s : State) (n : CellNo) (_ : When) (p : Port), s.writable n p ∧ (s.cell n).get K.MemState ≠ 3) ∧
    (∃ (s : State) (n : CellNo) (_ : When) (rs : Fin 4 → WakeReport), s.live n ∧ (s.cell n).get K.MemState = 4 ∧ (s.cell n).anyFailed = false ∧ s.glob.get (G.WipeState + n.val) ≠ 2 ∧ ((∀ ch, (rs ch).eyes.all (· ≠ 0) = true ∧ (wakeNear (rs ch) = true ∨ 16 ≤ (rs ch).eye)))) ∧
    (∃ (s : State) (n : CellNo) (_ : When) (ch : Fin 4) (_ : Bool), s.live n ∧ (s.cell n).get K.MemState = 2 ∧ (s.cell n).channelFailed ch = false) :=
    ⟨⟨(on0 (fun c => let c := c.run.puts [(K.MemState, 2), (K.SelfRefreshEnable, 1), (K.SelfRefreshIdle, 0)]; (c : Cell))), 0, (⟨5000000, 9⟩), by decide +kernel⟩,
    ⟨(on0 (fun c => let c := c.run.puts [(K.MemState, 3)]; ({ c with mem := { c.mem with requests := c.mem.requests.set (partyIx .host) [(⟨8, 2, none, 5⟩ : OpenReq)] } } : Cell))), 0, (t0 9), .host, by decide +kernel⟩,
    ⟨(on0 (fun c => let c := c.run.puts [(K.MemState, 3)]; (c : Cell))), 0, (t0 9), .eth, by decide +kernel⟩,
    ⟨(on0 (fun c => let c := c.run.puts [(K.MemState, 2)]; (c : Cell))), 0, (t0 9), .pcie, by decide +kernel⟩,
    ⟨(on0 (fun c => let c := c.run.puts [(K.MemState, 4), (chKey K.DeviceTemp 1, 50)]; (c : Cell))), 0, (t0 9), ((fun ch => if ch = 1 then ⟨[9], [1], 16, zeros 8, zeros 8⟩ else ⟨[8, -8], [16], 0, [], []⟩)), by decide +kernel⟩,
    ⟨(on0 (fun c => let c := c.run.puts [(K.MemState, 2)]; (c : Cell))), 0, (t0 9), 2, true, by decide +kernel⟩⟩

def s_MemoryMaintenanceCompletes_0 : State :=
  on0 (fun c => let c := c.run.puts [(K.HaywardHolder, 255), (K.ScrubPending, 1)]; ({ c with exe := { c.exe with running := true, active := some { img0 with windows := [⟨0, 600, 1, 0, 31⟩] } } } : Cell))
theorem wit_MemoryMaintenanceCompletes :
    (∃ (s : State) (n : CellNo) (w : When) (a : Nat) (i : Nat) (left : Nat), s.runs n ∧ (s.cell n).exe.running = true ∧ (s.cell n).get K.HaywardHolder = 255 ∧ (s.cell n).hay.freeFrom ≤ w.cc ∧ a ≤ 4 ∧ (s.cellAt n w).requestsToken a = true ∧ ((∀ b, b < a → (s.cellAt n w).requestsToken b = false)) ∧ (s.cellAt n w).windowFor a = some (i, left)) ∧
    (∃ (s : State) (n : CellNo) (w : When), s.live n ∧ (s.cell n).get K.HaywardHolder ≠ 255 ∧ (s.cell n).hay.grantEnd ≤ w.cc) ∧
    (∃ (s : State) (n : CellNo) (w : When), s.live n ∧ (s.cell n).get K.HaywardHolder = 4 ∧ [0, 1, 2, 3].any (s.cellAt n w).requestsToken = true) ∧
    (∃ (s : State) (n : CellNo) (w : When) (a : SlotAt) (m : Nat), s.slotIs n w a m 0 ∧ (∀ q, (s.cell n).requestsOf q = []) ∧ ((s.cell n).get K.HaywardHolder = 4 ∧ (s.cell n).patRunning = false ∧ (s.cell n).get K.ScrubPointer < (s.cell n).capacity ∧ channelOf ((s.cell n).get K.ScrubPointer) = a.ch ∧ (s.cell n).channelFailed a.ch = false ∧ (queueOf ((s.cell n).banksOf a.ch) (bankOf ((s.cell n).get K.ScrubPointer))).length + 1 ≤ 8)) ∧
    (∃ (s : State) (n : CellNo) (_ : When) (rs : Fin 4 → RetrainReport), s.live n ∧ (s.cell n).get K.HaywardHolder = 0 ∧ (∀ ch, (rs ch).eyes.all (· ≠ 0) = true)) ∧
    (∃ (s : State) (n : CellNo) (_ : When) (p : Port), s.writable n p) ∧
    (∃ (s : State) (n : CellNo) (w : When), s.live n ∧ (s.cell n).get K.RetrainInterval ≠ 0 ∧ (s.cell n).capacity ≠ 0 ∧ (s.cell n).get K.RetrainPending = 0 ∧ (s.cell n).mem.retrainNs + (s.cell n).get K.RetrainInterval * 1000000 ≤ w.ns) :=
    ⟨⟨s_MemoryMaintenanceCompletes_0, 0, (t0 0), 4, 0, ((((s_MemoryMaintenanceCompletes_0.cellAt (0 : CellNo) (t0 0)).windowFor 4).getD (0, 0)).2), by decide +kernel⟩,
    ⟨(on0 (fun c => let c := c.run.puts [(K.HaywardHolder, 3), (K.TdcPending, 1), (K.TdcHitsCollected, 100)]; ({ c with hay := { c.hay with grantEnd := 8191 } } : Cell))), 0, (t0 8191), by decide +kernel⟩,
    ⟨(on0 (fun c => let c := c.run.puts [(K.HaywardHolder, 4), (K.ScrubPending, 1), (K.RetrainPending, 1)]; ({ c with exe := { c.exe with running := true, active := some { img0 with windows := [⟨0, 600, 1, 0, 31⟩] } } } : Cell))), 0, (t0 0), by decide +kernel⟩,
    ⟨(on0 (fun c => let c := c.run.puts [(K.MemState, 2), (K.CapacityStooks, 1000000), (K.HaywardHolder, 4)]; (let c : Cell := c; { c with exe := { c.exe with running := true, active := some { img0 with slots := List.replicate 144 0 } } } : Cell))), 0, (t0 0), (⟨0, 1⟩), 1, by unfold State.slotIs; decide +kernel, by intro q; cases q <;> decide +kernel, by decide +kernel⟩,
    ⟨(on0 (fun c => let c := c.run.puts [(K.HaywardHolder, 0), (K.RetrainPending, 1)]; (c : Cell))), 0, (t0 5), ((fun ch => ⟨zeros 3, zeros 4, [23 + ch.val]⟩)), by decide +kernel⟩,
    ⟨(on0 (fun c => c.run)), 0, (t0 9), .eth, by decide +kernel⟩,
    ⟨(on0 (fun c => let c := c.run.puts [(K.RetrainInterval, 2), (K.CapacityStooks, 1000)]; (c : Cell))), 0, (⟨2000000, 9⟩), by decide +kernel⟩⟩

def s_AccumulationCompletes_1 : State :=
  on0 (fun c => let c := c.run; ({ c with acc := { c.acc with intakeFrom := some 0 } } : Cell))
def s_AccumulationCompletes_2 : State :=
  on0 (fun c => let c := c.run; ({ c with acc := { c.acc with intakeFrom := some 0 } } : Cell))
theorem wit_AccumulationCompletes :
    (∃ (s : State) (n : CellNo) (w : When) (q : Nat) (first : Nat) (start : Nat) (samps : List Samp) (v : Int), s.live n ∧ (s.cell n).clk.onFcc = true ∧ (s.cell n).get K.FgCalState ≠ 1 ∧ (s.cell n).get K.AccSource = 0 ∧ (s.cell n).acc.intakeFrom = some start ∧ start ≤ q - q % 512 ∧ q / 128 + 19 = w.cc ∧ (s.cellAt n w).keepsSample q = true ∧ first ≤ q ∧ ((s.cellAt n w).corrected first samps)[q - first]? = some v ∧ ((s.cell n).acc.draw (0, q / 512) 4).takes q 4 128 = true) ∧
    (∃ (s : State) (n : CellNo) (w : When) (q : Nat) (first : Nat) (start : Nat) (samps : List Samp) (v : AccIn), s.live n ∧ (s.cell n).get K.FgCalState ≠ 1 ∧ (s.cell n).acc.intakeFrom = some start ∧ (s.cellAt n w).accInput q first samps = some v ∧ (start : Int) ≤ v.groupRef ∧ ((s.cell n).acc.draw (v.n0, q / v.grid.block / v.grid.stride) v.grid.stride).takes q v.grid.stride v.grid.block = true) ∧
    (∃ (s : State) (n : CellNo) (w : When) (q : Nat) (first : Nat) (start : Nat) (samps : List Samp) (v : AccIn), s.live n ∧ (s.cell n).get K.FgCalState ≠ 1 ∧ (s.cell n).acc.intakeFrom = some start ∧ (s.cellAt n w).accInput q first samps = some v ∧ (start : Int) ≤ v.groupRef ∧ ((s.cell n).acc.draw (v.n0, q / v.grid.block / v.grid.stride) v.grid.stride).takes q v.grid.stride v.grid.block = false) ∧
    (∃ (s : State) (n : CellNo) (w : When) (_ : List (Nat × Nat)) (v : AccVal) (vs : List AccVal), s.live n ∧ (s.cell n).clk.onFcc = true ∧ (s.cell n).acc.delay = v :: vs ∧ v.cc + 16384 ≤ w.cc ∧ v.uns = true ∧ (s.cell n).acc.records = []) ∧
    (∃ (s : State) (n : CellNo) (w : When) (flips : List (Nat × Nat)) (v : AccVal) (vs : List AccVal) (r : AccRec) (i : Nat) (x : Nat) (p : Nat) (y : Int) (ys : List Int), s.applies n w v vs ∧ s.inRecord n v r i ∧ s.accReads n flips x p ∧ (v.vals = y :: ys ∧ (s.cell n).get K.AccFunctions = 1 ∧ x = (s.cell n).get K.AvgBase + 2 * i)) ∧
    (∃ (s : State) (n : CellNo) (w : When) (flips : List (Nat × Nat)) (v : AccVal) (vs : List AccVal) (r : AccRec) (i : Nat) (x : Nat) (p : Nat), s.applies n w v vs ∧ s.inRecord n v r i ∧ s.accReads n flips x p ∧ ((s.cell n).get K.AccFunctions = 2 ∧ x = (s.cell n).get K.EnvBase + i)) ∧
    (∃ (s : State) (n : CellNo) (w : When) (flips : List (Nat × Nat)) (v : AccVal) (vs : List AccVal) (r : AccRec) (i : Nat) (col : Nat) (row : Nat) (x : Nat) (p : Nat) (y : Int), s.applies n w v vs ∧ s.inRecord n v r i ∧ s.accReads n flips x p ∧ (v.vals = [y] ∧ (s.cell n).get K.AccFunctions = 4 ∧ (s.cell n).mapFolds 0 = false ∧ (s.cell n).trigColumn 0 r v.ref = (col : Int) ∧ col < (s.cell n).get K.MapColumns ∧ (y - (s.cell n).geti 16 K.MapAmpBottom) * (s.cell n).get K.MapRows / ((s.cell n).get K.MapAmpSpan : Int) = (row : Int) ∧ row < (s.cell n).get K.MapRows ∧ x = (s.cell n).get K.Map0Base + row * (s.cell n).get K.MapColumns + col ∧ wordOf p (x % 4) + 1 < 2 ^ 32)) ∧
    (∃ (s : State) (n : CellNo) (w : When) (flips : List (Nat × Nat)) (v : AccVal) (vs : List AccVal) (col : Nat) (row : Nat) (x : Nat) (p : Nat) (y : Int), s.applies n w v vs ∧ s.accReads n flips x p ∧ ((s.cell n).acc.records = [] ∧ v.vals = [y] ∧ v.unlocked = false ∧ (s.cell n).get K.AccFunctions = 4 ∧ (s.cell n).mapFolds 0 = true ∧ (s.cell n).foldColumn 0 v = (col : Int) ∧ col < (s.cell n).get K.MapColumns ∧ (y - (s.cell n).geti 16 K.MapAmpBottom) * (s.cell n).get K.MapRows / ((s.cell n).get K.MapAmpSpan : Int) = (row : Int) ∧ row < (s.cell n).get K.MapRows ∧ x = (s.cell n).get K.Map0Base + row * (s.cell n).get K.MapColumns + col ∧ wordOf p (x % 4) + 1 < 2 ^ 32)) ∧
    (∃ (s : State) (n : CellNo) (w : When) (_ : List (Nat × Nat)) (v : AccVal) (vs : List AccVal), s.applies n w v vs ∧ ((s.cell n).acc.records = [] ∧ (s.cell n).get K.AccFunctions = 0)) ∧
    (∃ (s : State) (n : CellNo) (_ : When) (p : Port), s.writable n p ∧ (s.cell n).get K.AccState = 0 ∧ wiping s.glob n = false ∧ s.glob.get G.LifeCycleState ≠ 4 ∧ (s.cell n).accCheck = none ∧ (s.cell n).accLayout.used ≠ 0) ∧
    (∃ (s : State) (n : CellNo) (_ : When) (p : Port) (code : Nat) (m : Nat), s.writable n p ∧ (s.cell n).get K.AccState = 0 ∧ wiping s.glob n = false ∧ s.glob.get G.LifeCycleState ≠ 4 ∧ (s.cell n).accCheck = some (code, m)) ∧
    (∃ (s : State) (n : CellNo) (_ : When) (p : Port), s.writable n p ∧ (s.cell n).get K.AccState = 1 ∧ (s.cell n).clk.onFcc = true ∧ (s.cell n).get K.AccFreezeMode = 0) ∧
    (∃ (s : State) (n : CellNo) (_ : When) (p : Port), s.writable n p ∧ (s.cell n).get K.AccState = 3 ∧ (s.cell n).clk.onFcc = true) ∧
    (∃ (s : State) (n : CellNo) (_ : When) (p : Port), s.writable n p ∧ (s.cell n).get K.AccState = 0 ∧ wiping s.glob n = false) ∧
    (∃ (s : State) (n : CellNo) (w : When) (x : Nat) (cause : Nat), s.live n ∧ (s.cell n).acc.cut = some (x, cause) ∧ (s.cell n).get K.AccState = 2 ∧ (s.cell n).clk.onFcc = true ∧ x ≤ 128 * (w.cc - 16384) ∧ (s.cell n).acc.delay = [] ∧ (s.cell n).acc.records = []) ∧
    (∃ (s : State) (n : CellNo) (w : When), s.live n ∧ (s.cell n).get K.AccState = 5 ∧ (s.cell n).acc.clearEnd ≤ w.cc) ∧
    (∃ (s : State) (n : CellNo) (w : When) (words : Nat), s.live n ∧ (s.cell n).get K.AccState = 5 ∧ (s.cell n).acc.clearEnd ≤ w.cc ∧ words = (if (s.cell n).acc.starting then (s.cell n).get K.WordsUsed else 3728268)) :=
    ⟨⟨(on0 (fun c => let c := c.run; ({ c with acc := { c.acc with intakeFrom := some 0 } } : Cell))), 0, (t0 19), 4, 2, 0, ([.corrected 7, .corrected 8, .corrected (-5)]), (-5), by decide +kernel⟩,
    ⟨s_AccumulationCompletes_1, 0, (t0 19), 4, 4, 0, ([.corrected 5]), (((s_AccumulationCompletes_1.cellAt (0 : CellNo) (t0 19)).accInput 4 4 ([.corrected 5])).getD ⟨0, [], false, false, 0, 0, 0, ⟨1, 1, 1⟩⟩), by decide +kernel⟩,
    ⟨s_AccumulationCompletes_2, 0, (t0 19), 2, 2, 0, ([.corrected 5]), (((s_AccumulationCompletes_2.cellAt (0 : CellNo) (t0 19)).accInput 2 2 ([.corrected 5])).getD ⟨0, [], false, false, 0, 0, 0, ⟨1, 1, 1⟩⟩), by decide +kernel⟩,
    ⟨(on0 (fun c => let c := c.run; ({ c with acc := { c.acc with delay := [(⟨9, 1300, [5], true, false, false, 1300, 0, false, 1⟩ : AccVal)] } } : Cell))), 0, (t0 16393), [], ((⟨9, 1300, [5], true, false, false, 1300, 0, false, 1⟩ : AccVal)), [], by decide +kernel⟩,
    ⟨(on0 (fun c => let c := c.run.puts [(K.AccState, 1), (K.AccFunctions, 1), (K.RecordPoints, 100), (K.AvgBase, 8)]; ({ c with acc := { c.acc with delay := [(⟨9, 1305, [5], false, false, false, 1300, 0, false, 1⟩ : AccVal)], memory := putStook 4 (encodeStook 316912649927930141858208940032) [], records := [(⟨1300, 128, 1280, 1400, false⟩ : AccRec)], runFrom := 0 } } : Cell))), 0, (t0 16393), [], ((⟨9, 1305, [5], false, false, false, 1300, 0, false, 1⟩ : AccVal)), [], ((⟨1300, 128, 1280, 1400, false⟩ : AccRec)), 5, 18, 316912649927930141858208940032, 5, [], by unfold State.applies; decide +kernel, by unfold State.inRecord; decide +kernel, accReads_of (by decide +kernel), by decide +kernel⟩,
    ⟨(on0 (fun c => let c := c.run.puts [(K.AccState, 1), (K.AccFunctions, 2), (K.RecordPoints, 100), (K.EnvBase, 8)]; ({ c with acc := { c.acc with delay := [(⟨9, 1305, [5, -9], false, false, false, 1300, 0, false, 1⟩ : AccVal)], memory := putStook 3 (encodeStook 9223512770048163840) [], records := [(⟨1300, 128, 1280, 1400, false⟩ : AccRec)], runFrom := 0 } } : Cell))), 0, (t0 16393), [], ((⟨9, 1305, [5, -9], false, false, false, 1300, 0, false, 1⟩ : AccVal)), [], ((⟨1300, 128, 1280, 1400, false⟩ : AccRec)), 5, 13, 9223512770048163840, by unfold State.applies; decide +kernel, by unfold State.inRecord; decide +kernel, accReads_of (by decide +kernel), by decide +kernel⟩,
    ⟨(on0 (fun c => let c := c.run.puts [(K.AccState, 1), (K.AccFunctions, 4), (K.RecordPoints, 100), (K.Map0Base, 8), (K.MapTimeStart, 0), (K.MapTimeSpan, 262144), (K.MapColumns, 1024), (K.MapRows, 512)]; ({ c with acc := { c.acc with delay := [(⟨9, 1305, [5], false, false, false, 1300, 0, false, 1⟩ : AccVal)], memory := putStook 65539 (encodeStook 554597137728977571700839284743) [], records := [(⟨1300, 128, 1280, 1400, false⟩ : AccRec)], runFrom := 0 } } : Cell))), 0, (t0 16393), [], ((⟨9, 1305, [5], false, false, false, 1300, 0, false, 1⟩ : AccVal)), [], ((⟨1300, 128, 1280, 1400, false⟩ : AccRec)), 5, 4, 256, 262156, 554597137728977571700839284743, 5, by unfold State.applies; decide +kernel, by unfold State.inRecord; decide +kernel, accReads_of (by decide +kernel), by decide +kernel⟩,
    ⟨(on0 (fun c => let c := c.run.puts [(K.AccState, 1), (K.AccFunctions, 4), (K.RecordPoints, 100), (K.Map0Base, 8), (K.MapMode, 1), (K.MapFoldUi, 2), (K.MapColumns, 1024), (K.MapRows, 512)]; ({ c with acc := { c.acc with delay := [(⟨9, 1305, [5], false, false, false, 1300, 4294967296, false, 1⟩ : AccVal)], memory := putStook 65666 (encodeStook 554597137728977571700839284743) [], records := [], runFrom := 0 } } : Cell))), 0, (t0 16393), [], ((⟨9, 1305, [5], false, false, false, 1300, 4294967296, false, 1⟩ : AccVal)), [], 512, 256, 262664, 554597137728977571700839284743, 5, by unfold State.applies; decide +kernel, accReads_of (by decide +kernel), by decide +kernel⟩,
    ⟨(on0 (fun c => let c := c.run.puts [(K.AccState, 1), (K.ValuesTaken, 7)]; ({ c with acc := { c.acc with delay := [(⟨9, 1300, [5], false, false, false, 1300, 0, false, 1⟩ : AccVal)] } } : Cell))), 0, (t0 17000), [], ((⟨9, 1300, [5], false, false, false, 1300, 0, false, 1⟩ : AccVal)), [], by unfold State.applies; decide +kernel, by decide +kernel⟩,
    ⟨(on0 (fun c => let c := c.run.puts [(K.AccFunctions, 1), (K.RecordPoints, 100)]; (c : Cell))), 0, (t0 9), .eth, by decide +kernel⟩,
    ⟨(on0 (fun c => let c := c.run.puts [(K.AccFunctions, 5), (K.RecordPoints, 100), (mapKey K.MapColumns 0, 1)]; (c : Cell))), 0, (t0 9), .eth, 5, 0, by decide +kernel⟩,
    ⟨(on0 (fun c => let c := c.run.puts [(K.AccState, 1)]; (c : Cell))), 0, (t0 9), .eth, by decide +kernel⟩,
    ⟨(on0 (fun c => let c := c.run.puts [(K.AccState, 3)]; (c : Cell))), 0, (t0 9), .eth, by decide +kernel⟩,
    ⟨(on0 (fun c => c.run)), 0, (t0 9), .eth, by decide +kernel⟩,
    ⟨(on0 (fun c => let c := c.run.puts [(K.AccState, 2)]; ({ c with acc := { c.acc with cut := some (1280, 1) } } : Cell))), 0, (t0 17000), 1280, 1, by decide +kernel⟩,
    ⟨(on0 (fun c => let c := c.run.puts [(K.AccState, 5)]; ({ c with acc := { c.acc with clearEnd := 900, starting := true } } : Cell))), 0, (t0 900), by decide +kernel⟩,
    ⟨(on0 (fun c => let c := c.run.puts [(K.AccState, 5)]; ({ c with acc := { c.acc with clearEnd := 900, memory := putStook 0 (encodeStook 5) (putStook 2 (encodeStook 9) (putStook 932067 (encodeStook 77) [])), laid := ⟨8, 6, none, none⟩ } } : Cell))), 0, (t0 901), 3728268, by decide +kernel⟩⟩

theorem wit_ChannelCommandsComplete :
    (∃ (s : State) (n : CellNo) (w : When) (k : Fin 8), s.live n ∧ (s.cell n).chanState k = 1 ∧ (s.cell n).get (chanKey K.RequestLine k) < 64 ∧ s.pulsed n ((s.cell n).get (chanKey K.RequestLine k)) (w.cc - 1) ∧ 1 ≤ w.cc ∧ ((s.cell n).chan k).reqCc ≠ some w.cc ∧ ((s.cell n).chan k).seen.length < 65535) ∧
    (∃ (s : State) (n : CellNo) (_ : When) (k : Fin 8) (u : Nat) (us : List Nat), ((∀ j v vs, (s.cell n).chanState j = 1 → ((s.cell n).chan j).seen = v :: vs → u < v ∨ (u = v ∧ k ≤ j))) ∧ (s.live n ∧ (s.cell n).get K.MoverOwner = 255 ∧ (s.cell n).chanState k = 1 ∧ ((s.cell n).chan k).seen = u :: us)) ∧
    (∃ (s : State) (n : CellNo) (_ : When) (p : Port) (k : Fin 8), s.writable n p ∧ (s.cell n).chanState k = 0) ∧
    (∃ (s : State) (n : CellNo) (_ : When) (p : Port) (k : Fin 8), s.writable n p ∧ (s.cell n).chanState k = 3) ∧
    (∃ (s : State) (n : CellNo) (_ : When) (p : Port) (k : Fin 8), s.writable n p ∧ (s.cell n).chanState k ≠ 3) ∧
    (∃ (s : State) (n : CellNo) (_ : When) (p : Port) (k : Fin 8), s.writable n p ∧ (s.cell n).chanState k = 2 ∧ ((s.cell n).chan k).bursts = [] ∧ ((s.cell n).chan k).dying = none) ∧
    (∃ (s : State) (n : CellNo) (_ : When) (p : Port) (k : Fin 8) (d : Descriptor) (b : Burst), s.writable n p ∧ (s.cell n).chanState k = 3 ∧ ((s.cell n).chan k).desc = some d ∧ ((s.cell n).chan k).bursts = [b] ∧ ((s.cell n).chan k).dying = none ∧ b.written = true ∧ b.want = []) ∧
    (∃ (s : State) (n : CellNo) (_ : When) (p : Port) (k : Fin 8) (d : Descriptor) (b : Burst), s.writable n p ∧ (s.cell n).chanState k = 3 ∧ ((s.cell n).chan k).desc = some d ∧ d.srcSpace = 0 ∧ ((s.cell n).chan k).bursts = [b] ∧ ((s.cell n).chan k).dying = none ∧ b.written = false ∧ 0 < ((s.cell n).chan k).asked ∧ b.want ≠ []) ∧
    (∃ (s : State) (n : CellNo) (_ : When) (p : Port) (k : Fin 8), s.writable n p ∧ (s.cell n).chanState k = 1) :=
    ⟨⟨(on0 (fun c => let c := c.run.puts [(chanKey K.DmaChannelState 2, 1), (chanKey K.RequestLine 2, 5)]; ({ c with fab := { c.fab with pulses := [(8, 5)] } } : Cell))), 0, (t0 9), 2, by decide +kernel⟩,
    ⟨(on0 (fun c => let c := c.run.puts [(chanKey K.DmaChannelState 2, 1), (K.MoverOwner, 255)]; ({ c with dma := { c.dma with chans := c.dma.chans.set 2 { noChan with seen := [44] }  } } : Cell))), 0, (t0 9), 2, 44, [], due_first (by decide +kernel), by decide +kernel⟩,
    ⟨(on0 (fun c => let c := c.run.puts [(chanKey K.DmaChannelState 2, 0)]; ({ c with dma := { c.dma with chans := c.dma.chans.set 2 { noChan with started := 0 }  } } : Cell))), 0, (t0 9), .eth, 2, by decide +kernel⟩,
    ⟨(on0 (fun c => let c := c.run.puts [(chanKey K.DmaChannelState 2, 3)]; ({ c with dma := { c.dma with chans := c.dma.chans.set 2 { noChan with started := 0 }  } } : Cell))), 0, (t0 9), .eth, 2, by decide +kernel⟩,
    ⟨(on0 (fun c => let c := c.run.puts [(chanKey K.DmaChannelState 2, 2), (K.MoverOwner, 2)]; ({ c with dma := { c.dma with chans := c.dma.chans.set 2 { noChan with started := 0 }  } } : Cell))), 0, (t0 9), .eth, 2, by decide +kernel⟩,
    ⟨(on0 (fun c => let c := c.run.puts [(chanKey K.DmaChannelState 2, 2), (K.MoverOwner, 2)]; ({ c with dma := { c.dma with chans := c.dma.chans.set 2 { noChan with started := 0 }  } } : Cell))), 0, (t0 9), .eth, 2, by decide +kernel⟩,
    ⟨(on0 (fun c => let c := c.run.puts [(chanKey K.DmaChannelState 2, 3), (K.MoverOwner, 2)]; ({ c with dma := { c.dma with chans := c.dma.chans.set 2 { noChan with desc := some (⟨0, 64, 128, 0, 0xFFFF, 1, 2, 0, false, 0, 0, false, false, false, 0, 0, false⟩ : Descriptor), bursts := [(⟨0, 64, [], [], true, 3, 64⟩ : Burst)], started := 64 } } } : Cell))), 0, (t0 9), .eth, 2, ((⟨0, 64, 128, 0, 0xFFFF, 1, 2, 0, false, 0, 0, false, false, false, 0, 0, false⟩ : Descriptor)), ((⟨0, 64, [], [], true, 3, 64⟩ : Burst)), by decide +kernel⟩,
    ⟨(on0 (fun c => let c := c.run.puts [(chanKey K.DmaChannelState 2, 3), (K.MoverOwner, 2)]; ({ c with dma := { c.dma with chans := c.dma.chans.set 2 { noChan with desc := some (⟨0, 64, 128, 0, 0xFFFF, 0, 2, 0, false, 0, 0, false, false, false, 0, 0, false⟩ : Descriptor), bursts := [(⟨0, 32, [(⟨0, 16, 0, 16⟩ : Want), (⟨16, 16, 0, 16⟩ : Want)], [], false, 0, 0⟩ : Burst)], started := 32, asked := 1 } } } : Cell))), 0, (t0 9), .eth, 2, ((⟨0, 64, 128, 0, 0xFFFF, 0, 2, 0, false, 0, 0, false, false, false, 0, 0, false⟩ : Descriptor)), ((⟨0, 32, [(⟨0, 16, 0, 16⟩ : Want), (⟨16, 16, 0, 16⟩ : Want)], [], false, 0, 0⟩ : Burst)), by decide +kernel⟩,
    ⟨(on0 (fun c => let c := c.run.puts [(chanKey K.DmaChannelState 2, 1)]; ({ c with dma := { c.dma with chans := c.dma.chans.set 2 { noChan with started := 0 }  } } : Cell))), 0, (t0 9), .eth, 2, by decide +kernel⟩⟩

theorem wit_DescriptorsAndBurstsComplete :
    (∃ (s : State) (n : CellNo) (_ : When) (k : Fin 8) (d0 : Decoded) (d1 : Decoded) (d : Descriptor), s.live n ∧ (s.cell n).owns k = true ∧ (s.cell n).chanState k = 2 ∧ ((s.cell n).chan k).desc = none ∧ ((s.cell n).chan k).fetching = false ∧ ((s.cell n).chan k).stopping = false ∧ ((s.cell n).chan k).loop = false ∧ s.glob.get (G.WipeState + n.val) ≠ 1 ∧ (s.cell n).descInHost k = false ∧ decodeStook (stookAt (s.cell n).dma.sram (2 * (s.cell n).descIndex k)) = d0 ∧ decodeStook (stookAt (s.cell n).dma.sram (2 * (s.cell n).descIndex k + 1)) = d1 ∧ d0.bad = false ∧ d1.bad = false ∧ parseDescriptor (payloadBytes d0.word ++ payloadBytes d1.word) ((s.cell n).flag (chanKey K.CompatMode k)) = d ∧ d.misaligned = false ∧ d.invalid (payloadBytes d0.word ++ payloadBytes d1.word) = false ∧ d.fixed = false) ∧
    (∃ (s : State) (n : CellNo) (_ : When) (k : Fin 8) (_ : Nat) (_ : Nat), s.live n ∧ (s.cell n).owns k = true ∧ (s.cell n).chanState k = 2 ∧ ((s.cell n).chan k).desc = none ∧ ((s.cell n).chan k).fetching = false ∧ ((s.cell n).chan k).stopping = false ∧ ((s.cell n).chan k).loop = false ∧ s.glob.get (G.WipeState + n.val) ≠ 1 ∧ (s.cell n).descInHost k = true ∧ (s.cell n).hostOutstanding < hostReadLimit) ∧
    (∃ (s : State) (n : CellNo) (_ : When) (k : Fin 8) (_ : Nat) (_ : Nat), s.live n ∧ (s.cell n).owns k = true ∧ (s.cell n).chanState k = 2 ∧ ((s.cell n).chan k).desc = none ∧ ((s.cell n).chan k).fetching = false ∧ ((s.cell n).chan k).stopping = false ∧ ((s.cell n).chan k).loop = true ∧ s.glob.get (G.WipeState + n.val) ≠ 1) ∧
    (∃ (s : State) (n : CellNo) (_ : When) (k : Fin 8) (_ : List (Nat × Nat)) (d : Descriptor), s.live n ∧ (s.cell n).owns k = true ∧ (s.cell n).chanState k = 2 ∧ ((s.cell n).chan k).desc = some d ∧ ((s.cell n).chan k).stopping = false ∧ ((s.cell n).chan k).seen ≠ [] ∧ ((s.cell n).chan k).started < d.total ∧ ((s.cell n).chan k).bursts = [] ∧ s.glob.get (G.WipeState + n.val) ≠ 1 ∧ ((s.cell n).chan k).dying = none ∧ (s.cell n).sourceIssued k d = true ∧ d.srcSpace = 1 ∧ d.fixed = false ∧ (s.cell n).setupCheck (wiping s.glob n) k d ((s.cell n).chan k).started (min d.burstBytes (d.total - ((s.cell n).chan k).started)) = none) ∧
    (∃ (s : State) (n : CellNo) (_ : When) (k : Fin 8) (_ : List (Nat × Nat)) (d : Descriptor) (cause : Nat) (a : Nat), s.live n ∧ (s.cell n).owns k = true ∧ (s.cell n).chanState k = 2 ∧ ((s.cell n).chan k).desc = some d ∧ ((s.cell n).chan k).stopping = false ∧ ((s.cell n).chan k).seen ≠ [] ∧ ((s.cell n).chan k).started < d.total ∧ ((s.cell n).chan k).bursts = [] ∧ s.glob.get (G.WipeState + n.val) ≠ 1 ∧ ((s.cell n).chan k).dying = none ∧ (s.cell n).sourceIssued k d = true ∧ (s.cell n).setupCheck (wiping s.glob n) k d ((s.cell n).chan k).started (min d.burstBytes (d.total - ((s.cell n).chan k).started)) = some (cause, a)) :=
    ⟨⟨(on0 (fun c => let c := c.run.puts [(chanKey K.DmaChannelState 2, 2), (K.MoverOwner, 2)]; ({ c with dma := { c.dma with chans := c.dma.chans.set 2 { noChan with started := 0 } , sram := putStook 0 (encodeStook 1180591620717411303424) (putStook 1 (encodeStook 41103459420153318230458496) []) } } : Cell))), 0, (t0 9), 2, (decodeStook (encodeStook 1180591620717411303424)), (decodeStook (encodeStook 41103459420153318230458496)), (parseDescriptor (payloadBytes 1180591620717411303424 ++ payloadBytes 41103459420153318230458496) false), by decide +kernel⟩,
    ⟨(on0 (fun c => let c := c.run.puts [(chanKey K.DmaChannelState 2, 2), (K.MoverOwner, 2), (chanKey K.CurrentDescriptor 2, 65536)]; ({ c with dma := { c.dma with chans := c.dma.chans.set 2 { noChan with started := 0 }  } } : Cell))), 0, (t0 9), 2, 0, 0, by decide +kernel⟩,
    ⟨(on0 (fun c => let c := c.run.puts [(chanKey K.DmaChannelState 2, 2), (K.MoverOwner, 2)]; ({ c with dma := { c.dma with chans := c.dma.chans.set 2 { noChan with loop := true }  } } : Cell))), 0, (t0 9), 2, 0, 0, by decide +kernel⟩,
    ⟨(on0 (fun c => let c := c.run.puts [(chanKey K.DmaChannelState 2, 2), (K.MoverOwner, 2), (K.CapacityStooks, 1000), (K.MemState, 2)]; ({ c with dma := { c.dma with chans := c.dma.chans.set 2 { noChan with desc := some (⟨0, 64, 128, 0, 0xFFFF, 1, 2, 0, false, 0, 0, false, false, false, 0, 0, false⟩ : Descriptor), seen := [5] }  } } : Cell))), 0, (t0 9), 2, [], ((⟨0, 64, 128, 0, 0xFFFF, 1, 2, 0, false, 0, 0, false, false, false, 0, 0, false⟩ : Descriptor)), by decide +kernel⟩,
    ⟨(on0 (fun c => let c := c.run.puts [(chanKey K.DmaChannelState 2, 2), (K.MoverOwner, 2)]; ({ c with dma := { c.dma with chans := c.dma.chans.set 2 { noChan with desc := some (⟨0, 64, 128, 0, 0xFFFF, 1, 2, 0, false, 0, 0, false, false, false, 0, 0, false⟩ : Descriptor), seen := [5] }  } } : Cell))), 0, (t0 9), 2, [], ((⟨0, 64, 128, 0, 0xFFFF, 1, 2, 0, false, 0, 0, false, false, false, 0, 0, false⟩ : Descriptor)), 5, 0, by decide +kernel⟩⟩

theorem wit_BurstAndDescriptorEndsComplete :
    (∃ (s : State) (n : CellNo) (_ : When) (k : Fin 8) (d : Descriptor) (b : Burst), s.live n ∧ ((s.cell n).chan k).desc = some d ∧ ((s.cell n).chan k).bursts = [b] ∧ b.written = true ∧ b.left = 0 ∧ ((s.cell n).chan k).stopping = false ∧ ((s.cell n).chan k).dying = none) ∧
    (∃ (s : State) (n : CellNo) (_ : When) (k : Fin 8) (d : Descriptor), s.live n ∧ ((s.cell n).chan k).desc = some d ∧ d.total ≤ ((s.cell n).chan k).started ∧ ((s.cell n).chan k).bursts = [] ∧ ((s.cell n).chan k).stopping = false ∧ ((s.cell n).chan k).dying = none ∧ d.next = 0xFFFF) ∧
    (∃ (s : State) (n : CellNo) (_ : When) (k : Fin 8) (d : Descriptor), s.live n ∧ ((s.cell n).chan k).desc = some d ∧ d.total ≤ ((s.cell n).chan k).started ∧ ((s.cell n).chan k).bursts = [] ∧ ((s.cell n).chan k).stopping = false ∧ ((s.cell n).chan k).dying = none ∧ d.next ≠ 0xFFFF ∧ d.cyclic = false ∧ (s.cell n).get (chanKey K.HopCount k) < (s.cell n).get K.ChainHopLimit) :=
    ⟨⟨(on0 (fun c => let c := c.run.puts [(chanKey K.DmaChannelState 2, 3), (K.MoverOwner, 2)]; ({ c with dma := { c.dma with chans := c.dma.chans.set 2 { noChan with desc := some (⟨0, 64, 128, 0, 0xFFFF, 1, 2, 0, false, 0, 0, false, false, false, 0, 0, false⟩ : Descriptor), bursts := [(⟨0, 64, [], [], true, 0, 64⟩ : Burst)], started := 64 }  } } : Cell))), 0, (t0 9), 2, ((⟨0, 64, 128, 0, 0xFFFF, 1, 2, 0, false, 0, 0, false, false, false, 0, 0, false⟩ : Descriptor)), ((⟨0, 64, [], [], true, 0, 64⟩ : Burst)), by decide +kernel⟩,
    ⟨(on0 (fun c => let c := c.run.puts [(chanKey K.DmaChannelState 2, 2), (K.MoverOwner, 2), (chanKey K.ChainStart 2, 7), (chanKey K.HopCount 2, 3)]; ({ c with dma := { c.dma with chans := c.dma.chans.set 2 { noChan with desc := some (⟨0, 64, 128, 0, 0xFFFF, 1, 2, 0, false, 0, 0, false, false, false, 0, 0, false⟩ : Descriptor), started := 128 }  } } : Cell))), 0, (t0 9), 2, ((⟨0, 64, 128, 0, 0xFFFF, 1, 2, 0, false, 0, 0, false, false, false, 0, 0, false⟩ : Descriptor)), by decide +kernel⟩,
    ⟨(on0 (fun c => let c := c.run.puts [(chanKey K.DmaChannelState 2, 2), (K.MoverOwner, 2), (chanKey K.ChainStart 2, 7), (chanKey K.HopCount 2, 3)]; ({ c with dma := { c.dma with chans := c.dma.chans.set 2 { noChan with desc := some (⟨0, 64, 128, 0, 9, 1, 2, 0, false, 0, 0, false, false, false, 0, 0, false⟩ : Descriptor), started := 128 }  } } : Cell))), 0, (t0 9), 2, ((⟨0, 64, 128, 0, 9, 1, 2, 0, false, 0, 0, false, false, false, 0, 0, false⟩ : Descriptor)), by decide +kernel⟩⟩

def s_HostReadsComplete_2 : State :=
  on0 (fun c => let c := c.run.puts [(chanKey K.DmaChannelState 2, 2), (K.MoverOwner, 2)]; ({ c with dma := { c.dma with chans := c.dma.chans.set 2 { noChan with fetching := true }  } } : Cell))
theorem wit_HostReadsComplete :
    (∃ (s : State) (n : CellNo) (_ : When) (k : Fin 8) (_ : Fin 3) (_ : List Byte) (_ : Bool), s.live n ∧ ((s.cell n).chan k).hostStale ≠ 0) ∧
    (∃ (s : State) (n : CellNo) (_ : When) (k : Fin 8) (status : Fin 3) (_ : List Byte) (_ : Bool), s.live n ∧ ((s.cell n).chan k).hostStale = 0 ∧ ((s.cell n).chan k).fetching = true ∧ ((s.cell n).chan k).desc = none ∧ status ≠ 0) ∧
    (∃ (s : State) (n : CellNo) (_ : When) (k : Fin 8) (data : List Byte) (d : Descriptor), s.live n ∧ ((s.cell n).chan k).hostStale = 0 ∧ ((s.cell n).chan k).fetching = true ∧ parseDescriptor ((data ++ zeros 32).take 32) ((s.cell n).flag (chanKey K.CompatMode k)) = d ∧ d.misaligned = false ∧ d.invalid ((data ++ zeros 32).take 32) = false ∧ d.fixed = false) ∧
    (∃ (s : State) (n : CellNo) (_ : When) (k : Fin 8) (_ : List Byte) (_ : Bool) (d : Descriptor) (b : Burst) (x : Want) (y : Want) (ws : List Want), s.live n ∧ ((s.cell n).chan k).hostStale = 0 ∧ ((s.cell n).chan k).fetching = false ∧ ((s.cell n).chan k).desc = some d ∧ d.srcSpace = 0 ∧ ((s.cell n).chan k).bursts = [b] ∧ ((s.cell n).chan k).dying = none ∧ b.written = false ∧ b.want = x :: y :: ws ∧ ((s.cell n).chan k).asked ≠ 0) ∧
    (∃ (s : State) (n : CellNo) (_ : When) (k : Fin 8) (status : Fin 3) (_ : List Byte) (_ : Bool) (d : Descriptor) (b : Burst) (x : Want) (y : Want) (ws : List Want), s.live n ∧ ((s.cell n).chan k).hostStale = 0 ∧ ((s.cell n).chan k).fetching = false ∧ ((s.cell n).chan k).desc = some d ∧ d.srcSpace = 0 ∧ ((s.cell n).chan k).bursts = [b] ∧ ((s.cell n).chan k).dying = none ∧ b.written = false ∧ b.want = x :: y :: ws ∧ ((s.cell n).chan k).asked = ws.length + 2 ∧ status ≠ 0) ∧
    (∃ (s : State) (n : CellNo) (_ : When) (k : Fin 8), s.live n ∧ s.glob.get G.CompletionTimeoutNs ≠ 0 ∧ ((s.cell n).chan k).hostStale = 0 ∧ ((s.cell n).chan k).fetching = true ∧ ((s.cell n).chan k).desc = none) :=
    ⟨⟨(on0 (fun c => let c := c.run.puts [(chanKey K.DmaChannelState 2, 3)]; ({ c with dma := { c.dma with chans := c.dma.chans.set 2 { noChan with hostStale := 2 }  } } : Cell))), 0, (t0 9), 2, 0, [], false, by decide +kernel⟩,
    ⟨(on0 (fun c => let c := c.run.puts [(chanKey K.DmaChannelState 2, 2), (K.MoverOwner, 2)]; ({ c with dma := { c.dma with chans := c.dma.chans.set 2 { noChan with fetching := true }  } } : Cell))), 0, (t0 9), 2, 1, [], false, by decide +kernel⟩,
    ⟨s_HostReadsComplete_2, 0, (t0 9), 2, ([0, 0, 0, 0, 0, 0, 0, 0, 64, 0, 0, 0, 0, 0, 0, 0, 128, 0, 0, 0, 0, 0, 0, 0, 255, 255, 33, 0, 0, 0, 0, 0]), (parseDescriptor ((([0, 0, 0, 0, 0, 0, 0, 0, 64, 0, 0, 0, 0, 0, 0, 0, 128, 0, 0, 0, 0, 0, 0, 0, 255, 255, 33, 0, 0, 0, 0, 0]) ++ zeros 32).take 32) ((s_HostReadsComplete_2.cell (0 : CellNo)).flag (chanKey K.CompatMode (2 : Fin 8)))), by decide +kernel⟩,
    ⟨(on0 (fun c => let c := c.run.puts [(chanKey K.DmaChannelState 2, 3), (K.MoverOwner, 2)]; ({ c with dma := { c.dma with chans := c.dma.chans.set 2 { noChan with desc := some (⟨0, 64, 128, 0, 0xFFFF, 0, 2, 0, false, 0, 0, false, false, false, 0, 0, false⟩ : Descriptor), bursts := [(⟨0, 32, [(⟨0, 16, 0, 16⟩ : Want), (⟨16, 16, 0, 16⟩ : Want)], [], false, 0, 0⟩ : Burst)], started := 32, asked := 2 } } } : Cell))), 0, (t0 9), 2, ([1, 2, 3]), true, ((⟨0, 64, 128, 0, 0xFFFF, 0, 2, 0, false, 0, 0, false, false, false, 0, 0, false⟩ : Descriptor)), ((⟨0, 32, [(⟨0, 16, 0, 16⟩ : Want), (⟨16, 16, 0, 16⟩ : Want)], [], false, 0, 0⟩ : Burst)), ((⟨0, 16, 0, 16⟩ : Want)), ((⟨16, 16, 0, 16⟩ : Want)), [], by decide +kernel⟩,
    ⟨(on0 (fun c => let c := c.run.puts [(chanKey K.DmaChannelState 2, 3), (K.MoverOwner, 2)]; ({ c with dma := { c.dma with chans := c.dma.chans.set 2 { noChan with desc := some (⟨0, 64, 128, 0, 0xFFFF, 0, 2, 0, false, 0, 0, false, false, false, 0, 0, false⟩ : Descriptor), bursts := [(⟨0, 32, [(⟨0, 16, 0, 16⟩ : Want), (⟨16, 16, 0, 16⟩ : Want)], [], false, 0, 0⟩ : Burst)], started := 32, asked := 2 } } } : Cell))), 0, (t0 9), 2, 1, [], false, ((⟨0, 64, 128, 0, 0xFFFF, 0, 2, 0, false, 0, 0, false, false, false, 0, 0, false⟩ : Descriptor)), ((⟨0, 32, [(⟨0, 16, 0, 16⟩ : Want), (⟨16, 16, 0, 16⟩ : Want)], [], false, 0, 0⟩ : Burst)), ((⟨0, 16, 0, 16⟩ : Want)), ((⟨16, 16, 0, 16⟩ : Want)), [], by decide +kernel⟩,
    ⟨({ on0 (fun c => let c := c.run.puts [(chanKey K.DmaChannelState 2, 2), (K.MoverOwner, 2)]; ({ c with dma := { c.dma with chans := c.dma.chans.set 2 { noChan with fetching := true }  } } : Cell)) with glob := base.glob.puts [(G.CompletionTimeoutNs, 50)] }), 0, (t0 9), 2, by decide +kernel⟩⟩

theorem wit_RasterControlCompletes :
    (∃ (s : State) (n : CellNo) (_ : When) (p : Port), s.writable n p ∧ (s.cell n).get K.RasterState = 0 ∧ (s.cell n).rasterCheck (s.cell n).shadows.1 = 0) ∧
    (∃ (s : State) (n : CellNo) (_ : When) (p : Port), s.writable n p ∧ (s.cell n).get K.RasterState = 0 ∧ (s.cell n).rasterCheck (s.cell n).shadows.1 ≠ 0) ∧
    (∃ (s : State) (n : CellNo) (_ : When) (p : Port), s.writable n p ∧ (s.cell n).get K.RasterState ≠ 0) ∧
    (∃ (s : State) (n : CellNo) (_ : When), s.live n ∧ (s.cell n).get K.RasterState = 1) ∧
    (∃ (s : State) (n : CellNo) (_ : When), s.live n ∧ (s.cell n).get K.RasterState = 4 ∧ (s.cell n).ras.active = false) ∧
    (∃ (s : State) (n : CellNo) (_ : When) (p : Port), s.writable n p ∧ (s.cell n).rasterCheck (s.cell n).shadows.1 = 0) ∧
    (∃ (s : State) (n : CellNo) (_ : When) (p : Port) (data : List Byte), s.writable n p ∧ data.length ≤ 1024) ∧
    (∃ (s : State) (n : CellNo) (_ : When) (rising : Bool), s.live n ∧ (s.cell n).frame K.DsiMode = 2 ∧ (s.cell n).get K.RasterState = 5 ∧ rising = ((s.cell n).frame K.TePolarity == 0) ∧ (s.cell n).ras.teNeed = 1 ∧ sizeClass (s.cell n).frm = 0) ∧
    (∃ (s : State) (n : CellNo) (_ : When) (rising : Bool), s.live n ∧ (s.cell n).frame K.DsiMode = 2 ∧ (s.cell n).get K.RasterState = 2 ∧ rising = ((s.cell n).frame K.TePolarity == 0)) ∧
    (∃ (s : State) (n : CellNo) (w : When) (x : Nat), s.live n ∧ (s.cell n).ras.endNs = some x ∧ (s.cell n).get K.RasterState = 5 ∧ (s.cell n).ras.teNeed = 1 ∧ (s.cell n).frame K.TeTimeout ≠ 0 ∧ x + (s.cell n).frame K.TeTimeout * 1000000 ≤ w.ns) ∧
    (∃ (s : State) (n : CellNo) (_ : When), s.live n ∧ (s.cell n).ras.cursorDue = true) :=
    ⟨⟨(on0 (fun c => let c := c.run.puts [(K.OverlayStride, 960), (K.CapacityStooks, 10000000)]; (c : Cell))), 0, (t0 9), .eth, by decide +kernel⟩,
    ⟨(on0 (fun c => let c := c.run.puts [(K.Hactive, 65)]; (c : Cell))), 0, (t0 9), .eth, by decide +kernel⟩,
    ⟨(on0 (fun c => let c := c.run.puts [(K.RasterState, 2), (K.RasterEnable, 1)]; (c : Cell))), 0, (t0 9), .eth, by decide +kernel⟩,
    ⟨(on0 (fun c => let c := c.run.puts [(K.RasterState, 1)]; (c : Cell))), 0, (t0 9), by decide +kernel⟩,
    ⟨(on0 (fun c => let c := c.run.puts [(K.RasterState, 4), (K.InScanLength, 44), (K.InScanLength + 1, 44), (K.InScanLength + 2, 9)]; (c : Cell))), 0, (t0 9), by decide +kernel⟩,
    ⟨(on0 (fun c => let c := c.run.puts [(K.OverlayStride, 960), (K.CapacityStooks, 10000000), (K.RasterState, 2)]; (c : Cell))), 0, (t0 9), .eth, by decide +kernel⟩,
    ⟨(on0 (fun c => c.run)), 0, (t0 9), .eth, ([0x05, 1, 0, 0x11]), by decide +kernel⟩,
    ⟨(on0 (fun c => let c := c.run.puts [(K.RasterState, 5)]; ({ c with frm := [(K.DsiMode, 2)], ras := { c.ras with teNeed := 1 } } : Cell))), 0, (t0 9), true, by decide +kernel⟩,
    ⟨(on0 (fun c => let c := c.run.puts [(K.RasterState, 2)]; ({ c with frm := [(K.DsiMode, 2)], ras := { c.ras with teNeed := 1 } } : Cell))), 0, (t0 9), true, by decide +kernel⟩,
    ⟨(on0 (fun c => let c := c.run.puts [(K.RasterState, 5)]; ({ c with frm := [(K.DsiMode, 2), (K.TeTimeout, 3)], ras := { c.ras with teNeed := 1, endNs := some 5 } } : Cell))), 0, (⟨3000005, 9⟩), 5, by decide +kernel⟩,
    ⟨(on0 (fun c => let c := c.run.puts [(K.InScanLength + 2, 1024), (K.InScanBase + 2, 77)]; ({ c with ras := { c.ras with cursorDue := true } } : Cell))), 0, (t0 9), by decide +kernel⟩⟩

theorem wit_FramesComplete :
    (∃ (s : State) (n : CellNo) (_ : When), s.live n ∧ (s.cell n).get K.RasterState = 2 ∧ (s.cell n).frame K.DsiMode ≠ 2 ∧ (s.cell n).ras.active = false) ∧
    (∃ (s : State) (n : CellNo) (_ : When) (_ : List (Nat × Nat)), s.live n ∧ (s.cell n).ras.active = true ∧ (s.cell n).ras.line < (s.cell n).frame K.Vactive) ∧
    (∃ (s : State) (n : CellNo) (_ : When), s.live n ∧ (s.cell n).ras.active = true ∧ (s.cell n).frame K.Vactive ≤ (s.cell n).ras.line ∧ (s.cell n).ras.taken = none ∧ ((sizeClass (s.cell n).frm ≠ 0 ∨ (s.cell n).get K.RasterCommitPending = 0))) ∧
    (∃ (s : State) (n : CellNo) (_ : When), s.live n ∧ (s.cell n).ras.active = true ∧ (s.cell n).frame K.Vactive ≤ (s.cell n).ras.line ∧ (s.cell n).get K.RasterState = 2 ∧ (s.cell n).ras.taken = none ∧ sizeClass (s.cell n).frm = 0 ∧ (s.cell n).get K.RasterCommitPending = 1 ∧ timingOf (s.cell n).shadows.1 = timingOf (s.cell n).frm) ∧
    (∃ (s : State) (n : CellNo) (_ : When), s.live n ∧ (s.cell n).ras.active = true ∧ (s.cell n).frame K.Vactive ≤ (s.cell n).ras.line ∧ (s.cell n).get K.RasterState = 4 ∧ (s.cell n).ras.taken = none ∧ sizeClass (s.cell n).frm = 0 ∧ (s.cell n).get K.RasterCommitPending = 1) ∧
    (∃ (s : State) (n : CellNo) (_ : When) (sh : Regs × Doms), s.live n ∧ (s.cell n).ras.active = true ∧ (s.cell n).frame K.Vactive ≤ (s.cell n).ras.line ∧ (s.cell n).get K.RasterState = 2 ∧ (s.cell n).ras.taken = some sh ∧ timingOf sh.1 = timingOf (s.cell n).frm) ∧
    (∃ (s : State) (n : CellNo) (w : When), s.live n ∧ (s.cell n).get K.RasterState = 3 ∧ (s.cell n).ras.teNeed = 0 ∧ (s.cell n).ras.blankEnd ≤ w.ns ∧ (s.cell n).frame K.DsiMode ≠ 2) ∧
    (∃ (s : State) (n : CellNo) (_ : When), s.live n ∧ (s.cell n).ras.active = true ∧ sizeClass (s.cell n).frm = 1 ∧ (s.cell n).ras.line = (s.cell n).frame K.Vactive - (s.cell n).frame K.CommitLeadLines + 1 ∧ (s.cell n).get K.RasterCommitPending = 1 ∧ (s.cell n).ras.taken = none) :=
    ⟨⟨(on0 (fun c => let c := c.run.puts [(K.RasterState, 2)]; (c : Cell))), 0, (t0 9), by decide +kernel⟩,
    ⟨(on0 (fun c => let c := c.run.puts [(K.RasterState, 2), (K.FrameCount, 1)]; ({ c with frm := [(K.Hactive, 64), (K.Vactive, 64)], ras := { c.ras with active := true, line := 3 } } : Cell))), 0, (t0 9), [], by decide +kernel⟩,
    ⟨(on0 (fun c => let c := c.run.puts [(K.RasterState, 2), (K.FrameCount, 1)]; ({ c with frm := [(K.Hactive, 64), (K.Vactive, 64)], ras := { c.ras with active := true, line := 64 } } : Cell))), 0, (t0 9), by decide +kernel⟩,
    ⟨(on0 (fun c => let c := c.run.puts [(K.RasterState, 2), (K.FrameCount, 1), (K.Hactive, 64), (K.Vactive, 64), (K.RasterCommitPending, 1)]; ({ c with frm := [(K.Hactive, 64), (K.Vactive, 64)], ras := { c.ras with active := true, line := 64 } } : Cell))), 0, (t0 9), by decide +kernel⟩,
    ⟨(on0 (fun c => let c := c.run.puts [(K.RasterState, 4), (K.FrameCount, 1), (K.Hactive, 64), (K.Vactive, 64), (K.RasterCommitPending, 1)]; ({ c with frm := [(K.Hactive, 64), (K.Vactive, 64)], ras := { c.ras with active := true, line := 64 } } : Cell))), 0, (t0 9), by decide +kernel⟩,
    ⟨(on0 (fun c => let c := c.run.puts [(K.RasterState, 2), (K.FrameCount, 1), (K.Hactive, 64), (K.Vactive, 64)]; ({ c with frm := [(K.Hactive, 64), (K.Vactive, 64)], ras := { c.ras with active := true, line := 64, taken := some ([(K.Hactive, 64), (K.Vactive, 64), (K.OverlayStride, 960)], []) } } : Cell))), 0, (t0 9), (([(K.Hactive, 64), (K.Vactive, 64), (K.OverlayStride, 960)], [])), by decide +kernel⟩,
    ⟨(on0 (fun c => let c := c.run.puts [(K.RasterState, 3)]; ({ c with ras := { c.ras with blankEnd := 900 } } : Cell))), 0, (⟨900, 9⟩), by decide +kernel⟩,
    ⟨(on0 (fun c => let c := c.run.puts [(K.RasterState, 2), (K.RasterCommitPending, 1)]; ({ c with frm := [(K.Hactive, 3840), (K.Vactive, 2160), (K.CommitLeadLines, 20)], ras := { c.ras with active := true, line := 2141 } } : Cell))), 0, (t0 9), by decide +kernel⟩⟩

theorem wit_LinkStatesComplete :
    (∃ (s : State) (n : CellNo) (_ : When) (p : Port), s.writable n p ∧ (s.cell n).get K.PortState = 0) ∧
    (∃ (s : State) (n : CellNo) (_ : When) (p : Port), s.writable n p ∧ (s.cell n).get K.PortState ≠ 0) ∧
    (∃ (s : State) (n : CellNo) (_ : When), s.live n ∧ (s.cell n).get K.PortState = 1) ∧
    (∃ (s : State) (n : CellNo) (_ : When), s.live n ∧ (s.cell n).get K.PortState = 2 ∧ 64 ≤ (s.cell n).prt.linkRun) ∧
    (∃ (s : State) (n : CellNo) (_ : When), s.live n ∧ (s.cell n).portReady = true ∧ 8 ≤ (s.cell n).prt.linkRun) ∧
    (∃ (s : State) (n : CellNo) (_ : When), s.live n ∧ (s.cell n).get K.PortState = 4) ∧
    (∃ (s : State) (n : CellNo) (w : When), s.live n ∧ 1 ≤ (s.cell n).get K.PortState ∧ (s.cell n).get K.PortState ≤ 3 ∧ (s.cell n).prt.since + (s.cell n).get K.PortTrainTimeout * 1000000 ≤ w.ns) ∧
    (∃ (s : State) (n : CellNo) (w : When), s.live n ∧ (s.cell n).get K.PortState = 5 ∧ (s.cell n).get K.PortEnable = 1 ∧ (s.cell n).get K.PortAutoRetrain = 1 ∧ (s.cell n).prt.since + (s.cell n).get K.PortRetrainDelay * 1000 ≤ w.ns) :=
    ⟨⟨(on0 (fun c => c.run)), 0, (t0 9), .eth, by decide +kernel⟩,
    ⟨(on0 (fun c => let c := c.run.puts [(K.PortState, 4), (K.PortEnable, 1)]; (c : Cell))), 0, (t0 9), .eth, by decide +kernel⟩,
    ⟨(on0 (fun c => let c := c.run.puts [(K.PortState, 1)]; (c : Cell))), 0, (t0 9), by decide +kernel⟩,
    ⟨(on0 (fun c => let c := c.run.puts [(K.PortState, 2)]; ({ c with prt := { c.prt with linkRun := 64 } } : Cell))), 0, (t0 9), by decide +kernel⟩,
    ⟨(on0 (fun c => let c := c.run.puts [(K.PortState, 3)]; ({ c with prt := { c.prt with linkRun := 8, partner := 16 + 5 * 2 ^ 16 } } : Cell))), 0, (t0 9), by decide +kernel⟩,
    ⟨(on0 (fun c => let c := c.run.puts [(K.PortState, 4)]; (c : Cell))), 0, (t0 9), by decide +kernel⟩,
    ⟨(on0 (fun c => let c := c.run.puts [(K.PortState, 1), (K.PortTrainTimeout, 1)]; (c : Cell))), 0, (⟨1000000, 9⟩), by decide +kernel⟩,
    ⟨(on0 (fun c => let c := c.run.puts [(K.PortState, 5), (K.PortEnable, 1), (K.PortAutoRetrain, 1), (K.PortRetrainDelay, 1)]; (c : Cell))), 0, (⟨1000000, 9⟩), by decide +kernel⟩⟩

theorem wit_ReceivedFlitsComplete :
    (∃ (s : State) (n : CellNo) (_ : When) (flit : Nat), s.live n ∧ (s.cell n).get K.PortState = 4 ∧ flitOk flit = true ∧ flitType flit = 0 ∧ bits flit 604 4 ≤ 8 ∧ (s.cell n).prt.credit.length = 16) ∧
    (∃ (s : State) (n : CellNo) (_ : When) (flit : Nat) (k : Fin 8), s.live n ∧ (s.cell n).get K.PortState = 4 ∧ flitOk flit = true ∧ flitType flit = 3 ∧ flitTarget flit = k.val ∧ flitSeq flit = numAt (s.cell n).prt.received (8 + k.val) % 32 ∧ ((s.cell n).chan k).desc = none) ∧
    (∃ (s : State) (n : CellNo) (_ : When) (flit : Nat), s.live n ∧ (s.cell n).get K.PortState = 4 ∧ flitOk flit = true ∧ flitType flit = 4 ∧ flitTarget flit < 4) ∧
    (∃ (s : State) (n : CellNo) (_ : When) (flit : Nat) (at' : Nat), s.pwriteOf n flit at' ∧ (s.live n ∧ (s.cell n).get K.PortState = 4 ∧ (s.cell n).get K.ClockState = 0 ∧ at' < (s.cell n).capacity)) ∧
    (∃ (s : State) (n : CellNo) (_ : When) (flit : Nat) (at' : Nat), s.pwriteOf n flit at' ∧ (s.live n ∧ (s.cell n).get K.PortState = 4 ∧ (s.cell n).get K.ClockState = 0 ∧ (s.cell n).capacity ≤ at')) ∧
    (∃ (s : State) (n : CellNo) (_ : When) (flit : Nat) (at' : Nat), s.pwriteOf n flit at' ∧ (s.live n ∧ (s.cell n).get K.PortState = 4 ∧ (s.cell n).get K.ClockState ≠ 0)) ∧
    (∃ (s : State) (n : CellNo) (_ : When) (flit : Nat), s.live n ∧ (s.cell n).get K.PortState = 4 ∧ flitOk flit = true ∧ flitType flit = 7) ∧
    (∃ (s : State) (n : CellNo) (_ : When) (flit : Nat), s.live n ∧ (s.cell n).get K.PortState = 2 ∧ flitOk flit = true ∧ flitType flit = 7) ∧
    (∃ (s : State) (n : CellNo) (_ : When) (flit : Nat), s.live n ∧ (((s.cell n).get K.PortState = 2 ∨ (s.cell n).get K.PortState = 3)) ∧ flitOk flit = true ∧ flitType flit = 0) ∧
    (∃ (s : State) (n : CellNo) (_ : When) (flit : Nat), s.live n ∧ (s.cell n).get K.PortState = 4 ∧ flitOk flit = true ∧ flitType flit = 5 ∧ pwriteFits flit = false) ∧
    (∃ (s : State) (n : CellNo) (_ : When) (flit : Nat), s.live n ∧ (s.cell n).get K.PortState = 4 ∧ flitOk flit = false ∧ (s.cell n).prt.badRun + 1 < 16) ∧
    (∃ (s : State) (n : CellNo) (_ : When) (flit : Nat), s.live n ∧ (s.cell n).get K.PortState = 4 ∧ flitOk flit = false ∧ 16 ≤ (s.cell n).prt.badRun + 1) ∧
    (∃ (s : State) (n : CellNo) (_ : When) (flit : Nat), s.live n ∧ (s.cell n).get K.PortState = 4 ∧ flitOk flit = true ∧ flitAllowed flit = false) :=
    ⟨⟨(on0 (fun c => let c := c.run.puts [(K.PortState, 4), (K.CapacityStooks, 1000)]; (c : Cell))), 0, (t0 9), (buildFlit (headerOf 0 0 0 0) [] (3 * 4096 + 77)), by decide +kernel⟩,
    ⟨(on0 (fun c => let c := c.run.puts [(K.PortState, 4), (K.CapacityStooks, 1000)]; (c : Cell))), 0, (t0 9), (buildFlit (headerOf 3 2 1 0) [encodeStook 5, encodeStook 6] (0)), 2, by decide +kernel⟩,
    ⟨(on0 (fun c => let c := c.run.puts [(K.PortState, 4), (K.CapacityStooks, 1000)]; (c : Cell))), 0, (t0 9), (buildFlit (headerOf 4 3 0 0) [] (0)), by decide +kernel⟩,
    ⟨(on0 (fun c => let c := c.run.puts [(K.PortState, 4), (K.CapacityStooks, 1000)]; (c : Cell))), 0, (t0 9), (buildFlit (headerOf 5 0 1 0) [encodeStook 44, encodeStook 9] (0)), 44, by unfold State.pwriteOf; decide +kernel, by decide +kernel⟩,
    ⟨(on0 (fun c => let c := c.run.puts [(K.PortState, 4), (K.CapacityStooks, 1000)]; (c : Cell))), 0, (t0 9), (buildFlit (headerOf 5 0 1 0) [encodeStook 1000, encodeStook 9] (0)), 1000, by unfold State.pwriteOf; decide +kernel, by decide +kernel⟩,
    ⟨(on0 (fun c => let c := c.run.puts [(K.PortState, 4), (K.ClockState, 1), (K.CapacityStooks, 1000)]; (c : Cell))), 0, (t0 9), (buildFlit (headerOf 5 0 1 0) [encodeStook 44, encodeStook 9] (0)), 44, by unfold State.pwriteOf; decide +kernel, by decide +kernel⟩,
    ⟨(on0 (fun c => let c := c.run.puts [(K.PortState, 4), (K.CapacityStooks, 1000)]; (c : Cell))), 0, (t0 9), (buildFlit (headerOf 7 0 0 0) [encodeStook 1] (0)), by decide +kernel⟩,
    ⟨(on0 (fun c => let c := c.run.puts [(K.PortState, 2)]; (c : Cell))), 0, (t0 9), (buildFlit (headerOf 7 0 0 0) [encodeStook 1] (0)), by decide +kernel⟩,
    ⟨(on0 (fun c => let c := c.run.puts [(K.PortState, 2)]; ({ c with prt := { c.prt with linkRun := 5 } } : Cell))), 0, (t0 9), (buildFlit (headerOf 0 0 0 0) [] (0)), by decide +kernel⟩,
    ⟨(on0 (fun c => let c := c.run.puts [(K.PortState, 4), (K.CapacityStooks, 1000)]; (c : Cell))), 0, (t0 9), (buildFlit (headerOf 5 0 0 0) [encodeStook 44] (0)), by decide +kernel⟩,
    ⟨(on0 (fun c => let c := c.run.puts [(K.PortState, 4), (K.CapacityStooks, 1000)]; (c : Cell))), 0, (t0 9), 0, by decide +kernel⟩,
    ⟨(on0 (fun c => let c := c.run.puts [(K.PortState, 4), (K.CapacityStooks, 1000)]; ({ c with prt := { c.prt with badRun := 15 } } : Cell))), 0, (t0 9), 0, by decide +kernel⟩,
    ⟨(on0 (fun c => let c := c.run.puts [(K.PortState, 4), (K.CapacityStooks, 1000)]; (c : Cell))), 0, (t0 9), (buildFlit (headerOf 9 0 0 0) [] (0)), by decide +kernel⟩⟩

theorem wit_TransmitAndPlaybackComplete :
    (∃ (s : State) (n : CellNo) (_ : When) (_ : List (Nat × Nat)) (p : Nat) (first : Nat) (lost : Nat) (gs : List (Nat × Nat × Nat)), s.live n ∧ (s.cell n).get K.PortState = 4 ∧ (s.cell n).prt.gaps = (p, first, lost) :: gs) ∧
    (∃ (s : State) (n : CellNo) (w : When) (_ : List (Nat × Nat)), s.noLive n w ∧ s.noPlay n ∧ (s.live n ∧ (s.cell n).get K.PortState = 4 ∧ (s.cell n).prt.gaps = [] ∧ (((s.cell n).prt.outbound = [] ∨ (s.cell n).hasCredit 8 = false)))) ∧
    (∃ (s : State) (n : CellNo) (_ : When) (_ : List (Nat × Nat)), s.live n ∧ 1 ≤ (s.cell n).get K.PortState ∧ (s.cell n).get K.PortState ≤ 3 ∧ (s.cell n).get K.PortTestPattern = 0) ∧
    (∃ (s : State) (n : CellNo) (w : When) (_ : List (Nat × Nat)) (p : Fin 4), s.live n ∧ (s.cell n).get K.PortState = 4 ∧ (s.cellAt n w).liveFirst p = true ∧ (s.cellAt n w).liveDue p = true ∧ (s.cell n).hasCredit p.val = true) ∧
    (∃ (s : State) (n : CellNo) (w : When) (_ : List (Nat × Nat)) (p : Fin 4), s.noLive n w ∧ (s.live n ∧ (s.cell n).get K.PortState = 4 ∧ (s.cell n).prt.gaps = [] ∧ ((∀ q, q < p → ((s.cell n).playDue q && (s.cell n).hasCredit (4 + q.val)) = false)) ∧ (s.cell n).playDue p = true ∧ (s.cell n).hasCredit (4 + p.val) = true)) ∧
    (∃ (s : State) (n : CellNo) (w : When) (_ : List (Nat × Nat)) (tag : Nat) (x : Nat) (xs : List (Nat × Nat)), s.noLive n w ∧ s.noPlay n ∧ (s.live n ∧ (s.cell n).get K.PortState = 4 ∧ (s.cell n).prt.gaps = [] ∧ (s.cell n).prt.outbound = (tag, x) :: xs ∧ (s.cell n).hasCredit 8 = true)) ∧
    (∃ (s : State) (n : CellNo) (w : When) (p : Fin 4) (_ : List (Nat × Nat)) (l : LiveStook) (ls : List LiveStook), s.live n ∧ (s.cell n).get K.PortState = 4 ∧ ((s.cell n).prt.live.get p).staged = l :: ls ∧ l.cc + 16 ≤ w.cc ∧ ls.length < 3 ∧ (s.cellAt n w).liveFirst p = true ∧ (s.cell n).hasCredit p.val = true) ∧
    (∃ (s : State) (n : CellNo) (w : When) (p : Fin 4), s.live n ∧ (s.cell n).get (portKey K.PlaybackState p) = 0 ∧ (s.cell n).get (portKey K.PlaybackStartLine p) < 64 ∧ s.pulsed n ((s.cell n).get (portKey K.PlaybackStartLine p)) (w.cc - 1) ∧ 1 ≤ w.cc) ∧
    (∃ (s : State) (n : CellNo) (_ : When) (p : Port) (k : Fin 4), s.writable n p ∧ (s.cell n).get (portKey K.PlaybackState k) ≠ 0) ∧
    (∃ (s : State) (n : CellNo) (_ : When) (p : Fin 4), s.live n ∧ (s.cell n).get (portKey K.PlaybackState p) ≠ 0 ∧ ((s.cell n).playOf p).discard = 0 ∧ (s.cell n).get (portKey K.PlaybackStooks p) ≤ ((s.cell n).playOf p).asked) :=
    ⟨⟨(on0 (fun c => let c := c.run.puts [(K.PortState, 4), (K.CapacityStooks, 1000)]; ({ c with prt := { c.prt with gaps := [(1, 7, 3)] } } : Cell))), 0, (t0 9), [], 1, 7, 3, [], by decide +kernel⟩,
    ⟨(on0 (fun c => let c := c.run.puts [(K.PortState, 4), (K.CapacityStooks, 1000)]; (c : Cell))), 0, (t0 9), [], by unfold State.noLive; decide +kernel, by unfold State.noPlay; decide +kernel, by decide +kernel⟩,
    ⟨(on0 (fun c => let c := c.run.puts [(K.PortState, 2)]; (c : Cell))), 0, (t0 9), [], by decide +kernel⟩,
    ⟨(on0 (fun c => let c := c.run.puts [(K.PortState, 4), (K.PartnerDepths, 2 ^ 45 - 1)]; ({ c with prt := { c.prt with live := c.prt.live.set 1 { noLive with active := true, staged := [(⟨60000, 0, 8, 0, 3, 0⟩ : LiveStook)] } } } : Cell))), 0, (t0 19), [], 1, by decide +kernel⟩,
    ⟨(on0 (fun c => let c := c.run.puts [(K.PortState, 4), (K.PartnerDepths, 2 ^ 45 - 1)]; ({ c with prt := { c.prt with play := c.prt.play.set 2 ⟨3, 0, 0, [5, 6]⟩ } } : Cell))), 0, (t0 9), [], 2, by unfold State.noLive; decide +kernel, by decide +kernel⟩,
    ⟨(on0 (fun c => let c := c.run.puts [(K.PortState, 4), (K.PartnerDepths, 2 ^ 45 - 1)]; ({ c with prt := { c.prt with outbound := [(9, 44), (9, 45), (2, 6)] } } : Cell))), 0, (t0 9), [], 9, 44, ([(9, 45), (2, 6)]), by unfold State.noLive; decide +kernel, by unfold State.noPlay; decide +kernel, by decide +kernel⟩,
    ⟨(on0 (fun c => let c := c.run.puts [(K.PortState, 4), (K.PartnerDepths, 31)]; ({ c with prt := { c.prt with live := c.prt.live.set 0 { noLive with active := true, staged := [(⟨60000, 0, 8, 0, 3, 0⟩ : LiveStook)] } } } : Cell))), 0, (t0 19), 0, [], ((⟨60000, 0, 8, 0, 3, 0⟩ : LiveStook)), [], by decide +kernel⟩,
    ⟨(on0 (fun c => let c := c.run.puts [(portKey K.PlaybackStartLine 1, 5)]; ({ c with fab := { c.fab with pulses := [(8, 5)] } } : Cell))), 0, (t0 9), 1, by decide +kernel⟩,
    ⟨(on0 (fun c => let c := c.run.puts [(portKey K.PlaybackState 1, 1)]; ({ c with prt := { c.prt with play := c.prt.play.set 1 ⟨3, 2, 0, [5]⟩ } } : Cell))), 0, (t0 9), .eth, 1, by decide +kernel⟩,
    ⟨(on0 (fun c => let c := c.run.puts [(portKey K.PlaybackState 1, 1), (portKey K.PlaybackStooks 1, 3)]; ({ c with prt := { c.prt with play := c.prt.play.set 1 ⟨3, 0, 0, [5]⟩ } } : Cell))), 0, (t0 9), 1, by decide +kernel⟩⟩

theorem wit_PatternControlCompletes :
    (∃ (s : State) (n : CellNo) (_ : When) (p : Port), s.writable n p ∧ (s.cell n).patRunning = false ∧ patRefused s.glob n = false ∧ (s.cell n).patCheck = 0) ∧
    (∃ (s : State) (n : CellNo) (_ : When) (p : Port), s.writable n p ∧ (s.cell n).patRunning = false ∧ patRefused s.glob n = false ∧ (s.cell n).patCheck ≠ 0) ∧
    (∃ (s : State) (n : CellNo) (_ : When) (p : Port), s.writable n p ∧ (((s.cell n).patRunning = true ∨ patRefused s.glob n = true))) ∧
    (∃ (s : State) (n : CellNo) (w : When), s.live n ∧ s.pulsed n ((s.cell n).get K.PatternStartLine) (w.cc - 1) ∧ 1 ≤ w.cc ∧ (s.cell n).patRunning = false ∧ patRefused s.glob n = false ∧ (s.cell n).patCheck = 0) ∧
    (∃ (s : State) (n : CellNo) (_ : When) (p : Port), s.writable n p ∧ (s.cell n).patRunning = true) ∧
    (∃ (s : State) (n : CellNo) (_ : When) (p : Port), s.writable n p ∧ (s.cell n).patRunning = false) :=
    ⟨⟨(on0 (fun c => let c := c.run; (let c : Cell := { c.putDom K.PatternProgram (leBytes 8 34360066050 ++ leBytes 8 0) with pat := { c.pat with out := .waiting (some 0) none  } }; c : Cell))), 0, (t0 9), .eth, by decide +kernel⟩,
    ⟨(on0 (fun c => let c := c.run; (let c : Cell := { c.putDom K.PatternProgram (leBytes 8 327682 ++ leBytes 8 0) with pat := { c.pat with out := .waiting (some 0) none  } }; c : Cell))), 0, (t0 9), .eth, by decide +kernel⟩,
    ⟨(on0 (fun c => let c := c.run.puts [(K.PatternState, 1)]; (let c : Cell := { c.putDom K.PatternProgram (leBytes 8 0) with pat := { c.pat with out := .word 0 0 (some 24)  } }; c : Cell))), 0, (t0 9), .eth, by decide +kernel⟩,
    ⟨(on0 (fun c => let c := c.run.puts [(K.PatternStartLine, 7)]; (let c : Cell := { c.putDom K.PatternProgram (leBytes 8 0) with pat := { c.pat with out := .waiting (some 0) none  } }; { c with fab := { c.fab with pulses := [(8, 7)] } } : Cell))), 0, (t0 9), by decide +kernel⟩,
    ⟨(on0 (fun c => let c := c.run.puts [(K.PatternState, 1)]; (let c : Cell := { c.putDom K.PatternProgram (leBytes 8 0) with pat := { c.pat with out := .word 0 0 (some 24)  } }; c : Cell))), 0, (t0 9), .eth, by decide +kernel⟩,
    ⟨(on0 (fun c => c.run)), 0, (t0 9), .eth, by decide +kernel⟩⟩

theorem wit_InstructionsComplete :
    (∃ (s : State) (n : CellNo) (w : When) (u : Nat) (v : Nat) (first : Bool), s.patAt n w u v first ∧ opOf v = 0) ∧
    (∃ (s : State) (n : CellNo) (w : When) (u : Nat) (v : Nat), s.patAt n w u v false ∧ opOf v = 1) ∧
    (∃ (s : State) (n : CellNo) (w : When) (u : Nat) (v : Nat) (f : Nat) (r : Option Nat), s.patAt n w u v true ∧ (opOf v = 1 ∧ (s.cell n).pat.out = .waiting (some f) r ∧ (s.cell n).stookReady = true ∧ w.cc = max f (r.getD 0))) ∧
    (∃ (s : State) (n : CellNo) (w : When) (u : Nat) (v : Nat) (first : Bool), s.patAt n w u v first ∧ (opOf v = 2 ∧ (s.cellAt n w).onTime first = true)) ∧
    (∃ (s : State) (n : CellNo) (w : When) (u : Nat) (v : Nat) (first : Bool), s.patAt n w u v first ∧ opOf v = 3) ∧
    (∃ (s : State) (n : CellNo) (w : When) (u : Nat) (v : Nat) (k : Nat) (first : Bool), s.patAt n w u v first ∧ (opOf v = 4 ∧ (s.cell n).pat.ctr[fieldA v]? = some k ∧ 0 < k ∧ k < 2 ^ 32)) ∧
    (∃ (s : State) (n : CellNo) (w : When) (u : Nat) (v : Nat) (first : Bool), s.patAt n w u v first ∧ (opOf v = 8 ∧ fieldA v ≤ 1)) ∧
    (∃ (s : State) (n : CellNo) (w : When) (u : Nat) (v : Nat) (first : Bool), s.patAt n w u v first ∧ (opOf v = 6 ∧ (s.cellAt n w).onTime first = true ∧ bit (fieldC v) 0 = false ∧ (s.cellAt n w).latched (fieldA v) = false)) ∧
    (∃ (s : State) (n : CellNo) (w : When) (u : Nat) (v : Nat) (first : Bool), s.patAt n w u v first ∧ (opOf v = 6 ∧ (s.cellAt n w).onTime first = true ∧ bit (fieldC v) 0 = false ∧ (s.cellAt n w).latched (fieldA v) = true)) ∧
    (∃ (s : State) (n : CellNo) (w : When) (u : Nat) (v : Nat) (first : Bool), s.patAt n w u v first ∧ (opOf v = 7 ∧ (s.cellAt n w).onTime first = true)) :=
    ⟨⟨(on0 (fun c => let c := c.run.puts [(K.PatternState, 1)]; (let c : Cell := { c.putDom K.PatternProgram (leBytes 8 0) with pat := { c.pat with out := .word 0 0 (some 24)  } }; c : Cell))), 0, (t0 9), 24, 0, false, patAt_of (by decide +kernel), by decide +kernel⟩,
    ⟨(on0 (fun c => let c := c.run.puts [(K.PatternState, 1), (K.RegionStooks, 4), (K.CapacityStooks, 100)]; (let c : Cell := { c.putDom K.PatternProgram (leBytes 8 8589934593 ++ leBytes 8 0) with pat := { c.pat with out := .word 0 0 (some 24)  } }; c : Cell))), 0, (t0 9), 24, 8589934593, patAt_of (by decide +kernel), by decide +kernel⟩,
    ⟨(on0 (fun c => let c := c.run.puts [(K.PatternState, 1), (K.RegionStooks, 4), (K.CapacityStooks, 100)]; (let c : Cell := { c.putDom K.PatternProgram (leBytes 8 8589934593 ++ leBytes 8 0) with pat := { c.pat with out := .waiting (some 3) (some 9) , fifo := ⟨0, [(0, false)], 0, 0⟩, look := ⟨1, [0, 0, 0, 0], 0, 0⟩ } }; c : Cell))), 0, (t0 9), 24, 8589934593, 3, ((some 9)), patAt_of (by decide +kernel), by decide +kernel⟩,
    ⟨(on0 (fun c => let c := c.run.puts [(K.PatternState, 1)]; (let c : Cell := { c.putDom K.PatternProgram (leBytes 8 34360066050 ++ leBytes 8 0) with pat := { c.pat with out := .word 0 0 (some 24)  } }; c : Cell))), 0, (t0 9), 24, 34360066050, false, patAt_of (by decide +kernel), by decide +kernel⟩,
    ⟨(on0 (fun c => let c := c.run.puts [(K.PatternState, 1)]; (let c : Cell := { c.putDom K.PatternProgram (leBytes 8 34359738883 ++ leBytes 8 0) with pat := { c.pat with out := .word 0 0 (some 24)  } }; c : Cell))), 0, (t0 9), 24, 34359738883, false, patAt_of (by decide +kernel), by decide +kernel⟩,
    ⟨(on0 (fun c => let c := c.run.puts [(K.PatternState, 1)]; (let c : Cell := { c.putDom K.PatternProgram (leBytes 8 260 ++ leBytes 8 0) with pat := { c.pat with out := .word 0 0 (some 24) , ctr := [0, 3, 0, 0] } }; c : Cell))), 0, (t0 9), 24, 260, 3, false, patAt_of (by decide +kernel), by decide +kernel⟩,
    ⟨(on0 (fun c => let c := c.run.puts [(K.PatternState, 1)]; (let c : Cell := { c.putDom K.PatternProgram (leBytes 8 264 ++ leBytes 8 0) with pat := { c.pat with out := .word 0 0 (some 24)  } }; c : Cell))), 0, (t0 9), 24, 264, false, patAt_of (by decide +kernel), by decide +kernel⟩,
    ⟨(on0 (fun c => let c := c.run.puts [(K.PatternState, 1)]; (let c : Cell := { c.putDom K.PatternProgram (leBytes 8 197894 ++ leBytes 8 0) with pat := { c.pat with out := .word 0 0 (some 24)  } }; c : Cell))), 0, (t0 9), 24, 197894, false, patAt_of (by decide +kernel), by decide +kernel⟩,
    ⟨(on0 (fun c => let c := c.run.puts [(K.PatternState, 1)]; (let c : Cell := { c.putDom K.PatternProgram (leBytes 8 197894 ++ leBytes 8 0) with pat := { c.pat with out := .word 0 0 (some 24) , latches := [(5, 8)] } }; c : Cell))), 0, (t0 9), 24, 197894, false, patAt_of (by decide +kernel), by decide +kernel⟩,
    ⟨(on0 (fun c => let c := c.run.puts [(K.PatternState, 1)]; (let c : Cell := { c.putDom K.PatternProgram (leBytes 8 197895 ++ leBytes 8 0) with pat := { c.pat with out := .word 0 0 (some 24)  } }; c : Cell))), 0, (t0 9), 24, 197895, false, patAt_of (by decide +kernel), by decide +kernel⟩⟩

theorem wit_BranchesAndReleasesComplete :
    (∃ (s : State) (n : CellNo) (w : When) (u : Nat) (v : Nat) (_ : Nat) (first : Bool), s.patAt n w u v first ∧ (opOf v = 5 ∧ fieldA v = 0)) ∧
    (∃ (s : State) (n : CellNo) (w : When) (u : Nat) (v : Nat) (_ : Nat) (first : Bool), s.patAt n w u v first ∧ (opOf v = 5 ∧ fieldA v = 1 ∧ (s.cellAt n w).latched (fieldC v) = true)) ∧
    (∃ (s : State) (n : CellNo) (w : When) (u : Nat) (v : Nat) (_ : Nat) (first : Bool), s.patAt n w u v first ∧ (opOf v = 5 ∧ fieldA v = 3)) ∧
    (∃ (s : State) (n : CellNo) (w : When), s.live n ∧ (s.cell n).get K.PatternState = 2 ∧ (s.cell n).clk.onFcc = true ∧ (s.cellAt n w).latched (fieldA ((s.cell n).patInstr (s.cell n).patPc)) = true) ∧
    (∃ (s : State) (n : CellNo) (w : When) (idx : Nat) (x : Nat) (f : Nat) (e : EventEntry) (p : Nat) (b : Nat), s.releases n w idx e p b ∧ ((s.cell n).get K.PatternState = 3 ∧ (s.cell n).pat.out = .word x f none ∧ f ≤ b ∧ fieldA ((s.cell n).patInstr (s.cell n).patPc) = e.param)) ∧
    (∃ (s : State) (n : CellNo) (w : When) (idx : Nat) (e : EventEntry) (p : Nat) (b : Nat), s.releases n w idx e p b ∧ (s.cell n).get K.PatternState = 0) ∧
    (∃ (s : State) (n : CellNo) (_ : When) (_ : Nat) (v : Nat) (f : Flight) (fs : List Flight), s.live n ∧ (s.cell n).flightsOf .pattern = f :: fs ∧ f.data = some (v, .device) ∧ f.tag = (s.cell n).pat.fifo.tag ∧ (s.cell n).pat.fifo.due ≠ 0 ∧ (s.cell n).pat.fifo.late = 0 ∧ (s.cell n).pat.out.isPlay = false) :=
    ⟨⟨(on0 (fun c => let c := c.run.puts [(K.PatternState, 1)]; (let c : Cell := { c.putDom K.PatternProgram (leBytes 8 65541 ++ leBytes 8 0) with pat := { c.pat with out := .word 0 0 (some 24)  } }; c : Cell))), 0, (t0 9), 24, 65541, 3, false, patAt_of (by decide +kernel), by decide +kernel⟩,
    ⟨(on0 (fun c => let c := c.run.puts [(K.PatternState, 1)]; (let c : Cell := { c.putDom K.PatternProgram (leBytes 8 21475426565 ++ leBytes 8 0) with pat := { c.pat with out := .word 0 0 (some 24), latches := [(5, 8)]  } }; c : Cell))), 0, (t0 9), 24, 21475426565, 13, false, patAt_of (by decide +kernel), by decide +kernel⟩,
    ⟨(on0 (fun c => let c := c.run.puts [(K.PatternState, 1)]; (let c : Cell := { c.putDom K.PatternProgram (leBytes 8 880708814439173 ++ leBytes 8 0) with pat := { c.pat with out := .word 0 0 (some 24)  } }; c : Cell))), 0, (t0 9), 24, 880708814439173, 3, false, patAt_of (by decide +kernel), by decide +kernel⟩,
    ⟨(on0 (fun c => let c := c.run.puts [(K.PatternState, 2)]; (let c : Cell := { c.putDom K.PatternProgram (leBytes 8 197894 ++ leBytes 8 0) with pat := { c.pat with out := .word 3 20 none , latches := [(5, 8)] } }; c : Cell))), 0, (t0 9), by decide +kernel⟩,
    ⟨(on0 (fun c => let c := c.run.puts [(K.PatternState, 3)]; (let c : Cell := { c.putDom K.PatternProgram (leBytes 8 197895 ++ leBytes 8 0) with pat := { c.pat with out := .word 3 20 none } }; { c with exe := { c.exe with running := true, active := some { img0 with events := [⟨6476810682368, 0, 0, 6, 3, 5, 0, 1⟩] }, runs := [⟨some (6476810682368), 0⟩] } } : Cell))), 0, (t0 9), 0, 3, 20, (⟨6476810682368, 0, 0, 6, 3, 5, 0, 1⟩), 6476810682368, 24, releases_of (by decide +kernel), by decide +kernel⟩,
    ⟨(on0 (fun c => let c := c.run; ({ c with exe := { c.exe with running := true, active := some { img0 with events := [⟨6476810682368, 0, 0, 6, 3, 5, 0, 1⟩] }, runs := [⟨some (6476810682368), 0⟩] } } : Cell))), 0, (t0 9), 0, (⟨6476810682368, 0, 0, 6, 3, 5, 0, 1⟩), 6476810682368, 24, releases_of (by decide +kernel), by decide +kernel⟩,
    ⟨(on0 (fun c => let c := c.run.puts [(K.PatternState, 1)]; (let c : Cell := { c with pat := { c.pat with out := .waiting (some 0) none, fifo := ⟨0, [], 1, 0⟩ } }; { c with mem := { c.mem with flights := c.mem.flights.set (partyIx .pattern) [(⟨40, 0, some (encodeStook 7, .device), false, false, false⟩ : Flight)] } } : Cell))), 0, (t0 9), 0, ((encodeStook 7)), ((⟨40, 0, some (encodeStook 7, .device), false, false, false⟩ : Flight)), [], by decide +kernel⟩⟩

theorem wit_CountClearsComplete :
    (∃ (s : State) (n : CellNo) (_ : When) (p : Port), s.writable n p) ∧
    (∃ (s : State) (n : CellNo) (_ : When) (p : Port), s.writable n p) ∧
    (∃ (s : State) (n : CellNo) (_ : When) (p : Port), s.writable n p) ∧
    (∃ (s : State) (n : CellNo) (_ : When) (p : Port), s.writable n p) ∧
    (∃ (s : State) (n : CellNo) (_ : When) (p : Port), s.writable n p) ∧
    (∃ (s : State) (n : CellNo) (_ : When) (p : Port), s.writable n p) ∧
    (∃ (s : State) (n : CellNo) (_ : When) (p : Port), s.writable n p) ∧
    (∃ (s : State) (n : CellNo) (_ : When) (p : Port), s.writable n p) ∧
    (∃ (s : State) (n : CellNo) (_ : When) (p : Port), s.writable n p) ∧
    (∃ (s : State) (n : CellNo) (_ : When) (p : Port), s.writable n p) :=
    ⟨⟨(on0 (fun c => c.run)), 0, (t0 9), .eth, by decide +kernel⟩,
    ⟨(on0 (fun c => c.run)), 0, (t0 9), .eth, by decide +kernel⟩,
    ⟨(on0 (fun c => c.run)), 0, (t0 9), .eth, by decide +kernel⟩,
    ⟨(on0 (fun c => c.run)), 0, (t0 9), .eth, by decide +kernel⟩,
    ⟨(on0 (fun c => c.run)), 0, (t0 9), .eth, by decide +kernel⟩,
    ⟨(on0 (fun c => c.run)), 0, (t0 9), .eth, by decide +kernel⟩,
    ⟨(on0 (fun c => c.run)), 0, (t0 9), .eth, by decide +kernel⟩,
    ⟨(on0 (fun c => c.run)), 0, (t0 9), .eth, by decide +kernel⟩,
    ⟨(on0 (fun c => c.run)), 0, (t0 9), .eth, by decide +kernel⟩,
    ⟨(on0 (fun c => c.run)), 0, (t0 9), .eth, by decide +kernel⟩⟩

theorem wit_HostPortCompletes :
    (∃ (s : State) (_ : When) (i : IntSrc) (rest : List IntSrc), s.powered ∧ s.glob.trigs = i :: rest ∧ s.glob.canSend = true ∧ s.glob.get i.key < 128 ∧ bit s.glob.hst.pba (s.glob.get i.key) = false ∧ s.glob.hst.masked (s.glob.get i.key) = false) ∧
    (∃ (s : State) (w : When) (n : CellNo) (l : Fin 64), s.powered ∧ s.pulsed n l.val (w.cc - 1) ∧ 1 ≤ w.cc ∧ s.glob.get (G.EventVector + 0x100 * n.val + l.val) < 128 ∧ s.glob.canSend = true ∧ bit s.glob.hst.pba (s.glob.get (G.EventVector + 0x100 * n.val + l.val)) = true) ∧
    (∃ (s : State) (w : When) (n : CellNo) (l : Fin 64), s.powered ∧ s.pulsed n l.val (w.cc - 1) ∧ 1 ≤ w.cc ∧ s.glob.get (G.EventVector + 0x100 * n.val + l.val) < 128 ∧ ((s.glob.hst.msixEnable = false ∨ s.glob.hst.functionMask = true))) ∧
    (∃ (s : State) (w : When) (n : CellNo) (l : Fin 64), s.powered ∧ s.pulsed n l.val (w.cc - 1) ∧ 1 ≤ w.cc ∧ s.glob.get (G.EventVector + 0x100 * n.val + l.val) < 128 ∧ s.glob.hst.msixEnable = true ∧ s.glob.hst.functionMask = false ∧ bit s.glob.hst.pba (s.glob.get (G.EventVector + 0x100 * n.val + l.val)) = false ∧ s.glob.hst.masked (s.glob.get (G.EventVector + 0x100 * n.val + l.val)) = true) ∧
    (∃ (s : State) (_ : Nat) (p : Port) (_ : Nat), s.writes p G.IntClear) ∧
    (∃ (s : State) (_ : Nat) (speed : Fin 7) (_ : Fin 5) (_ : Fin 3) (_ : Fin 6) (_ : Bool), s.powered ∧ s.glob.hst.perst = false ∧ speed ≠ 0 ∧ s.glob.hst.busMaster = false) ∧
    (∃ (s : State) (_ : Nat) (_ : Fin 5) (_ : Fin 3) (_ : Fin 6) (_ : Bool), s.powered) ∧
    (∃ (s : State) (_ : Nat) (_ : Fin 8) (_ : Fin 8), s.powered ∧ s.glob.get G.LinkSpeed ≠ 0 ∧ s.glob.hst.busMaster = false) ∧
    (∃ (s : State) (_ : Nat) (_ : Bool) (_ : Bool), s.powered ∧ s.glob.get G.LinkSpeed ≠ 0 ∧ s.glob.hst.busMaster = false) ∧
    (∃ (s : State) (_ : Nat) (_ : ConfigReg), s.powered ∧ s.glob.get G.LinkSpeed ≠ 0 ∧ s.glob.hst.busMaster = false) ∧
    (∃ (s : State) (_ : Nat) (_ : Bool), s.powered ∧ s.glob.get G.LinkSpeed ≠ 0 ∧ s.glob.hst.busMaster = false) ∧
    (∃ (s : State) (ns : Nat) (_ : ConfigOp), s.powered ∧ s.glob.get G.LinkSpeed ≠ 0 ∧ ns < s.glob.hst.readyBy) ∧
    (∃ (s : State) (_ : Nat) (off : Nat) (_ : Byte), s.powered ∧ s.glob.get G.WideState ≠ 1 ∧ off < 0x8000 ∧ s.glob.canSend = false) ∧
    (∃ (s : State) (_ : Nat) (off : Nat) (_ : Byte), s.powered ∧ 0x8000 ≤ off ∧ off < 0x8800 ∧ s.glob.canSend = false) ∧
    (∃ (s : State) (_ : Nat) (_ : Nat) (_ : List Byte) (_ : List Bool), s.powered) :=
    ⟨⟨(onG (fun g => let g := g.puts [(G.LinkSpeed, 4), (G.WideDoneVector, 3)]; ({ { g with hst := { g.hst with busMaster := true, msixEnable := true, table := [(60, 0)] } } with trigs := [.wideDone] } : Glob))), (t0 9), .wideDone, [], by decide +kernel⟩,
    ⟨({ on0 (fun c => { c.run with fab := { c.fab with pulses := [(8, 58)] } }) with glob := (let g := base.glob.puts [(G.LinkSpeed, 4), (G.EventVector + 58, 5)]; { g with hst := { g.hst with busMaster := true, msixEnable := true, pba := 32 } }) }), (t0 9), 0, 58, by decide +kernel⟩,
    ⟨({ on0 (fun c => { c.run with fab := { c.fab with pulses := [(8, 58)] } }) with glob := (let g := base.glob.puts [(G.LinkSpeed, 4), (G.EventVector + 58, 5)]; { g with hst := { g.hst with busMaster := true } }) }), (t0 9), 0, 58, by decide +kernel⟩,
    ⟨({ on0 (fun c => { c.run with fab := { c.fab with pulses := [(8, 56)] } }) with glob := (let g := base.glob.puts [(G.LinkSpeed, 4), (G.EventVector + 56, 5)]; { g with hst := { g.hst with busMaster := true, msixEnable := true } }) }), (t0 9), 0, 56, by decide +kernel⟩,
    ⟨(onG (fun g => let g := g.puts [(G.IntStatus, 4660)]; (g : Glob))), 9, .eth, 255, by decide +kernel⟩,
    ⟨(onG id), 9, 4, 4, 1, 2, false, by decide +kernel⟩,
    ⟨(onG (fun g => let g := g.puts [(G.LinkSpeed, 4), (G.WideDoneVector, 3)]; ({ g with hst := { g.hst with busMaster := true, msixEnable := true } } : Glob))), 9, 4, 1, 2, true, by decide +kernel⟩,
    ⟨(onG (fun g => let g := g.puts [(G.LinkSpeed, 4), (G.WideDoneVector, 3)]; (g : Glob))), 9, 7, 7, by decide +kernel⟩,
    ⟨(onG (fun g => let g := g.puts [(G.LinkSpeed, 4), (G.WideDoneVector, 3)]; (g : Glob))), 9, true, true, by decide +kernel⟩,
    ⟨(onG (fun g => let g := g.puts [(G.LinkSpeed, 4)]; (g : Glob))), 9, .identity, by decide +kernel⟩,
    ⟨(onG (fun g => let g := g.puts [(G.LinkSpeed, 4)]; (g : Glob))), 9, true, by decide +kernel⟩,
    ⟨(onG (fun g => let g := g.puts [(G.LinkSpeed, 4), (G.WideDoneVector, 3)]; ({ g with hst := { g.hst with readyBy := 50 } } : Glob))), 9, (.read .command), by decide +kernel⟩,
    ⟨(onG id), 9, 100, 7, by decide +kernel⟩,
    ⟨(onG id), 9, (0x8000 + 60), 0, by decide +kernel⟩,
    ⟨(onG (fun g => g)), 9, 100, ([1, 2]), ([true, true]), by decide +kernel⟩⟩

theorem wit_DictionaryAccessesComplete :
    (∃ (s : State) (_ : When4) (p : Port) (ix : Nat) (sub : Nat) (e : Entry) (data : List Byte) (_ : List Bool) (_ : Tlp), p ≠ .pcie ∧ s.writes p (256 * ix + sub) ∧ s.glob.plainWrite ix sub e (leNat data) ∧ data.length = e.ty.bytes) ∧
    (∃ (s : State) (_ : When4) (ix : Nat) (sub : Nat) (e : Entry) (data : List Byte) (en : List Bool), 0x1000 ≤ ix ∧ ix < 65536 ∧ sub < 256 ∧ s.writes .pcie (256 * ix + sub) ∧ s.glob.plainWrite ix sub e (leNat data) ∧ data.length = e.ty.bytes ∧ e.ty ≠ .time96 ∧ en = List.replicate data.length true ∧ data ≠ []) ∧
    (∃ (s : State) (_ : When4) (p : Port) (ix : Nat) (sub : Nat) (n : CellNo) (i : Nat) (e : Entry) (data : List Byte) (_ : List Bool) (_ : Tlp), p ≠ .pcie ∧ s.writable n p ∧ s.glob.bootRom = false ∧ cellOfIx ix = some (n, i) ∧ entryAt ix sub = some e ∧ e.acc = .rw ∧ e.ty.isBlock = false ∧ data.length = e.ty.bytes ∧ e.cls ≠ .swath ∧ (s.cell n).refuses (256 * i + sub) = false ∧ e.valueOk (leNat data) = true ∧ (s.cell n).depends (256 * i + sub) (leNat data) = true ∧ (∀ x ∈ [K.RasterEnable, K.PortEnable, K.BgEnable, K.RecalEnable, K.SelfRefreshEnable, K.ScrubEnable, K.RetrainTempDelta], 256 * i + sub ≠ x) ∧ (∀ k : Fin 8, 256 * i + sub ≠ K.ChannelEnable + 0x100 * k.val)) ∧
    (∃ (s : State) (w : When4) (p : Port) (ix : Nat) (sub : Nat) (n : CellNo) (i : Nat) (e : Entry) (data : List Byte) (_ : List Bool) (_ : Tlp), p ≠ .pcie ∧ s.writable n p ∧ s.glob.bootRom = false ∧ cellOfIx ix = some (n, i) ∧ entryAt ix sub = some e ∧ e.acc = .rws ∧ e.ty.isBlock = false ∧ data.length = e.ty.bytes ∧ e.cls = .swath ∧ s.onTime n ⟨w.ns, (strobeOf w.at' n).cc⟩ ∧ (s.cell n).refuses (256 * i + sub) = false ∧ e.valueOk (leNat data) = true ∧ (s.cell n).depends (256 * i + sub) (leNat data) = true ∧ (∀ x ∈ [K.RasterEnable, K.PortEnable, K.SelfRefreshEnable], 256 * i + sub ≠ x) ∧ (∀ k : Fin 8, 256 * i + sub ≠ K.ChannelEnable + 0x100 * k.val)) ∧
    (∃ (s : State) (w : When4) (ix : Nat) (sub : Nat) (n : CellNo) (i : Nat) (e : Entry) (v : List Byte) (data : List Byte), s.takes .pcie ∧ s.glob.bootRom = false ∧ 0x1000 ≤ ix ∧ ix < 65536 ∧ sub < 256 ∧ cellOfIx ix = some (n, i) ∧ entryAt ix sub = some e ∧ e.acc ≠ .wo ∧ e.ty.isBlock = false ∧ e.ty ≠ .time96 ∧ (s.cellAt n ⟨w.ns, (strobeOf w.at' n).cc⟩).readDict n (256 * i + sub) e = v ∧ v.length ≤ 8 ∧ data.length = 8) ∧
    (∃ (s : State) (_ : When4) (p : Port) (ix : Nat) (sub : Nat) (e : Entry) (_ : List Byte) (_ : List Bool) (_ : Tlp), p ≠ .pcie ∧ s.takes p ∧ entryAt ix sub = some e ∧ ((e.acc = .ro ∨ e.acc = .const))) ∧
    (∃ (s : State) (w : When4) (p : Port) (v : List Byte), s.readsInCell w (bits (s.glob.get G.WideSelect) 0 16) (bits (s.glob.get G.WideSelect) 16 8) v ∧ (s.writes p G.WideCommand ∧ s.glob.get G.WideState ≠ 1 ∧ v.length ≤ 32768)) ∧
    (∃ (s : State) (_ : When4) (p : Port), s.writes p G.WideCommand ∧ s.glob.get G.WideState ≠ 1) ∧
    (∃ (s : State) (_ : When4) (v : List Byte), s.powered ∧ s.glob.hst.wideRun = some (.value v)) ∧
    (∃ (s : State) (_ : When4) (code : Nat), s.powered ∧ s.glob.hst.wideRun = some (.failed code) ∧ code ≠ 0) ∧
    (∃ (s : State) (_ : When4) (ix : Nat) (sub : Nat) (k : Nat) (e : Entry) (v : List Byte), s.powered ∧ s.glob.hst.wideRun = some (.write ix sub v) ∧ 256 * ix + sub = k ∧ s.writes .wide k ∧ s.glob.plainWrite ix sub e (leNat v) ∧ v.length = e.ty.bytes ∧ k ∉ [G.WideState, G.WideAbortCode]) :=
    ⟨⟨(onG id), w4, .eth, 8704, 9, (⟨8704, 9, 1, 1, .u8, .rw, .now, .le 3, 1, false, 0⟩), [2], [], .write, by decide +kernel⟩,
    ⟨(onG id), w4, 8704, 9, (⟨8704, 9, 1, 1, .u8, .rw, .now, .le 3, 1, false, 0⟩), [2], [true], by decide +kernel⟩,
    ⟨(on0 (fun c => c.run)), w4, .can, (0x4000 + 2816), 1, 0, 2816, (⟨2816, 1, 1, 1, .u16, .rw, .now, .nz, 2048, false, 0⟩), ([7, 0]), [], .write, by decide +kernel⟩,
    ⟨(on0 (fun c => let c := c.run.puts [(K.FgCalState, 2)]; ({ c with trk := { c.trk with startCc := 3 } } : Cell))), w4, .can, (0x4000 + 1025), 5, 0, 1025, (((entryAt (0x4000 + 1025) 5).getD (ro 0 0 .u8 0))), ([7, 0]), [], .write, by decide +kernel⟩,
    ⟨(on0 (fun c => c.run)), w4, (0x4000 + 2816), 1, 0, 2816, (⟨2816, 1, 1, 1, .u16, .rw, .now, .nz, 2048, false, 0⟩), ([0, 8]), (zeros 8), by decide +kernel⟩,
    ⟨(on0 (fun c => c.run)), w4, .can, (0x4000 + 1537), 10, (⟨1537, 10, 1, 1, .u64, .ro, .none, .any, 0, false, 0⟩), ([7, 0]), [], .write, by decide +kernel⟩,
    ⟨({ on0 (fun c => c.run) with glob := base.glob.puts [(G.WideSelect, 0x4B00 + 0x10000)] }), w4, .eth, ([0, 8]), ⟨0, _, _, rfl, rfl, by decide, by decide +kernel⟩, by decide +kernel⟩,
    ⟨({ on0 (fun c => c.run) with glob := (let g := base.glob.puts [(G.WideSelect, 0x4B00 + 0x10000), (G.WideLength, 2)]; { g with hst := { g.hst with wide := [(0, 7), (1, 9)] } }) }), w4, .eth, by decide +kernel⟩,
    ⟨(onG (fun g => let g := g.puts [(G.WideState, 1)]; ({ g with hst := { g.hst with wideRun := some (.value [1, 2, 0]) } } : Glob))), w4, ([1, 2, 0]), by decide +kernel⟩,
    ⟨(onG (fun g => let g := g.puts [(G.WideState, 1)]; ({ g with hst := { g.hst with wideRun := some (.failed 0x08000022) } } : Glob))), w4, 0x08000022, by decide +kernel⟩,
    ⟨(onG (fun g => let g := g.puts [(G.WideState, 1)]; ({ g with hst := { g.hst with wideRun := some (.write 8704 9 [2]) } } : Glob))), w4, 8704, 9, (256 * 8704 + 9), (⟨8704, 9, 1, 1, .u8, .rw, .now, .le 3, 1, false, 0⟩), [2], by decide +kernel⟩⟩

theorem wit_CanTransfersComplete :
    (∃ (s : State) (_ : When4) (ix : Nat) (sub : Nat) (e : Entry) (data : List Byte), s.glob.canOn = true ∧ s.glob.can.xfer = none ∧ s.glob.refuses (256 * ix + sub) = false ∧ s.glob.plainWrite ix sub e (leNat (data.take e.ty.bytes)) ∧ e.ty.bytes ≤ data.length ∧ 256 * ix + sub ∉ [G.SdoTransfers, G.RxErrorCounter, G.TxErrorCounter, G.CanState]) ∧
    (∃ (s : State) (_ : Nat) (_ : Nat) (_ : Nat) (_ : Nat), s.glob.canOn = true ∧ s.glob.can.xfer = none) ∧
    (∃ (s : State) (_ : When4) (x : CanXfer) (data : List Byte), s.glob.canOn = true ∧ s.glob.can.xfer = some x ∧ x.down = true ∧ data.length = 62 ∧ x.data.length + 62 ≤ 32768) ∧
    (∃ (s : State) (_ : When4) (x : CanXfer) (e : Entry) (data : List Byte), s.glob.canOn = true ∧ s.glob.can.xfer = some x ∧ x.down = true ∧ data ≠ [] ∧ data.length ≤ 62 ∧ x.data.length + data.length = x.size ∧ x.size = e.ty.bytes ∧ s.glob.refuses (256 * x.ix + x.sub) = false ∧ s.glob.plainWrite x.ix x.sub e (leNat (x.data ++ data)) ∧ 256 * x.ix + x.sub ∉ [G.SdoTransfers, G.RxErrorCounter, G.TxErrorCounter, G.CanState]) ∧
    (∃ (s : State) (_ : When4) (x : CanXfer) (_ : Bool) (_ : List Byte), s.glob.canOn = true ∧ s.glob.can.xfer = some x ∧ x.down = true) ∧
    (∃ (s : State) (w : When4) (ix : Nat) (sub : Nat) (v : List Byte), s.readsInCell w ix sub v ∧ (s.glob.canOn = true ∧ s.glob.can.xfer = none ∧ v.length ≤ 56)) ∧
    (∃ (s : State) (w : When4) (ix : Nat) (sub : Nat) (v : List Byte), s.readsInCell w ix sub v ∧ (s.glob.canOn = true ∧ s.glob.can.xfer = none ∧ 56 < v.length)) ∧
    (∃ (s : State) (_ : Nat) (x : CanXfer), s.glob.canOn = true ∧ s.glob.can.xfer = some x ∧ x.down = false ∧ 62 < x.data.length) ∧
    (∃ (s : State) (_ : Nat) (x : CanXfer), s.glob.canOn = true ∧ s.glob.can.xfer = some x ∧ x.down = false ∧ x.data.length ≤ 62) ∧
    (∃ (s : State) (_ : Nat), s.glob.canOn = true ∧ s.glob.can.xfer.isSome = true) ∧
    (∃ (s : State) (ns : Nat) (x : CanXfer), s.glob.canOn = true ∧ s.glob.can.xfer = some x ∧ x.lastNs + 1000000 * s.glob.get G.SdoTimeout < ns) ∧
    (∃ (s : State) (_ : Nat), s.glob.canOn = true) ∧
    (∃ (s : State) (_ : Nat) (id : Nat) (_ : Nat) (_ : Nat) (_ : Nat), s.glob.canOn = true ∧ id ≠ s.glob.requestId) ∧
    (∃ (s : State) (_ : Nat) (head : Nat) (_ : Nat) (_ : Nat), s.glob.canOn = true ∧ canService head = false ∧ s.glob.can.xfer = none) ∧
    (∃ (s : State) (_ : Nat), s.glob.canOn = true ∧ 247 < s.glob.get G.TxErrorCounter) ∧
    (∃ (s : State) (_ : Nat), s.powered ∧ s.glob.get G.CanState = 3) :=
    ⟨⟨(onG (fun g => let g := g.puts [(G.CanEnable, 1), (G.CanState, 1)]; ({ { g with rst := [(G.CanEnable, 1)] } with can := ⟨none, [], 0⟩ } : Glob))), w4, 8704, 9, (⟨8704, 9, 1, 1, .u8, .rw, .now, .le 3, 1, false, 0⟩), ([2, 0, 0]), by decide +kernel⟩,
    ⟨(onG (fun g => let g := g.puts [(G.CanEnable, 1), (G.CanState, 1)]; ({ { g with rst := [(G.CanEnable, 1)] } with can := ⟨none, [], 0⟩ } : Glob))), 9, 9744, 6, 100, by decide +kernel⟩,
    ⟨(onG (fun g => let g := g.puts [(G.CanEnable, 1), (G.CanState, 1)]; ({ { g with rst := [(G.CanEnable, 1)] } with can := ⟨some (⟨true, 9744, 6, 100, [1, 2], true, 5⟩ : CanXfer), [], 0⟩ } : Glob))), w4, ((⟨true, 9744, 6, 100, [1, 2], true, 5⟩ : CanXfer)), (List.replicate 62 7), by decide +kernel⟩,
    ⟨(onG (fun g => let g := g.puts [(G.CanEnable, 1), (G.CanState, 1)]; ({ { g with rst := [(G.CanEnable, 1)] } with can := ⟨some (⟨true, 8704, 9, 1, [], false, 5⟩ : CanXfer), [], 0⟩ } : Glob))), w4, ((⟨true, 8704, 9, 1, [], false, 5⟩ : CanXfer)), (⟨8704, 9, 1, 1, .u8, .rw, .now, .le 3, 1, false, 0⟩), [2], by decide +kernel⟩,
    ⟨(onG (fun g => let g := g.puts [(G.CanEnable, 1), (G.CanState, 1)]; ({ { g with rst := [(G.CanEnable, 1)] } with can := ⟨some (⟨true, 9744, 6, 1, [], false, 5⟩ : CanXfer), [], 0⟩ } : Glob))), w4, ((⟨true, 9744, 6, 1, [], false, 5⟩ : CanXfer)), false, [77], by decide +kernel⟩,
    ⟨({ on0 (fun c => c.run) with glob := (onG (fun g => let g := g.puts [(G.CanEnable, 1), (G.CanState, 1)]; ({ { g with rst := [(G.CanEnable, 1)] } with can := ⟨none, [], 0⟩ } : Glob))).glob }), w4, (0x4000 + 2816), 1, ([0, 8]), ⟨0, _, _, rfl, rfl, by decide, by decide +kernel⟩, by decide +kernel⟩,
    ⟨({ on0 (fun c => let c := c.run; (c.putDom K.PatternProgram (leBytes 8 0 ++ zeros 56) : Cell)) with glob := (onG (fun g => let g := g.puts [(G.CanEnable, 1), (G.CanState, 1)]; ({ { g with rst := [(G.CanEnable, 1)] } with can := ⟨none, [], 0⟩ } : Glob))).glob }), w4, (0x4000 + 3329), 1, (zeros 64), ⟨0, _, _, rfl, rfl, by decide, by decide +kernel⟩, by decide +kernel⟩,
    ⟨(onG (fun g => let g := g.puts [(G.CanEnable, 1), (G.CanState, 1)]; ({ { g with rst := [(G.CanEnable, 1)] } with can := ⟨some (⟨false, 9744, 6, 100, List.replicate 63 7, true, 5⟩ : CanXfer), [], 0⟩ } : Glob))), 9, ((⟨false, 9744, 6, 100, List.replicate 63 7, true, 5⟩ : CanXfer)), by decide +kernel⟩,
    ⟨(onG (fun g => let g := g.puts [(G.CanEnable, 1), (G.CanState, 1)]; ({ { g with rst := [(G.CanEnable, 1)] } with can := ⟨some (⟨false, 9744, 6, 100, List.replicate 62 7, false, 5⟩ : CanXfer), [], 0⟩ } : Glob))), 9, ((⟨false, 9744, 6, 100, List.replicate 62 7, false, 5⟩ : CanXfer)), by decide +kernel⟩,
    ⟨(onG (fun g => let g := g.puts [(G.CanEnable, 1), (G.CanState, 1)]; ({ { g with rst := [(G.CanEnable, 1)] } with can := ⟨some (⟨false, 9744, 6, 100, List.replicate 62 7, false, 5⟩ : CanXfer), [], 0⟩ } : Glob))), 9, by decide +kernel⟩,
    ⟨(onG (fun g => let g := g.puts [(G.CanEnable, 1), (G.CanState, 1), (G.SdoTimeout, 1)]; ({ { g with rst := [(G.CanEnable, 1)] } with can := ⟨some (⟨false, 9744, 6, 100, List.replicate 62 7, false, 5⟩ : CanXfer), [], 0⟩ } : Glob))), 1000006, ((⟨false, 9744, 6, 100, List.replicate 62 7, false, 5⟩ : CanXfer)), by decide +kernel⟩,
    ⟨(onG (fun g => let g := g.puts [(G.CanEnable, 1), (G.CanState, 1), (G.RxErrorCounter, 5)]; ({ { g with rst := [(G.CanEnable, 1)] } with can := ⟨none, [], 0⟩ } : Glob))), 9, by decide +kernel⟩,
    ⟨(onG (fun g => let g := g.puts [(G.CanEnable, 1), (G.CanState, 1)]; ({ { g with rst := [(G.CanEnable, 1)] } with can := ⟨none, [], 0⟩ } : Glob))), 9, 0x123, 0x40, 9744, 6, by decide +kernel⟩,
    ⟨(onG (fun g => let g := g.puts [(G.CanEnable, 1), (G.CanState, 1)]; ({ { g with rst := [(G.CanEnable, 1)] } with can := ⟨none, [], 0⟩ } : Glob))), 9, 0xE0, 9744, 6, by decide +kernel⟩,
    ⟨(onG (fun g => let g := g.puts [(G.CanEnable, 1), (G.CanState, 1), (G.TxErrorCounter, 248)]; ({ { g with rst := [(G.CanEnable, 1)] } with can := ⟨none, [], 0⟩ } : Glob))), 9, by decide +kernel⟩,
    ⟨(onG (fun g => let g := g.puts [(G.CanEnable, 1), (G.CanState, 1), (G.CanState, 3), (G.TxErrorCounter, 255)]; ({ { g with rst := [(G.CanEnable, 1)] } with can := ⟨none, [], 0⟩ } : Glob))), 9, by decide +kernel⟩⟩

theorem wit_EthernetCompletes :
    (∃ (s : State) (w : When4) (q : HdapReq) (len : Nat) (v : List Byte), s.readsInCell w q.ix q.sub v ∧ (s.glob.ethOn = true ∧ s.glob.eth.kept.find? (fun k => k.peer == q.peer && k.seq == q.seq && k.opcode == 1) = none ∧ q.offset = 0 ∧ 0 < len ∧ len ≤ 1408)) ∧
    (∃ (s : State) (_ : When4) (q : HdapReq) (len : Nat) (x : Snap), s.glob.ethOn = true ∧ s.glob.eth.kept.find? (fun k => k.peer == q.peer && k.seq == q.seq && k.opcode == 1) = none ∧ readCause q.ix q.sub = none ∧ s.glob.eth.snaps.find? (fun x => x.peer == q.peer && x.ix == q.ix && x.sub == q.sub) = some x ∧ 0 < len ∧ len ≤ 1408 ∧ ((q.offset = 0 ∨ hasFixedSize q.ix q.sub = false))) ∧
    (∃ (s : State) (_ : When4) (q : HdapReq) (e : Entry) (data : List Byte), s.glob.ethOn = true ∧ s.glob.eth.kept.find? (fun k => k.peer == q.peer && k.seq == q.seq && k.opcode == 2) = none ∧ q.offset = 0 ∧ s.glob.refuses (256 * q.ix + q.sub) = false ∧ s.glob.plainWrite q.ix q.sub e (leNat data) ∧ data.length = e.ty.bytes ∧ 256 * q.ix + q.sub ≠ G.HdapRequests) ∧
    (∃ (s : State) (_ : When4) (q : HdapReq) (e : Entry) (data : List Byte), s.glob.ethOn = true ∧ s.glob.eth.kept.find? (fun k => k.peer == q.peer && k.seq == q.seq && k.opcode == 2) = none ∧ q.offset ≠ 0 ∧ s.glob.refuses (256 * q.ix + q.sub) = false ∧ s.glob.plainWrite q.ix q.sub e (leNat data) ∧ data.length = e.ty.bytes) ∧
    (∃ (s : State) (w : When4) (q : HdapReq) (before : List Byte) (data : List Byte), s.glob.ethOn = true ∧ s.glob.eth.kept.find? (fun k => k.peer == q.peer && k.seq == q.seq && k.opcode == 3) = none ∧ ({ s.glob with nowNs := w.ns } : Glob).assembled q = some before ∧ before.length + data.length ≤ 32768 ∧ ((q.offset = 0 ∨ hasFixedSize q.ix q.sub = false))) ∧
    (∃ (s : State) (ns : Nat) (a : Assembly), s.powered ∧ s.glob.eth.assembly = some a ∧ a.lastNs + 1000000 * s.glob.get G.SdoTimeout < ns) ∧
    (∃ (s : State) (_ : Nat), s.glob.ethOn = true) ∧
    (∃ (s : State) (_ : Nat) (q : HdapReq) (op : Nat), s.glob.ethOn = true ∧ s.glob.eth.kept.find? (fun k => k.peer == q.peer && k.seq == q.seq && k.opcode == op) = none) ∧
    (∃ (s : State) (_ : Nat) (_ : Fin 3), s.glob.mgmt.boot = .running) ∧
    (∃ (s : State) (_ : Nat) (_ : BitVec 32), s.takes .eth ∧ s.glob.inForce G.IpMode = 1) ∧
    (∃ (s : State) (_ : Nat) (a : BitVec 32), s.glob.ethOn = true ∧ s.glob.get G.IpApplied = a.toNat) ∧
    (∃ (s : State) (_ : Nat) (_ : Nat) (_ : Nat) (a : BitVec 32) (_ : BitVec 32) (_ : List Byte), s.glob.ethOn = true ∧ s.glob.get G.IpApplied = a.toNat) :=
    ⟨⟨({ on0 (fun c => c.run) with glob := (onG (fun g => let g := g.puts [(G.EthLinkState, 2), (G.IpApplied, 0x0A000001)]; ({ g with eth := { g.eth with snaps := [] } } : Glob))).glob }), w4, ((⟨⟨1, 2⟩, 7, 0x4B00, 1, 0⟩ : HdapReq)), 1, ([0, 8]), ⟨0, _, _, rfl, rfl, by decide, by decide +kernel⟩, by decide +kernel⟩,
    ⟨(onG (fun g => let g := g.puts [(G.EthLinkState, 2), (G.IpApplied, 0x0A000001)]; ({ g with eth := { g.eth with snaps := [(⟨⟨1, 2⟩, 9744, 6, [5, 6, 7]⟩ : Snap)] } } : Glob))), w4, ((⟨⟨1, 2⟩, 7, 9744, 6, 0⟩ : HdapReq)), 8, ((⟨⟨1, 2⟩, 9744, 6, [5, 6, 7]⟩ : Snap)), by decide +kernel⟩,
    ⟨(onG (fun g => let g := g.puts [(G.EthLinkState, 2), (G.IpApplied, 0x0A000001)]; ({ g with eth := { g.eth with snaps := [] } } : Glob))), w4, ((⟨⟨1, 2⟩, 7, 8704, 9, 0⟩ : HdapReq)), (⟨8704, 9, 1, 1, .u8, .rw, .now, .le 3, 1, false, 0⟩), [2], by decide +kernel⟩,
    ⟨(onG (fun g => let g := g.puts [(G.EthLinkState, 2), (G.IpApplied, 0x0A000001)]; ({ g with eth := { g.eth with snaps := [] } } : Glob))), w4, ((⟨⟨1, 2⟩, 7, 8704, 9, 1⟩ : HdapReq)), (⟨8704, 9, 1, 1, .u8, .rw, .now, .le 3, 1, false, 0⟩), [2], by decide +kernel⟩,
    ⟨(onG (fun g => let g := g.puts [(G.EthLinkState, 2), (G.IpApplied, 0x0A000001)]; ({ g with eth := { g.eth with snaps := [] } } : Glob))), w4, ((⟨⟨1, 2⟩, 7, 9744, 6, 0⟩ : HdapReq)), [], [77], by decide +kernel⟩,
    ⟨(onG (fun g => let g := g.puts [(G.SdoTimeout, 1)]; ({ g with eth := { g.eth with assembly := some (⟨⟨1, 2⟩, 9744, 6, [5, 6, 7], 4⟩ : Assembly) } } : Glob))), 1000005, ((⟨⟨1, 2⟩, 9744, 6, [5, 6, 7], 4⟩ : Assembly)), by decide +kernel⟩,
    ⟨(onG (fun g => let g := g.puts [(G.EthLinkState, 2), (G.IpApplied, 0x0A000001)]; ({ g with eth := { g.eth with snaps := [] } } : Glob))), 9, by decide +kernel⟩,
    ⟨(onG (fun g => let g := g.puts [(G.EthLinkState, 2), (G.IpApplied, 0x0A000001)]; ({ g with eth := { g.eth with snaps := [] } } : Glob))), 9, ((⟨⟨1, 2⟩, 7, 9744, 6, 0⟩ : HdapReq)), 9, by decide +kernel⟩,
    ⟨(onG id), 9, 2, by decide +kernel⟩,
    ⟨(onG (fun g => let g := g.puts [(G.IpMode, 1)]; ({ g with rst := [(G.IpMode, 1)] } : Glob))), 9, 5, by decide +kernel⟩,
    ⟨(onG (fun g => let g := g.puts [(G.EthLinkState, 2), (G.IpApplied, 0x0A000001)]; ({ g with eth := { g.eth with snaps := [] } } : Glob))), 9, 0x0A000001, by decide +kernel⟩,
    ⟨(onG (fun g => let g := g.puts [(G.EthLinkState, 2), (G.IpApplied, 0x0A000001)]; ({ g with eth := { g.eth with snaps := [] } } : Glob))), 9, 3, 4, 0x0A000001, 7, ([1, 2]), by decide +kernel⟩⟩

def sKept (op : Nat) : State :=
  onG (fun g => { g.puts [(G.EthLinkState, 2), (G.IpApplied, 0x0A000001)] with eth := { g.eth with kept := [⟨⟨1, 2⟩, 7, op, [9]⟩] } })
theorem wit_KeptResponses :
    (∃ (s : State) (w : When4) (q : HdapReq) (i : Instr) (op : Nat) (k : Kept), s.glob.ethOn = true ∧
      ((op = 1 ∧ ((∃ len, i = .hdapRead w q len) ∨ (∃ len, i = .hdapReadContinue w q len))) ∨
       (op = 2 ∧ ∃ data, i = .hdapWrite w q data) ∨ (op = 3 ∧ ∃ last data, i = .hdapWriteSegment w q last data) ∨
       i = .hdapBadDatagram w.ns (.reserved q op)) ∧
      s.glob.eth.kept.find? (fun x => x.peer == q.peer && x.seq == q.seq && x.opcode == op) = some k) ∧
    (∃ (s : State) (w : When4) (q : HdapReq) (i : Instr) (op : Nat), s.glob.ethOn = true ∧
      ((op = 1 ∧ ((∃ len, i = .hdapRead w q len) ∨ (∃ len, i = .hdapReadContinue w q len))) ∨
       (op = 2 ∧ ∃ data, i = .hdapWrite w q data ∧ ¬ (q.ix = 0x2800 ∧ q.sub = 9 ∧ data = [1])) ∨
       (op = 3 ∧ (∃ last data, i = .hdapWriteSegment w q last data) ∧ ¬ (q.ix = 0x2800 ∧ q.sub = 9)) ∨
       i = .hdapBadDatagram w.ns (.reserved q op)) ∧
      s.glob.eth.kept.find? (fun x => x.peer == q.peer && x.seq == q.seq && x.opcode == op) = none) :=
  ⟨⟨sKept 1, w4, ⟨⟨1, 2⟩, 7, 9744, 6, 0⟩, .hdapRead w4 ⟨⟨1, 2⟩, 7, 9744, 6, 0⟩ 4, 1, ⟨⟨1, 2⟩, 7, 1, [9]⟩,
    by decide +kernel, .inl ⟨rfl, .inl ⟨4, rfl⟩⟩, by decide +kernel⟩,
   ⟨sKept 1, w4, ⟨⟨1, 2⟩, 7, 9744, 6, 0⟩, .hdapWrite w4 ⟨⟨1, 2⟩, 7, 9744, 6, 0⟩ [5], 2,
    by decide +kernel, .inr (.inl ⟨rfl, [5], rfl, by decide⟩), by decide +kernel⟩⟩
/-- The other forms a kept response answers: a continued read, a write, a segment and a reserved operation. -/
theorem wit_KeptResponses_forms :
    ∀ op ∈ [1, 2, 3, 9], (sKept op).glob.ethOn = true ∧
      ((sKept op).glob.eth.kept.find? (fun x => x.peer == ⟨1, 2⟩ && x.seq == 7 && x.opcode == op)).isSome = true ∧
      ((sKept op).glob.eth.kept.find? (fun x => x.peer == ⟨1, 2⟩ && x.seq == 8 && x.opcode == op)).isSome = false := by
  decide +kernel

def s_PtpCompletes_4 : State :=
  onG (fun g => let g := g.puts [(G.PtpEnable, 1), (G.EthLinkState, 2), (G.IpApplied, 5), (G.PtpProfile, 1)]; (g : Glob))
theorem wit_PtpCompletes :
    (∃ (s : State) (_ : Nat) (d : Nat) (_ : Nat) (_ : AnnounceIn), s.powered ∧ s.glob.ptpRuns = true ∧ d = s.glob.ptpDomain ∧ s.glob.ptp.parent = none ∧ s.glob.get G.PtpRole ≠ 1) ∧
    (∃ (s : State) (_ : Nat) (d : Nat) (_ : Nat) (o : Int) (a : Int) (c : Int) (f : Int), s.powered ∧ s.glob.ptpRuns = true ∧ d = s.glob.ptpDomain ∧ ((s.glob.get G.PtpPortState = 8 ∨ s.glob.get G.PtpPortState = 9)) ∧ (a - o - c - f - s.glob.geti 64 G.PtpMeanPathDelay).natAbs ≤ 1000000 ∧ (a - o - c - f - s.glob.geti 64 G.PtpMeanPathDelay).natAbs ≤ s.glob.get G.PtpSyncThreshold ∧ 15 ≤ s.glob.ptp.good) ∧
    (∃ (s : State) (_ : Nat) (d : Nat) (_ : Nat) (o : Int) (a : Int) (c : Int) (f : Int), s.powered ∧ s.glob.ptpRuns = true ∧ d = s.glob.ptpDomain ∧ ((s.glob.get G.PtpPortState = 8 ∨ s.glob.get G.PtpPortState = 9)) ∧ 1000000 < (a - o - c - f - s.glob.geti 64 G.PtpMeanPathDelay).natAbs) ∧
    (∃ (s : State) (_ : Nat) (d : Nat) (peer : Bool) (_ : Int) (_ : Int) (_ : Int) (_ : Int) (_ : Int), s.powered ∧ s.glob.ptpRuns = true ∧ d = s.glob.ptpDomain ∧ peer = s.glob.ptpPeer) ∧
    (∃ (s : State) (_ : Nat) (d : Nat) (_ : Int) (_ : Int) (_ : Int) (_ : Int) (_ : Int), s.powered ∧ s.glob.ptpRuns = true ∧ d = s.glob.ptpDomain ∧ s.glob.ptpPeer = true) ∧
    (∃ (s : State) (_ : Nat) (d : Nat) (_ : Int) (_ : Int) (_ : Int) (_ : Int) (_ : Int), s.powered ∧ s.glob.ptpRuns = true ∧ d = s.glob.ptpDomain ∧ s.glob.ptpPeer = false ∧ s.glob.get G.PtpPortState = 6) ∧
    (∃ (s : State) (ns : Nat), s.powered ∧ s.glob.ptp.parent.isSome = true ∧ s.glob.ptp.syncNs + 3 * s.glob.ptp.syncEvery ≤ ns ∧ ns < s.glob.ptp.announceNs + 3 * s.glob.ptp.announceEvery) ∧
    (∃ (s : State) (ns : Nat), s.powered ∧ s.glob.ptp.parent.isSome = true ∧ s.glob.get G.PtpRole ≠ 1 ∧ s.glob.ptp.announceNs + 3 * s.glob.ptp.announceEvery ≤ ns) ∧
    (∃ (s : State) (_ : Nat), s.powered ∧ s.glob.ptpRuns = true) ∧
    (∃ (s : State) (ns : Nat) (_ : Strobe4), s.powered ∧ s.glob.get G.PtpEnable = 1 ∧ s.glob.get G.PpsDirection = 0 ∧ s.glob.get G.PtpSynchronised = 1 ∧ (({ s.glob with nowNs := ns } : Glob).ptpNow + 10) % 1000000000 ≤ 20 ∧ s.glob.get G.EpochPending = 0) ∧
    (∃ (s : State) (ns : Nat) (e : Nat), s.powered ∧ s.glob.ptp.ppsEnd = some e ∧ e ≤ ns) :=
    ⟨⟨(onG (fun g => let g := g.puts [(G.PtpEnable, 1), (G.EthLinkState, 2), (G.IpApplied, 5)]; ({ g with mgmt := { g.mgmt with ptp := { g.mgmt.ptp with good := 0 } } } : Glob))), 9, 0, 1000, (⟨1, 2, 3, 4, 5, 2 ^ 64 + 6⟩), by decide +kernel⟩,
    ⟨(onG (fun g => let g := g.puts [(G.PtpEnable, 1), (G.EthLinkState, 2), (G.IpApplied, 5), (G.PtpPortState, 8), (G.PtpSyncThreshold, 1000)]; ({ g with mgmt := { g.mgmt with ptp := { g.mgmt.ptp with good := 15 } } } : Glob))), 9, 0, 1000, 100, 205, 5, 1, by decide +kernel⟩,
    ⟨(onG (fun g => let g := g.puts [(G.PtpEnable, 1), (G.EthLinkState, 2), (G.IpApplied, 5), (G.PtpPortState, 9), (G.PtpSyncThreshold, 1000), (G.PtpSynchronised, 1)]; ({ g with mgmt := { g.mgmt with ptp := { g.mgmt.ptp with good := 0, bad := 3, freq := 429496729, freqNs := 2 } } } : Glob))), 9, 0, 1000, 100, 2000000, 5, 1, by decide +kernel⟩,
    ⟨(onG (fun g => let g := g.puts [(G.PtpEnable, 1), (G.EthLinkState, 2), (G.IpApplied, 5)]; ({ g with mgmt := { g.mgmt with ptp := { g.mgmt.ptp with good := 0 } } } : Glob))), 9, 0, false, 1, 50, 60, 100, (-7), by decide +kernel⟩,
    ⟨s_PtpCompletes_4, 9, s_PtpCompletes_4.glob.ptpDomain, 1, 2, 3, 4, 5, by decide +kernel⟩,
    ⟨(onG (fun g => let g := g.puts [(G.PtpEnable, 1), (G.EthLinkState, 2), (G.IpApplied, 5), (G.PtpPortState, 6)]; (g : Glob))), 9, 0, 1, 2, 3, 4, 5, by decide +kernel⟩,
    ⟨(onG (fun g => let g := g.puts [(G.PtpEnable, 1), (G.EthLinkState, 2), (G.IpApplied, 5), (G.PtpSynchronised, 1), (G.PtpPortState, 9)]; ({ g with mgmt := { g.mgmt with ptp := { g.mgmt.ptp with good := 16, parent := some (⟨1, 2, 3, 4, 5, 6⟩ : Announce), syncNs := 5, syncEvery := 1, announceNs := 5, announceEvery := 100 } } } : Glob))), 9, by decide +kernel⟩,
    ⟨(onG (fun g => let g := g.puts [(G.PtpEnable, 1), (G.EthLinkState, 2), (G.IpApplied, 5), (G.PtpSynchronised, 1), (G.PtpPortState, 9)]; ({ g with mgmt := { g.mgmt with ptp := { g.mgmt.ptp with good := 16, parent := some (⟨1, 2, 3, 4, 5, 6⟩ : Announce), syncNs := 5, syncEvery := 1, announceNs := 5, announceEvery := 1 } } } : Glob))), 9, by decide +kernel⟩,
    ⟨(onG (fun g => let g := g.puts [(G.PtpEnable, 1), (G.EthLinkState, 2), (G.IpApplied, 5), (G.PtpPortState, 9)]; ({ g with mgmt := { g.mgmt with ptp := { g.mgmt.ptp with good := 0 } } } : Glob))), 9, by decide +kernel⟩,
    ⟨(onG (fun g => let g := g.puts [(G.PtpEnable, 1), (G.EthLinkState, 2), (G.IpApplied, 5), (G.PtpSynchronised, 1), (G.PpsWidth, 100)]; ({ g with mgmt := { g.mgmt with ptp := { g.mgmt.ptp with good := 0 } } } : Glob))), 1000000005, x4, by decide +kernel⟩,
    ⟨(onG (fun g => let g := g.puts [(G.PtpEnable, 1), (G.EthLinkState, 2), (G.IpApplied, 5)]; ({ g with mgmt := { g.mgmt with ptp := { g.mgmt.ptp with ppsEnd := some 7 } } } : Glob))), 7, 7, by decide +kernel⟩⟩

theorem wit_ManagementCompletes :
    (∃ (s : State) (_ : Nat), s.glob.mgmt.boot = .running ∧ s.glob.mgmtDown = false) ∧
    (∃ (s : State) (_ : Nat), s.powered ∧ s.glob.mgmtDown = true) ∧
    (∃ (s : State) (_ : When4) (ts : List Int) (vs : List Nat), s.powered ∧ ts.length = 32 ∧ vs.length = 24 ∧ (∀ x ∈ ts, -32768 ≤ x ∧ x < 32768)) ∧
    (∃ (s : State) (_ : When4) (ts : List Int) (vs : List Nat), s.powered ∧ ts.length = 32 ∧ vs.length = 24 ∧ (∀ x ∈ ts, -32768 ≤ x ∧ x < 32768) ∧ 1 ≤ s.glob.sens.hot ∧ s.glob.geti 16 G.ThermGuardSet ≤ hottest ts ∧ hottest ts < s.glob.geti 16 G.ThermCritical ∧ s.glob.geti 16 G.ThermGuardRelease ≤ hottest ts ∧ s.glob.get G.ThermGuardActive = 0) ∧
    (∃ (s : State) (_ : When4) (ts : List Int) (vs : List Nat), s.powered ∧ ts.length = 32 ∧ vs.length = 24 ∧ (∀ x ∈ ts, -32768 ≤ x ∧ x < 32768) ∧ 1 ≤ s.glob.sens.critical ∧ s.glob.geti 16 G.ThermCritical ≤ hottest ts ∧ s.glob.geti 16 G.ThermGuardRelease ≤ hottest ts ∧ s.glob.tripped = false) ∧
    (∃ (s : State) (_ : Nat), s.powered ∧ s.glob.log.phase = .copying ∧ s.glob.log.copying ≤ s.glob.log.unmirrored) ∧
    (∃ (s : State) (_ : Nat), s.powered ∧ s.glob.log.phase = .copying) ∧
    (∃ (s : State) (_ : Nat), s.powered ∧ s.glob.log.phase = .interval ∧ 0 < s.glob.log.unmirrored) ∧
    (∃ (s : State) (_ : Nat), s.powered ∧ s.glob.log.phase = .interval ∧ s.glob.log.unmirrored = 0) :=
    ⟨⟨(onG id), 9, by decide +kernel⟩,
    ⟨(onG (fun g => let g := g.puts [(G.FaultCause, 5)]; ({ g with mgmtDown := true } : Glob))), 9, by decide +kernel⟩,
    ⟨(onG id), w4, ([-4] ++ List.replicate 31 300), (List.replicate 24 900), by decide +kernel⟩,
    ⟨(onG (fun g => ({ g with mgmt := { g.mgmt with sensors := { g.mgmt.sensors with hot := 1 } } } : Glob))), w4, (List.replicate 32 ((base.glob.geti 16 G.ThermGuardSet))), (List.replicate 24 900), by decide +kernel⟩,
    ⟨(onG (fun g => ({ g with mgmt := { g.mgmt with sensors := { g.mgmt.sensors with critical := 1 } } } : Glob))), w4, (List.replicate 32 ((base.glob.geti 16 G.ThermCritical))), (List.replicate 24 900), by decide +kernel⟩,
    ⟨(onG (fun g => ({ g with log := { g.log with phase := .copying, copying := 1, unmirrored := 2, ring := [(⟨5, 1, 0, 0, 0x1001, zeros 16⟩ : LogEntry), (⟨5, 0, 0, 0, 0x1001, zeros 16⟩ : LogEntry)] } } : Glob))), 9, by decide +kernel⟩,
    ⟨(onG (fun g => ({ g with log := { g.log with phase := .copying, copying := 1, unmirrored := 2, ring := [(⟨5, 1, 0, 0, 0x1001, zeros 16⟩ : LogEntry), (⟨5, 0, 0, 0, 0x1001, zeros 16⟩ : LogEntry)] } } : Glob))), 9, by decide +kernel⟩,
    ⟨(onG (fun g => ({ g with log := { g.log with phase := .interval, unmirrored := 2 } } : Glob))), 9, by decide +kernel⟩,
    ⟨(onG (fun g => ({ g with log := { g.log with phase := .interval } } : Glob))), 9, by decide +kernel⟩⟩

theorem wit_LogReads :
    (∃ (s : State) (_ : Nat) (p : Port) (old : List LogEntry) (new : List LogEntry), s.writes p G.LogReadData ∧ (if s.glob.get G.LogView = 1 then s.glob.log.mirror else s.glob.log.ring).reverse = old ++ new ∧ (∀ e ∈ old, seqOffset s.glob.logOldest e.seq < seqOffset s.glob.logOldest (s.glob.get G.LogReadSequence)) ∧ (∀ e ∈ new, seqOffset s.glob.logOldest (s.glob.get G.LogReadSequence) ≤ seqOffset s.glob.logOldest e.seq)) ∧
    (∃ (s : State) (e : LogEntry), s.glob.log.ring.getLast? = some e ∧ s.glob.get G.LogView ≠ 1) ∧
    (∃ (s : State) (e : LogEntry), s.glob.log.mirror.getLast? = some e ∧ s.glob.get G.LogView = 1) :=
    ⟨⟨(onG (fun g => let g := g.puts [(G.LogReadSequence, 6)]; ({ g with log := { g.log with ring := [(⟨5, 7, 0, 0, 0x1001, zeros 16⟩ : LogEntry), (⟨5, 6, 0, 0, 0x1001, zeros 16⟩ : LogEntry), (⟨5, 5, 0, 0, 0x1001, zeros 16⟩ : LogEntry)] } } : Glob))), 9, .eth, ([(⟨5, 5, 0, 0, 0x1001, zeros 16⟩ : LogEntry)]), ([(⟨5, 6, 0, 0, 0x1001, zeros 16⟩ : LogEntry), (⟨5, 7, 0, 0, 0x1001, zeros 16⟩ : LogEntry)]), by decide +kernel⟩,
    ⟨(onG (fun g => ({ g with log := { g.log with ring := [(⟨5, 7, 0, 0, 0x1001, zeros 16⟩ : LogEntry), (⟨5, 6, 0, 0, 0x1001, zeros 16⟩ : LogEntry)] } } : Glob))), ((⟨5, 6, 0, 0, 0x1001, zeros 16⟩ : LogEntry)), by decide +kernel⟩,
    ⟨(onG (fun g => let g := g.puts [(G.LogView, 1)]; ({ g with log := { g.log with mirror := [(⟨5, 7, 0, 0, 0x1001, zeros 16⟩ : LogEntry), (⟨5, 6, 0, 0, 0x1001, zeros 16⟩ : LogEntry)] } } : Glob))), ((⟨5, 6, 0, 0, 0x1001, zeros 16⟩ : LogEntry)), by decide +kernel⟩⟩

theorem wit_IndicatorsComplete :
    (∃ (s : State) (_ : Nat) (uv : Nat), s.powered ∧ 20000 ≤ uv ∧ uv ≤ 1750000) ∧
    (∃ (s : State) (_ : Nat) (uv : Nat), s.powered ∧ s.glob.mgmtDown = false ∧ 1750000 < uv ∧ s.glob.get G.NtcFault ≠ 1) ∧
    (∃ (s : State) (_ : Nat) (p : Port) (n : CellNo) (col : Fin 3) (v : Nat), s.writes p (indKey G.IndTarget n col) ∧ v ≤ 64512) ∧
    (∃ (s : State) (_ : Nat) (p : Port) (n : CellNo) (col : Fin 3) (v : Nat), s.writes p (indKey G.IndTarget n col) ∧ p ≠ .pcie ∧ 64512 < v) ∧
    (∃ (s : State) (_ : Nat) (p : Port) (n : CellNo) (col : Fin 3) (v : Nat), s.writes p (indKey G.IndCurveMode n col) ∧ v ≤ 3) ∧
    (∃ (s : State) (_ : Nat) (p : Port) (n : CellNo) (col : Fin 3) (v : Nat), s.writes p (indKey G.IndCurveParam n col) ∧ (((s.glob.get (indKey G.IndCurveMode n col) = 1 ∧ 250 ≤ v ∧ v ≤ 8000) ∨ (s.glob.get (indKey G.IndCurveMode n col) = 2 ∧ 1 ≤ v ∧ v ≤ 24)))) ∧
    (∃ (s : State) (_ : Nat) (_ : Fin 3), s.powered ∧ s.glob.get G.IndPolicy ≠ 1) :=
    ⟨⟨(onG id), 9, 900000, by decide +kernel⟩,
    ⟨(onG id), 9, 1750001, by decide +kernel⟩,
    ⟨(onG id), 9, .eth, 3, 2, 64512, by decide +kernel⟩,
    ⟨(onG id), 9, .eth, 3, 2, 64513, by decide +kernel⟩,
    ⟨(onG id), 9, .eth, 3, 2, 3, by decide +kernel⟩,
    ⟨(onG (fun g => let g := g.puts [(indKey G.IndCurveMode 3 2, 1)]; (g : Glob))), 9, .eth, 3, 2, 8000, by decide +kernel⟩,
    ⟨(onG (fun g => let g := g.puts [(G.IndPolicy, 0)]; (g : Glob))), 9, 1, by decide +kernel⟩⟩

theorem wit_UpdateCompletes :
    (∃ (s : State) (_ : Nat) (p : Port), s.writes p G.ProgramControl ∧ [0, 4, 5, 6].contains s.glob.updState = true ∧ s.glob.ownedBy p = true ∧ s.glob.get G.ProfileState ≠ 2) ∧
    (∃ (s : State) (_ : Nat) (_ : Bool), s.powered ∧ s.glob.updState = 1) ∧
    (∃ (s : State) (_ : Nat) (p : Port) (data : List Byte), s.writes p G.ProgramData ∧ data.length ≤ 32768 ∧ s.glob.updState = 2 ∧ s.glob.ownedBy p = true ∧ s.glob.upd.received.length + data.length ≤ 8388608) ∧
    (∃ (s : State) (_ : Nat) (p : Port) (data : List Byte), s.writes p G.ProgramData ∧ data.length ≤ 32768 ∧ s.glob.updState = 2 ∧ s.glob.ownedBy p = true ∧ s.glob.upd.received.length + data.length ≤ 8388608) ∧
    (∃ (s : State) (_ : Nat) (p : Port) (data : List Byte) (_ : Bool), s.takes p ∧ p ≠ .pcie ∧ data.length ≤ 32768 ∧ ((s.glob.updState ≠ 2 ∨ s.glob.ownedBy p = false))) ∧
    (∃ (s : State) (_ : Nat) (p : Port), s.writes p G.ProgramControl ∧ s.glob.updState = 2 ∧ s.glob.ownedBy p = true) ∧
    (∃ (s : State) (_ : Nat), s.powered ∧ s.glob.updState = 3) ∧
    (∃ (s : State) (_ : Nat) (p : Port), s.writes p G.ProgramControl ∧ s.glob.updState = 4 ∧ s.glob.ownedBy p = true) ∧
    (∃ (s : State) (_ : Nat) (p : Port), s.writes p G.ProgramControl ∧ 1 ≤ s.glob.updState ∧ s.glob.updState ≤ 5 ∧ s.glob.ownedBy p = true) ∧
    (∃ (s : State) (ns : Nat) (r : Nat), s.glob.mgmt.boot = .running ∧ s.glob.upd.trial = true ∧ ns ≤ s.glob.upd.startNs + 10000000000 ∧ s.glob.get G.RunningSlot = s.glob.upd.preferred.val ∧ (s.glob.upd.slots.get s.glob.upd.preferred).rollback = r ∧ s.glob.upd.counter < r) ∧
    (∃ (s : State) (ns : Nat), s.glob.mgmt.boot = .running ∧ s.glob.upd.trial = true ∧ ns ≤ s.glob.upd.startNs + 10000000000 ∧ s.glob.get G.RunningSlot = s.glob.upd.preferred.val ∧ (s.glob.upd.slots.get s.glob.upd.preferred).rollback ≤ s.glob.upd.counter) :=
    ⟨⟨(onG id), 9, .eth, by decide +kernel⟩,
    ⟨(onG (fun g => let g := g.puts [(G.ProgramStatus, 1)]; ({ g with mgmt := { g.mgmt with update := { g.mgmt.update with owner := some .eth } } } : Glob))), 9, true, by decide +kernel⟩,
    ⟨(onG (fun g => let g := g.puts [(G.ProgramStatus, 2)]; ({ g with mgmt := { g.mgmt with update := { g.mgmt.update with owner := some .eth } } } : Glob))), 9, .eth, ([1, 2]), by decide +kernel⟩,
    ⟨(onG (fun g => let g := g.puts [(G.ProgramStatus, 2)]; ({ g with mgmt := { g.mgmt with update := { g.mgmt.update with owner := some .eth } } } : Glob))), 9, .eth, ([1, 2]), by decide +kernel⟩,
    ⟨(onG (fun g => let g := g.puts [(G.ProgramStatus, 2)]; ({ g with mgmt := { g.mgmt with update := { g.mgmt.update with owner := some .eth } } } : Glob))), 9, .can, ([1, 2]), true, by decide +kernel⟩,
    ⟨(onG (fun g => let g := g.puts [(G.ProgramStatus, 2)]; ({ g with mgmt := { g.mgmt with update := { g.mgmt.update with owner := some .eth } } } : Glob))), 9, .eth, by decide +kernel⟩,
    ⟨(onG (fun g => let g := g.puts [(G.ProgramStatus, 3)]; ({ g with mgmt := { g.mgmt with update := { g.mgmt.update with owner := some .eth } } } : Glob))), 9, by decide +kernel⟩,
    ⟨(onG (fun g => let g := g.puts [(G.ProgramStatus, 4)]; ({ g with mgmt := { g.mgmt with update := { g.mgmt.update with owner := some .eth } } } : Glob))), 9, .eth, by decide +kernel⟩,
    ⟨(onG (fun g => let g := g.puts [(G.ProgramStatus, 5)]; ({ g with mgmt := { g.mgmt with update := { g.mgmt.update with owner := some .eth } } } : Glob))), 9, .eth, by decide +kernel⟩,
    ⟨(onG (fun g => let g := g.puts [(G.RunningSlot, 1)]; ({ g with mgmt := { g.mgmt with update := { g.mgmt.update with trial := true, startNs := 5, preferred := 1, slots := #v[⟨true, [], 0⟩, ⟨true, [], 5⟩] } } } : Glob))), 9, 5, by decide +kernel⟩,
    ⟨(onG (fun g => let g := g.puts [(G.RunningSlot, 1)]; ({ g with mgmt := { g.mgmt with update := { g.mgmt.update with trial := true, startNs := 5, preferred := 1, slots := #v[⟨true, [], 0⟩, ⟨true, [], 0⟩] } } } : Glob))), 9, by decide +kernel⟩⟩

theorem wit_ProfilesComplete :
    (∃ (s : State) (_ : Nat) (v : Nat) (p : Port), s.writes p G.ProfileStore ∧ s.glob.get G.ProfileState ≠ 2 ∧ s.glob.prof.jobs = [] ∧ v ≤ 3) ∧
    (∃ (s : State) (_ : Nat) (v : Nat) (p : Port) (j : ProfileJob) (js : List ProfileJob), s.writes p G.ProfileStore ∧ s.glob.get G.ProfileState ≠ 2 ∧ s.glob.prof.jobs = j :: js ∧ v ≤ 3) ∧
    (∃ (s : State) (_ : Nat) (i : Fin 4) (x : Profile), s.powered ∧ s.glob.get G.ProfileState ≠ 2 ∧ s.glob.prof.jobs = [.store i x]) ∧
    (∃ (s : State) (_ : Nat) (v : Nat) (p : Port), s.writes p G.ProfileErase ∧ s.glob.get G.ProfileState ≠ 2 ∧ s.glob.prof.jobs = [] ∧ v ≤ 3) ∧
    (∃ (s : State) (_ : Nat) (v : Nat) (p : Port) (j : ProfileJob) (js : List ProfileJob), s.writes p G.ProfileErase ∧ s.glob.get G.ProfileState ≠ 2 ∧ s.glob.prof.jobs = j :: js ∧ v ≤ 3) ∧
    (∃ (s : State) (_ : Nat) (i : Fin 4), s.powered ∧ s.glob.get G.ProfileState ≠ 2 ∧ s.glob.prof.jobs = [.erase i]) ∧
    (∃ (s : State) (_ : Nat) (_ : Nat) (p : Port), s.takes p ∧ p ≠ .pcie ∧ s.glob.get G.ProfileState = 2) ∧
    (∃ (s : State) (_ : Nat) (v : Nat) (p : Port), s.writes p G.ProfileActivate ∧ p ≠ .pangobor ∧ s.glob.get G.ProfileState ≠ 2 ∧ v ≤ 3 ∧ (s.glob.profile (Fin.ofNat 4 v)).corrupt = false ∧ (∀ x ∈ (s.glob.profile (Fin.ofNat 4 v)).entries, 256 * x.1 + x.2.1 ≠ G.ProfileState)) ∧
    (∃ (s : State) (_ : Nat) (v : Nat) (p : Port), s.writes p G.ProfileActivate ∧ s.glob.get G.ProfileState ≠ 2 ∧ v ≤ 3 ∧ (s.glob.profile (Fin.ofNat 4 v)).corrupt = false ∧ (s.glob.profile (Fin.ofNat 4 v)).valid = false ∧ (s.glob.profile (Fin.ofNat 4 v)).entries = []) ∧
    (∃ (s : State) (_ : Nat) (v : Nat) (p : Port), s.writes p G.ProfileActivate ∧ s.glob.get G.ProfileState ≠ 2 ∧ v ≤ 3 ∧ s.glob.mgmtDown = false ∧ (s.glob.profile (Fin.ofNat 4 v)).corrupt = true) ∧
    (∃ (s : State) (_ : When4), s.glob.get G.ProfileState = 2 ∧ s.glob.mgmtDown = false ∧ (∀ n, s.glob.prof.phases.get n = .done)) :=
    ⟨⟨(onG id), 9, 2, .eth, by decide +kernel⟩,
    ⟨(onG (fun g => let g := g.puts [(G.ProfileState, 3)]; ({ g with mgmt := { g.mgmt with profiles := { g.mgmt.profiles with jobs := [.erase 2] } } } : Glob))), 9, 1, .eth, (.erase 2), [], by decide +kernel⟩,
    ⟨(onG (fun g => let g := g.puts [(G.ProfileState, 1)]; ({ g with mgmt := { g.mgmt with profiles := { g.mgmt.profiles with jobs := [.store 2 ⟨false, false, [(8704, 9, [2])], [], []⟩], slots := g.mgmt.profiles.slots.set 2 ⟨false, false, [(8704, 9, [2])], [], []⟩ } } } : Glob))), 9, 2, (⟨false, false, [(8704, 9, [2])], [], []⟩), by decide +kernel⟩,
    ⟨(onG (fun g => ({ g with mgmt := { g.mgmt with profiles := { g.mgmt.profiles with slots := g.mgmt.profiles.slots.set 1 ⟨true, false, [], [], []⟩ } } } : Glob))), 9, 1, .eth, by decide +kernel⟩,
    ⟨(onG (fun g => let g := g.puts [(G.ProfileState, 1)]; ({ g with mgmt := { g.mgmt with profiles := { g.mgmt.profiles with jobs := [.store 2 ⟨false, false, [(8704, 9, [2])], [], []⟩], slots := g.mgmt.profiles.slots.set 1 ⟨true, false, [], [], []⟩ } } } : Glob))), 9, 1, .eth, (.store 2 ⟨false, false, [(8704, 9, [2])], [], []⟩), [], by decide +kernel⟩,
    ⟨(onG (fun g => let g := g.puts [(G.ProfileState, 3)]; ({ g with mgmt := { g.mgmt with profiles := { g.mgmt.profiles with jobs := [.erase 1], slots := g.mgmt.profiles.slots.set 1 ⟨true, false, [], [], []⟩ } } } : Glob))), 9, 1, by decide +kernel⟩,
    ⟨(onG (fun g => let g := g.puts [(G.ProfileState, 2)]; ({ g with mgmt := { g.mgmt with profiles := { g.mgmt.profiles with jobs := [] } } } : Glob))), 9, 1, .eth, by decide +kernel⟩,
    ⟨(onG (fun g => ({ g with mgmt := { g.mgmt with profiles := { g.mgmt.profiles with slots := g.mgmt.profiles.slots.set 1 ⟨true, false, [(9744, 6, [5])], [], []⟩ } } } : Glob))), 9, 1, .eth, by decide +kernel⟩,
    ⟨(onG id), 9, 1, .eth, by decide +kernel⟩,
    ⟨(onG (fun g => ({ g with mgmt := { g.mgmt with profiles := { g.mgmt.profiles with slots := g.mgmt.profiles.slots.set 1 ⟨false, true, [], [], []⟩ } } } : Glob))), 9, 1, .eth, by decide +kernel⟩,
    ⟨(onG (fun g => let g := g.puts [(G.ProfileState, 2)]; ({ g with mgmt := { g.mgmt with profiles := { g.mgmt.profiles with current := 2 } } } : Glob))), w4, by decide +kernel⟩⟩

theorem wit_LifeCycleCompletes :
    (∃ (s : State) (_ : Nat) (p : Port), s.takes p ∧ s.glob.bootRom = false ∧ s.glob.mgmtDown = false ∧ s.glob.lifeState = 0 ∧ s.glob.lifeBusy = false ∧ (pointOf (s.glob.dom G.OwnerKey [])).isSome = true) ∧
    (∃ (s : State) (_ : Nat) (p : Port) (st : Nat), s.takes p ∧ s.glob.bootRom = false ∧ s.glob.mgmtDown = false ∧ s.glob.lifeState = st ∧ ((st = 1 ∨ st = 3)) ∧ s.glob.lifeBusy = false) ∧
    (∃ (s : State) (_ : Nat) (p : Port), s.takes p ∧ s.glob.bootRom = false ∧ s.glob.mgmtDown = false ∧ s.glob.lifeState = 2 ∧ s.glob.lifeBusy = false ∧ s.glob.tokenFault 3 = 0) ∧
    (∃ (s : State) (_ : Nat) (p : Port), s.takes p ∧ s.glob.bootRom = false ∧ s.glob.mgmtDown = false ∧ s.glob.lifeState = 0 ∧ s.glob.lifeBusy = false) ∧
    (∃ (s : State) (_ : Nat) (p : Port) (st : Nat), s.takes p ∧ s.glob.bootRom = false ∧ s.glob.mgmtDown = false ∧ s.glob.lifeState = st ∧ 1 ≤ st ∧ st ≤ 3 ∧ s.glob.lifeBusy = false ∧ s.glob.tokenFault 4 = 0) ∧
    (∃ (s : State) (_ : Nat) (p : Port), s.takes p ∧ p ≠ .pcie ∧ s.glob.bootRom = false ∧ s.glob.lifeReason 1 ≠ 0) ∧
    (∃ (s : State) (_ : Nat) (p : Port), s.takes p ∧ p ≠ .pcie ∧ s.glob.bootRom = false ∧ s.glob.lifeReason 2 ≠ 0) ∧
    (∃ (s : State) (_ : Nat) (p : Port), s.takes p ∧ p ≠ .pcie ∧ s.glob.bootRom = false ∧ s.glob.lifeReason 3 ≠ 0) ∧
    (∃ (s : State) (_ : Nat) (p : Port), s.takes p ∧ p ≠ .pcie ∧ s.glob.bootRom = false ∧ s.glob.lifeReason 4 ≠ 0) ∧
    (∃ (s : State) (ns : Nat) (e : Nat), s.glob.mgmt.life.sessionEnd = some e ∧ e ≤ ns ∧ s.glob.mgmtDown = false) :=
    ⟨⟨(onG (fun g => ({ g with regs := [], doms := [(G.OwnerKey, beBytes 97 0x4dba23634c080c17077ff7185a072e75ccf7eaf2c87097a4ba83dd1140af6c2f0e322b21ad05b136edd95383c29f116d7a6631a3a31c88afff211c8d3f4f1f29a8b3b8ca573551ce3241fe6c74deae457b35c46191a23eff234d59f72fe04ac1a)], mgmt := { g.mgmt with life := { g.mgmt.life with fused := 0 } } } : Glob))), 9, .eth, by decide +kernel⟩,
    ⟨(onG (fun g => ({ g with regs := [], doms := [], mgmt := { g.mgmt with life := { g.mgmt.life with fused := 1 } } } : Glob))), 9, .eth, 1, by decide +kernel⟩,
    ⟨(onG (fun g => ({ g with regs := [(G.SerialNumber, 0x01020304)], doms := [(G.OwnerKey, beBytes 97 0x494c9307e3b9621b2ad876cc80ab1f5ec3dad54a4bd65765a7bb15de01a3357c9477f88a31a048d7621b3357bdc819bc1c0c8c30bf24826d386d9a10f3d942ce010a2d9fe485818e1d57dc6668448eb1e39b1efce94fe0df86641efcef9f8e0a3), (G.LifeCycleToken, beBytes 104 0x30000003c000000bf28446334cdc2fab5a2de80936d6095c1e7fe4bb9f9f0f4bf9e0b0cc84391985db667df6b3da71574489973d912dc38bf28446334cdc2fab5a2de80936d6095c1e7fe4bb9f9f0f4bf9e0b0cc84391985db667df6b3da71574489973d912dc38)], mgmt := { g.mgmt with life := { g.mgmt.life with fused := 2, nonce := (List.range 32).map (BitVec.ofNat 8) } } } : Glob))), 9, .eth, by decide +kernel⟩,
    ⟨(onG (fun g => ({ g with regs := [], doms := [], mgmt := { g.mgmt with life := { g.mgmt.life with fused := 0 } } } : Glob))), 9, .eth, by decide +kernel⟩,
    ⟨(onG (fun g => ({ g with regs := [(G.SerialNumber, 0x01020304)], doms := [(G.OwnerKey, beBytes 97 0x40db6f19ba54c2029545364a476023ba6fdc1d32736cbe5d0705c0dee700e3beacc9ff958fb2dd33c09707541c18196ea8085c07b4ace6242e4f54a73e60089ecd9d6596b533c086011e7a8a834f805ff74cbc76783774f6221eee21d126e056d), (G.LifeCycleToken, beBytes 104 0x40000000000000031d9ec37495c23249cf08b6d6c07e1c613da4cb2e71dbc4347bb10a95b19829228682662ab394d367880b39b72cb0c32bb48a4126dc9610c34502e79cead4b42069e1990f7b4941647808e8f16829f70483415ed143389641b72f77b041c7508)], mgmt := { g.mgmt with life := { g.mgmt.life with fused := 1, nonce := (List.range 32).map (BitVec.ofNat 8) } } } : Glob))), 9, .eth, 1, by decide +kernel⟩,
    ⟨(onG (fun g => { g with mgmt := { g.mgmt with life := { g.mgmt.life with fused := 1 } } })), 9, .eth, by decide +kernel⟩,
    ⟨(onG (fun g => { g with mgmt := { g.mgmt with life := { g.mgmt.life with fused := 0 } } })), 9, .eth, by decide +kernel⟩,
    ⟨(onG (fun g => { g with mgmt := { g.mgmt with life := { g.mgmt.life with fused := 0 } } })), 9, .can, by decide +kernel⟩,
    ⟨(onG (fun g => g.puts [(G.ProfileState, 2)])), 9, .eth, by decide +kernel⟩,
    ⟨(onG (fun g => ({ g with regs := [], doms := [], mgmt := { g.mgmt with life := { g.mgmt.life with fused := 2, sessionEnd := some 7 } } } : Glob))), 9, 7, by decide +kernel⟩⟩

theorem wit_ResetsComplete :
    (∃ (s : State) (_ : Nat) (_ : Nat) (p : Port), s.takes p ∧ s.glob.bootRom = false) ∧
    (∃ (s : State) (n : CellNo) (_ : When), s.live n ∧ s.glob.get (G.WipeState + n.val) = 1) ∧
    (∃ (s : State) (_ : Nat) (n : CellNo), s.glob.mgmtDown = false ∧ s.wipeEnds n = true ∧ (s.cell n).anyFailed = false) ∧
    (∃ (s : State) (_ : Nat) (p : Port) (_ : Fin 4), s.takes p ∧ s.glob.bootRom = false) ∧
    (∃ (s : State) (_ : Nat) (low : Nat) (_ : Fin 4), s.powered ∧ 10000 ≤ low) ∧
    (∃ (_ : State) (_ : Nat) (low : Nat) (_ : Fin 4), low < 1000) ∧
    (∃ (s : State) (_ : Nat) (_ : Fin 4), s.powered ∧ s.glob.hst.perst = false ∧ s.glob.get G.HostResetScope = 1) ∧
    (∃ (s : State) (_ : Nat) (_ : Fin 4), s.powered ∧ s.glob.hst.perst = false ∧ s.glob.get G.HostResetScope = 0 ∧ (∀ n, (s.cell n).dma.unsent = [] ∧ ∀ k, (s.cell n).hostReading k = false)) ∧
    (∃ (s : State) (_ : Nat), s.glob.hst.perst = true) ∧
    (∃ (s : State) (_ : Nat) (sel : Fin 4), s.glob.mgmt.boot ≠ .running ∧ s.glob.bootRom = false ∧ s.glob.flashShort = false ∧ s.glob.tripped = false ∧ s.glob.mgmt.tap.instr.isTest = false ∧ s.glob.upd.trial = false ∧ s.glob.upd.bootable s.glob.upd.preferred = true ∧ s.glob.profile sel = emptyProfile) ∧
    (∃ (s : State) (_ : Nat) (_ : Nat), s.powered ∧ s.glob.mgmt.tap.instr.isTest = false) ∧
    (∃ (s : State) (_ : Nat) (_ : Nat), s.powered ∧ s.glob.mgmt.tap.instr.isTest = false) ∧
    (∃ (s : State) (_ : Nat) (_ : Nat), s.powered ∧ s.glob.mgmt.tap.instr.isTest = false) ∧
    (∃ (s : State) (_ : Nat), s.powered ∧ s.glob.mgmt.tap.instr.isTest = false) ∧
    (∃ (s : State) (_ : Nat), s.powered ∧ s.glob.mgmt.tap.instr.isTest = false) ∧
    (∃ (s : State) (_ : Nat), s.powered ∧ s.glob.mgmt.tap.instr.isTest = false) ∧
    (∃ (s : State) (_ : Nat), s.powered ∧ s.glob.mgmt.tap.instr.isTest = false) ∧
    (∃ (s : State) (_ : Nat) (_ : Nat) (_ : Nat), s.powered ∧ s.glob.mgmt.tap.instr.isTest = false) ∧
    (∃ (s : State) (_ : Nat), s.powered ∧ s.glob.mgmt.tap.instr.isTest = false) ∧
    (∃ (s : State) (_ : Nat), s.glob.mgmt.boot = .running ∧ s.glob.tripped = false ∧ s.glob.mgmt.tap.instr.isTest = true) ∧
    (∃ (s : State) (_ : Nat), s.glob.mgmt.boot = .running ∧ s.glob.tripped = false ∧ s.glob.mgmt.tap.instr.isTest = true) ∧
    (∃ (s : State) (_ : Nat), s.glob.mgmt.boot = .running ∧ s.glob.tripped = false ∧ s.glob.mgmt.tap.instr.isTest = true) :=
    ⟨⟨(onG id), 9, 5, .eth, by decide +kernel⟩,
    ⟨({ on0 (fun c => { c.run with cap := { c.cap with memory := [(3, 7)] } }) with glob := base.glob.puts [(G.WipeState, 1)] }), 0, (t0 9), by decide +kernel⟩,
    ⟨({ on0 (fun c => let c := c.run.puts [(K.CapacityStooks, 10)]; { c with rst := [(K.MemFitted, 1)], mem := { c.mem with up := true, memory := [(3, 7), (185, 9)] } }) with glob := base.glob.puts [(G.WipeState, 2)] }), 9, 0, by decide +kernel⟩,
    ⟨(onG id), 9, .eth, 0, by decide +kernel⟩,
    ⟨(onG id), 9, 10000, 0, by decide +kernel⟩,
    ⟨(onG id), 9, 999, 0, by decide +kernel⟩,
    ⟨(onG (fun g => let g := g.puts [(G.HostResetScope, 1)]; (g : Glob))), 9, 0, by decide +kernel⟩,
    ⟨(onG (fun g => let g := g.puts [(G.HostResetScope, 0), (G.LinkSpeed, 4)]; (g : Glob))), 9, 0, by decide +kernel⟩,
    ⟨(onG (fun g => ({ g with hst := { g.hst with perst := true } } : Glob))), 9, by decide +kernel⟩,
    ⟨State.reset, 9, 1, by decide +kernel⟩,
    ⟨(on0 (fun c => c.run)), 9, 44, by decide +kernel⟩,
    ⟨(on0 (fun c => c.run)), 9, 44, by decide +kernel⟩,
    ⟨(on0 (fun c => c.run)), 9, 44, by decide +kernel⟩,
    ⟨(on0 (fun c => c.run)), 9, by decide +kernel⟩,
    ⟨(on0 (fun c => c.run)), 9, by decide +kernel⟩,
    ⟨(on0 (fun c => c.run)), 9, by decide +kernel⟩,
    ⟨(on0 (fun c => c.run)), 9, by decide +kernel⟩,
    ⟨(on0 (fun c => c.run)), 9, 44, 55, by decide +kernel⟩,
    ⟨(on0 (fun c => c.run)), 9, by decide +kernel⟩,
    ⟨({ State.reset with glob := { State.reset.glob with mgmt := { State.reset.glob.mgmt with boot := .running, tap := ⟨.extest, 0, 0⟩ } } }), 9, by decide +kernel⟩,
    ⟨({ State.reset with glob := { State.reset.glob with mgmt := { State.reset.glob.mgmt with boot := .running, tap := ⟨.extest, 0, 0⟩ } } }), 9, by decide +kernel⟩,
    ⟨({ State.reset with glob := { State.reset.glob with mgmt := { State.reset.glob.mgmt with boot := .running, tap := ⟨.extest, 0, 0⟩ } } }), 9, by decide +kernel⟩⟩

theorem wit_StepTakesTheFront : ∃ s : State, s.pending = [] := ⟨base, rfl⟩

/-- What a command leaves, for the witnesses that need the state after it. -/
def after (i : Instr) (s : State) : State := match exec i s with | .next t => t | _ => s
def sWipe : State := { on0 (fun c => c.run) with glob := base.glob.puts [(G.WipeState, 2)] }
def sWarm (hot cool active : Nat) : State :=
  onG (fun g => { g.puts [(G.ThermGuardSet, 1000), (G.ThermGuardRelease, 800), (G.ThermCritical, 2000), (G.ThermGuardActive, active)] with
    mgmt := { g.mgmt with sensors := { g.mgmt.sensors with hot := hot, cool := cool } } })
theorem wit_CellsAreIndependent :
    (∃ (s t : State) (i : Instr) (n m : CellNo), i.cellOf = some n ∧ m ≠ n ∧ exec i s = .next t) ∧
    (∃ (s t : State) (ns mask : Nat) (p : Port) (m : CellNo), bit mask m.val = false ∧
      exec (.cellResetRequest ns p mask) s = .next t) ∧
    (∃ (s t : State) (ns mask : Nat) (m : CellNo), bit mask m.val = false ∧ exec (.wipeDone ns mask) s = .next t) ∧
    (∃ (s : State) (_ : When4) (ts : List Int) (_ : List Nat), s.powered ∧ ts.length = 32 ∧ (∀ x ∈ ts, -32768 ≤ x ∧ x < 32768) ∧
      1 ≤ s.glob.sens.hot ∧ s.glob.geti 16 G.ThermGuardSet ≤ hottest ts ∧ hottest ts < s.glob.geti 16 G.ThermCritical ∧
      s.glob.geti 16 G.ThermGuardRelease ≤ hottest ts ∧ s.glob.get G.ThermGuardActive = 0) ∧
    (∃ (s : State) (_ : When4) (ts : List Int) (_ : List Nat), s.powered ∧ ts.length = 32 ∧ (∀ x ∈ ts, -32768 ≤ x ∧ x < 32768) ∧
      99 ≤ s.glob.sens.cool ∧ hottest ts < s.glob.geti 16 G.ThermGuardRelease ∧ hottest ts < s.glob.geti 16 G.ThermGuardSet ∧
      hottest ts < s.glob.geti 16 G.ThermCritical ∧ s.glob.get G.ThermGuardActive = 1 ∧ s.glob.tripped = false) :=
  ⟨⟨on0 (fun c => c.run), _, .synthLock 0 (t0 9) [], 0, 1, by decide, by decide, rfl⟩,
   ⟨base, _, 9, 5, .eth, 1, by decide, rfl⟩,
   ⟨sWipe, _, 9, 1, 1, by decide, rfl⟩,
   ⟨sWarm 1 0 0, w4, List.replicate 32 1500, [], by decide +kernel⟩,
   ⟨sWarm 0 99 1, w4, List.replicate 32 500, [], by decide +kernel⟩⟩

theorem wit_StepKeepsMemories :
    ∃ s t : State, s.memoriesWf = true ∧ step s = .next t :=
  ⟨{ onN 2 (fun c => { c.run with cap := { c.cap with memory := [(3, 7)] } }) with pending := [.synthLock 2 (t0 9) []] }, _, by decide +kernel, rfl⟩

theorem wit_StepKeepsBounds :
    ∃ s t : State, s.logBounded = true ∧ s.rollbackBounded = true ∧ step s = .next t :=
  ⟨{ base with pending := [.wipeDone 9 1] }, _, by decide +kernel, by decide +kernel, rfl⟩


/-! Well-formedness: one command that each check refuses, and one that passes -/

theorem test_wf_passes : (Instr.dictWrite w4 .eth 0x2610 6 [1, 0, 0, 0] [] .write).wellFormed = true := by decide
theorem test_wf_entry : (Instr.dictWrite w4 .eth 65536 6 [1] [] .write).illFormed = some .entry := by decide
theorem test_wf_slot : (Instr.dictWrite w4 .pcie 0x2610 6 [1, 2] [true] .write).illFormed = some .slot := by decide
theorem test_wf_tlp : (Instr.bar2Read 0 (t0 0) 0 0).illFormed = some .tlp := by decide
theorem test_wf_value : (Instr.cellResetRequest 0 .eth 256).illFormed = some .value := by decide
theorem test_wf_frame : (Instr.downloadSegment w4 false false []).illFormed = some .frame := by decide
theorem test_wf_datagram : (Instr.hdapRead w4 ⟨⟨1, 2⟩, 2 ^ 32, 0, 0, 0⟩ 4).illFormed = some .datagram := by decide
theorem test_wf_sensors : (Instr.sensorSample w4 [] []).illFormed = some .sensors := by decide
theorem test_wf_source : (Instr.sourceLost 0 (t0 0) 5).illFormed = some .source := by decide
theorem test_wf_symbols : (Instr.symbolMatch 0 (t0 0) [⟨3, 10⟩] 4 [1, 2, 3, 4, 5, 6, 7, 8]).illFormed = some .symbols := by decide
theorem test_wf_symbols_block : (Instr.cdrBlockEnd 0 (t0 0) [⟨4, 11⟩] 4 [1, 2, 3, 4, 5, 6, 7, 8] ⟨4, 12⟩).illFormed = some .symbols := by decide

/-! The queue and the table's words -/

/-- No row of the table has bits, so no word spells a command, and the hook leaves the state as it is. -/
theorem test_decode_no_bits : decodeTableWord 0 0 = none ∧ decodeTableWord 32 0xFFFFFFFF = none := by decide
theorem test_reset_keeps_form : State.reset.memoriesWf = true ∧ State.reset.logBounded = true ∧ State.reset.rollbackBounded = true := by
  decide +kernel

/-! Worked examples and fixed values of the spec, and known answers of the standards it names -/

/-- 08: x(j) = 3,200 and x(j + 1) = 16,000; a level of 6,400 gives the fraction 64. -/
theorem test_crossing_fraction : crossFrac 6400 3200 16000 = 64 := by decide
/-- 10: stook 19,088,743 lies in channel 3, bank 9. -/
theorem test_stook_address : channelOf 19088743 = 3 ∧ bankOf 19088743 = 9 := by decide
/-- 10: with RL = 12 a fixed read takes 284 memory cycles. -/
theorem test_fixed_latency : ({ Cell.init with rst := [(K.MemReadLatency, 12)] } : Cell).fixedLatency = 284 := by decide +kernel
/-- 10: payload symbol 5 read with its bits XOR 0011b is corrected, and names symbol 5. -/
theorem test_symbol_corrected :
    decodeStook (stookOf (List.replicate 16 0x5A) ^^^ (3 * 16 ^ 5)) = .corrected 5 (stookOf (List.replicate 16 0x5A)) := by decide +kernel
/-- 12: F = 65,536 and c = 1,000 give index 159 under the log curve with K = 16, and 38 under the gamma curve with 2.2. -/
theorem test_density_curves : exactIndex 1 16 65536 1000 = 159 ∧ exactIndex 0 2200 65536 1000 = 38 := by decide +kernel
/-- 03: 250,000 µV in the 800 mV range is DAC code 20,480; in the 250 mV range it asks for 65,536. -/
theorem test_offset_code : offsetCode 5 250000 = 20480 ∧ offsetCode 2 250000 = 65536 := by decide
/-- 02: in the window [1,000, 2,000) a trigger at 1,999 with fraction 255 is inside, one at 1,000 too, one at 2,000 outside. -/
theorem test_window_half_open :
    let c : Cell := { Cell.init with exe := { Cell.init.exe with windows := [⟨1, 1000 * 2 ^ 32, some (2000 * 2 ^ 32)⟩] } }
    c.inWindow 1 (1999 * 2 ^ 32 + 255 * 2 ^ 24) = true ∧ c.inWindow 1 (1000 * 2 ^ 32) = true ∧
    c.inWindow 1 (2000 * 2 ^ 32) = false ∧ c.inWindow 1 (1000 * 2 ^ 32 - 1) = false := by decide +kernel
/-- The published digests of "abc". -/
theorem test_digests :
    beNat (sha256 [0x61, 0x62, 0x63]) = 0xba7816bf8f01cfea414140de5dae2223b00361a396177a9cb410ff61f20015ad ∧
    beNat (sha384 [0x61, 0x62, 0x63]) =
      0xcb00753f45a35e8bb5a03d699ac65007272c32ab0eded1631a8b605a43ff5bed8086072ba1e7cc2358baeca134c825a7 := by decide +kernel

end Sys2Proof.Machine
end

section
/-! The cells are independent (R22): whatever a command of one cell does, every other cell is as before, and only the thermal guard acts on
all four together (R449). -/

namespace Sys2Proof.Machine

/-! ### A command of one cell keeps the other cells -/

/-- Whatever state the outcome goes on with, the cells but `n` are as in `s` (R22). -/
def Out.keepsOthers (o : Out) (s : State) (n : CellNo) : Prop := ∀ t, o = .next t → s.keepsOthers t n

theorem Out.keepsOthers_next {s t : State} {n : CellNo} (h : s.keepsOthers t n) : Out.keepsOthers (.next t) s n := by
  intro u hu
  exact Host.Outcome.next.inj hu ▸ h

theorem Out.keepsOthers_fault (f : Fault) (s : State) (n : CellNo) : Out.keepsOthers (.fault f) s n :=
  fun _ ht => nomatch ht

theorem onCell_keepsOthers (s : State) (n : CellNo) (w : When) (f : Glob → Cell → Cell) : Out.keepsOthers (onCell s n w f) s n := by
  obtain ⟨t, ht, -, hcells⟩ := onCell_frame s n w f
  exact ht ▸ Out.keepsOthers_next hcells

theorem onCellRecord_keepsOthers (s : State) (n : CellNo) (w : When) (p : Port) (k : Nat) (f : Glob → Cell → Cell × Nat) :
    Out.keepsOthers (onCellRecord s n w p k f) s n := by
  obtain ⟨t, ht, -, hcells⟩ := onCellRecord_frame s n w p k f
  exact ht ▸ Out.keepsOthers_next hcells

theorem onCellPort_keepsOthers (s : State) (n : CellNo) (w : When) (p : Port) (k : Nat) (f : Glob → Cell → Except Nat Cell) :
    Out.keepsOthers (onCellPort s n w p k f) s n := by
  unfold onCellPort
  exact onCellRecord_keepsOthers _ _ _ _ _ _

theorem onEvent_keepsOthers (s : State) (n : CellNo) (w : When) (idx action : Nat) (f : Glob → Cell → Fired → Cell) :
    Out.keepsOthers (onEvent s n w idx action f) s n := by
  unfold onEvent
  exact onCell_keepsOthers _ _ _ _

theorem onFlit_keepsOthers (s : State) (n : CellNo) (w : When) (type flit : Nat) (f : Glob → Cell → Cell) :
    Out.keepsOthers (onFlit s n w type flit f) s n := by
  unfold onFlit
  exact onCell_keepsOthers _ _ _ _

/-- The cell's part of a profile activation touches that cell alone. -/
theorem State.keepsOthers_afterVerify (s : State) (n : CellNo) : s.keepsOthers (s.afterVerify n) n := by
  intro m hm
  unfold State.afterVerify
  split
  · rfl
  · split
    · exact State.cell_close_ne hm s ⟨s.glob.nowNs, (s.cell n).now⟩ _
    · rfl

theorem execImageVerifyDone_keepsOthers (n : CellNo) (w : When) (s : State) : Out.keepsOthers (execImageVerifyDone n w s) s n := by
  unfold execImageVerifyDone
  split
  · exact onCell_keepsOthers _ _ _ _
  · obtain ⟨t, ht, -, hcells⟩ := onCell_frame s n w (fun g c => c.verifyStaged g n)
    rw [ht]
    exact Out.keepsOthers_next fun m hm => (t.keepsOthers_afterVerify n m hm).trans (hcells m hm)

theorem execWipeSramDone_keepsOthers (n : CellNo) (w : When) (s : State) : Out.keepsOthers (execWipeSramDone n w s) s n := by
  unfold execWipeSramDone
  split
  · exact onCell_keepsOthers _ _ _ _
  · exact Out.keepsOthers_next fun m hm => State.cell_close_ne hm s w _

/-- A window access (R426, R470): it is malformed, or the cell refuses it and counts that, or the cell does what `f` says. -/
theorem windowAccess_keepsOthers (s : State) (n : CellNo) (w : When) (bad read : Bool) (f : Glob → Cell → Cell) :
    Out.keepsOthers (if bad then .fault .malformedTlp else if s.refusesHost n then .next (s.refuseHost n w read) else onCell s n w f)
      s n := by
  split
  · exact Out.keepsOthers_fault _ _ _
  · split
    · exact Out.keepsOthers_next fun m hm => State.cell_close_ne hm s w _
    · exact onCell_keepsOthers _ _ _ _

/-- Every command of one cell keeps the other cells (R22). -/
theorem exec_keepsOthers {i : Instr} {n : CellNo} (h : i.cellOf = some n) (s : State) : Out.keepsOthers (exec i s) s n := by
  cases i with
  | imageVerifyDone => cases h; exact execImageVerifyDone_keepsOthers _ _ _
  | wipeSramDone => cases h; exact execWipeSramDone_keepsOthers _ _ _
  | bar2Read | bar2Write | bar4Read | bar4Write => cases h; unfold exec; exact windowAccess_keepsOthers _ _ _ _ _ _
  | pulse | arm | stop | windowOpen | windowClose | segmentStart | eyeOrigin | forceTrigger | accGateOn | accGateOff =>
    cases h; unfold exec; exact onEvent_keepsOthers _ _ _ _ _ _
  | rxIdle | rxDmaData | rxRequest | rxPwrite | rxLink | rxBadFlit =>
    cases h; unfold exec; exact onFlit_keepsOthers _ _ _ _ _ _
  | stage2BankWrite | armRequest | accStart | rasterEnable | rasterCommit | patternStart =>
    cases h; unfold exec; exact onCellRecord_keepsOthers _ _ _ _ _ _
  | imageStagedWrite | swapRequest | commit | swEvent | eventCountClear | overRangeClear | recalRequest | coefSetWrite
    | bankSwapRequest | filterCountClear | triggerCountClear | forceTriggerWrite | stopWrite | armCountClear | captureCountClear
    | memWakeWrite | retrainRequest | memErrorClear | haywardCountClear | accFreeze | accResume | accClear | accCountClear
    | rasterDisable | dsiStartupWrite | rasterCountClear | channelEnable | channelDisable | channelAbort | dmaCountClear
    | portEnable | portDisable | playbackStop | portCountClear | patternStop | patternCountClear =>
    cases h; unfold exec; exact onCellPort_keepsOthers _ _ _ _ _ _
  | swathBoundary | trackerUpdate | sourceLost | sourceReturn | patternRelease | eviEdge | dreqEdge | evoPulseStart | evoPulseEnd
    | overRangeSample | legOverloadEnter | legOverloadExit | auxEdge | synthLock | synthUnlock | refActivityLoss
    | refActivityDeclared | bypassSwitch | holdoffExpiry | memPllLock | freshSwathStart | fgCalDone | placementCalDone | bgBlockEnd
    | recalDone | fadeEnd | deferredSwapStart | unitEvent | timeoutEvent | seqExpiry | unsettledSampleClear | symbolMatch
    | cdrBlockEnd | trackBlockEnd | triggerCandidate | armStartLinePulse | armedEntry | autoTimeout | segmentClose | rearmEnd
    | stopLinePulse | tdcEdge | skewRecalDone | tdcTableComplete | tdcCalIntervalExpiry | stookPack | stookQueue | stookDrain
    | segmentEntryWrite | gapEntryWrite | memBringUpDone | fixedRead | fixedReadData | openAdmit | openReadData | refresh | mr4Poll
    | selfRefreshEntry | memWake | wakeDone | scrubRead | scrubYield | retrainDone | retrainIntervalExpiry | channelFail
    | haywardGrant | grantWindowEnd | accIntake | accApply | accFrozen | accClearDone | rasterFirstFrame | frameStart | lineStart
    | vblankStart | modeSwitchEnd | commitSample | teEdge | teTimeout | cursorFetchDone | dmaRequest | moverTake | descriptorFetch
    | burstStart | burstEnd | descriptorEnd | hostCompletion | dmaCompletionTimeout | portLocked | portAligned | portUp | portDown
    | portTrainTimeout | portRetrainDelayExpiry | txFlit | liveFlitTimeout | playbackStart | playbackEnd | patternStartPulse | halt
    | play | hold | setc | loop | branch | waitTrig | waitTrigDone | waitTl | event | prefetchArrival | rasterStopped =>
    cases h; unfold exec; exact onCell_keepsOthers _ _ _ _
  | _ => cases h

/-! ### Resets and ended wipes keep the cells outside their mask -/

/-- Work on one cell after another leaves a cell as it was that none of it touches. -/
theorem State.cell_foldl_of_keeps {F : State → CellNo → State} {ns : List CellNo} {m : CellNo}
    (h : ∀ n ∈ ns, ∀ s, (F s n).cell m = s.cell m) (s : State) : (ns.foldl F s).cell m = s.cell m :=
  List.foldlRecOn (motive := fun t => t.cell m = s.cell m) ns F rfl fun t ht n hn => (h n hn t).trans ht

theorem State.keepsOthers_resetCell (s : State) (n : CellNo) : s.keepsOthers (s.resetCell n) n := by
  intro m hm
  unfold State.resetCell
  split <;> exact State.cell_setCell_ne hm s _

theorem State.cell_resetCells_outside {mask : Nat} {m : CellNo} (hm : bit mask m.val = false) (s : State) :
    (s.resetCells mask).cell m = s.cell m := by
  refine State.cell_foldl_of_keeps (fun n _ s => ?_) s
  split
  next hn => exact s.keepsOthers_resetCell n m (by rintro rfl; simp [hm] at hn)
  next => rfl

theorem cellResetRequest_keeps_outside {s t : State} {ns mask : Nat} {p : Port} {m : CellNo} (hm : bit mask m.val = false)
    (h : exec (.cellResetRequest ns p mask) s = .next t) : t.cell m = s.cell m := by
  change execCellResetRequest ns p mask s = .next t at h
  unfold execCellResetRequest at h
  split at h
  · cases h; rfl
  · split at h
    · cases h; rfl
    · cases h; exact State.cell_resetCells_outside hm _

theorem State.keepsOthers_endWipe (s : State) (n : CellNo) : s.keepsOthers (s.endWipe n) n :=
  fun _ hm => State.cell_setCell_ne hm s _

theorem wipeDone_keeps_outside {s t : State} {ns mask : Nat} {m : CellNo} (hm : bit mask m.val = false)
    (h : exec (.wipeDone ns mask) s = .next t) : t.cell m = s.cell m := by
  change execWipeDone ns mask s = .next t at h
  unfold execWipeDone at h
  dsimp only at h
  split at h
  · cases h; rfl
  · cases h
    refine State.cell_foldl_of_keeps (fun n hn s => s.keepsOthers_endWipe n m ?_) _
    rintro rfl
    simp [hm] at hn

/-! ### What a sensor sample's readings leave to the thermal guard -/

theorem Glob.get_congr {g h : Glob} (e : g.regs = h.regs) (k : Nat) : g.get k = h.get k := by simp [Glob.get, e]

@[simp] theorem Glob.get_logEntry (g : Glob) (src code sev : Nat) (d : List Byte) (k : Nat) :
    (g.logEntry src code sev d).get k = g.get k := Glob.get_congr (by simp) k

/-- Both shared regions show the thermal guard the same: the runs of samples it counts, whether the trip is set, and every entry behind
the readings but FaultCause. -/
structure Glob.SameHeat (g h : Glob) : Prop where
  hot : h.sens.hot = g.sens.hot
  critical : h.sens.critical = g.sens.critical
  cool : h.sens.cool = g.sens.cool
  tripped : h.tripped = g.tripped
  get : ∀ k, G.Voltage + 24 ≤ k → k ≠ G.FaultCause → h.get k = g.get k

theorem Glob.SameHeat.refl (g : Glob) : g.SameHeat g := ⟨rfl, rfl, rfl, rfl, fun _ _ _ => rfl⟩

theorem Glob.SameHeat.trans {g h i : Glob} (a : g.SameHeat h) (b : h.SameHeat i) : g.SameHeat i :=
  ⟨b.hot.trans a.hot, b.critical.trans a.critical, b.cool.trans a.cool, b.tripped.trans a.tripped,
    fun k hk hf => (b.get k hk hf).trans (a.get k hk hf)⟩

theorem Glob.SameHeat.guardEntries {g h : Glob} (a : g.SameHeat h) :
    h.geti 16 G.ThermGuardSet = g.geti 16 G.ThermGuardSet ∧ h.geti 16 G.ThermGuardRelease = g.geti 16 G.ThermGuardRelease ∧
    h.geti 16 G.ThermCritical = g.geti 16 G.ThermCritical ∧ h.get G.ThermGuardActive = g.get G.ThermGuardActive := by
  simp only [Glob.geti]
  exact ⟨congrArg _ (a.get _ (by decide) (by decide)), congrArg _ (a.get _ (by decide) (by decide)),
    congrArg _ (a.get _ (by decide) (by decide)), a.get _ (by decide) (by decide)⟩

theorem Glob.SameHeat.ite {g h i : Glob} {p : Prop} [Decidable p] (a : g.SameHeat h) (b : g.SameHeat i) :
    g.SameHeat (if p then h else i) := by
  split
  · exact a
  · exact b

/-- Where the entries of the readings lie. -/
theorem readings_below_faultCause :
    G.TempPoint + 32 ≤ G.Voltage ∧ G.JunctionMax < G.Voltage ∧ G.Voltage + 24 ≤ G.FaultCause := by decide

theorem Glob.SameHeat.put {g h : Glob} (a : g.SameHeat h) {k : Nat} (hk : k < G.Voltage + 24) (v : Nat) : g.SameHeat (h.put k v) := by
  have below := readings_below_faultCause
  refine a.trans ⟨rfl, rfl, rfl, ?_, fun j hj _ => Glob.get_put_ne (by omega) h v⟩
  rw [Glob.tripped, Glob.get_put_ne (by omega), Glob.tripped]

/-- New runs for the voltages leave those of the temperatures. -/
theorem Glob.SameHeat.putSensors {g h : Glob} (a : g.SameHeat h) {x : Sensors} (hot : x.hot = g.sens.hot)
    (critical : x.critical = g.sens.critical) (cool : x.cool = g.sens.cool) : g.SameHeat (h.putSensors x) :=
  ⟨hot, critical, cool, a.tripped, a.get⟩

theorem Glob.SameHeat.logEntry {g h : Glob} (a : g.SameHeat h) {src code sev : Nat} {d : List Byte} :
    g.SameHeat (h.logEntry src code sev d) := by
  refine a.trans ?_
  constructor <;> simp [Glob.sens, Glob.tripped]

/-- A change of FaultCause that keeps its bit 1. -/
theorem Glob.SameHeat.putFaultCause {g h : Glob} (a : g.SameHeat h) {v : Nat} (hv : bit v 1 = bit (h.get G.FaultCause) 1) :
    g.SameHeat (h.put G.FaultCause v) :=
  a.trans ⟨rfl, rfl, rfl, by rw [Glob.tripped, Glob.get_put_self, hv, Glob.tripped], fun _ _ hj => Glob.get_put_ne hj h v⟩

theorem bit_one_setBit_zero (v : Nat) : bit (setBit v 0) 1 = bit v 1 := by
  simp [bit, setBit, Nat.or_div_two]

theorem bit_one_clrBit_zero (v : Nat) : bit (clrBit v 0) 1 = bit v 1 := by
  unfold clrBit
  split
  next h =>
    have odd : v % 2 = 1 := by simpa [bit] using h
    have half : (v - 1) / 2 = v / 2 := by omega
    simp [bit, half]
  next => rfl

theorem Glob.SameHeat.setFault {g h : Glob} (a : g.SameHeat h) : g.SameHeat (h.setFault 0) := a.putFaultCause (bit_one_setBit_zero _)

theorem Glob.SameHeat.clrFault {g h : Glob} (a : g.SameHeat h) : g.SameHeat (h.clrFault 0) := a.putFaultCause (bit_one_clrBit_zero _)

theorem Glob.SameHeat.putTemps {g h : Glob} (a : g.SameHeat h) (ts : List Int) (i : Nat) (hi : i + ts.length ≤ 32) :
    g.SameHeat (putTemps h ts i) := by
  have below := readings_below_faultCause
  induction ts generalizing i h with
  | nil => exact a
  | cons t ts ih =>
    simp only [List.length_cons] at hi
    exact ih (a.put (by omega) _) (i + 1) (by omega)

theorem Glob.SameHeat.judgeVolt {g h : Glob} (a : g.SameHeat h) {i : Nat} (hi : i < 24) (v : Nat) : g.SameHeat (h.judgeVolt i v) := by
  have counted (ws fs : List Nat) :
      g.SameHeat ((h.put (G.Voltage + i) (v % 65536)).putSensors { h.sens with warn := ws, fault := fs }) :=
    (a.put (by omega) _).putSensors a.hot a.critical a.cool
  unfold Glob.judgeVolt
  exact .ite (.logEntry (.setFault (.ite (.logEntry (counted _ _)) (counted _ _)))) (.ite (.logEntry (counted _ _)) (counted _ _))

theorem Glob.SameHeat.judgeVolts {g h : Glob} (a : g.SameHeat h) (vs : List Nat) (i : Nat) (hi : i + vs.length ≤ 24) :
    g.SameHeat (judgeVolts h vs i) := by
  induction vs generalizing i h with
  | nil => exact a
  | cons v vs ih =>
    simp only [List.length_cons] at hi
    exact ih (a.judgeVolt (by omega) v) (i + 1) (by omega)

theorem Glob.SameHeat.judgeCalm {g h : Glob} (a : g.SameHeat h) : g.SameHeat h.judgeCalm := by
  have counted (n : Nat) : g.SameHeat (h.putSensors { h.sens with calm := n }) := a.putSensors a.hot a.critical a.cool
  unfold Glob.judgeCalm
  exact .ite (.clrFault (counted _)) (counted _)

/-- The shared region with a sample's readings taken: temperatures, then voltages (R448, R451). -/
def Glob.withReadings (g : Glob) (ts : List Int) (vs : List Nat) : Glob :=
  (judgeVolts ((putTemps g ts 0).puti 16 G.JunctionMax (hottest ts)) ((vs ++ List.replicate 24 0).take 24) 0).judgeCalm

theorem Glob.sameHeat_withReadings (g : Glob) {ts : List Int} (h : ts.length = 32) (vs : List Nat) :
    g.SameHeat (g.withReadings ts vs) := by
  have below := readings_below_faultCause
  have temps : g.SameHeat (putTemps g ts 0) := (SameHeat.refl g).putTemps ts 0 (by omega)
  exact ((temps.put (by omega) _).judgeVolts _ 0 (by simp)).judgeCalm

/-- What SENSOR_SAMPLE does with 32 temperatures within their range: the readings are taken, the guard judges, then every cell. -/
theorem exec_sensorSample (s : State) (w : When4) (ts : List Int) (vs : List Nat) (hp : s.powered) (hlen : ts.length = 32)
    (hrange : ∀ x ∈ ts, -32768 ≤ x ∧ x < 32768) :
    exec (.sensorSample w ts vs) s = .next (allCellNos.foldl (State.judgeChiplet w)
      (({ s with glob := (s.glob.at w.ns).withReadings ts vs } : State).judgeHeat w ts)) := by
  have kept : (fit 32 ts).map (satS 16) = ts := by
    have hfit : fit 32 ts = ts := by simp [fit, hlen]
    rw [hfit]
    refine (List.map_congr_left fun x hx => ?_).trans (List.map_id ts)
    obtain ⟨lo, hi⟩ := hrange x hx
    simp only [satS, id]
    omega
  change execSensorSample w ts vs s = _
  unfold execSensorSample
  rw [if_neg hp, kept]
  rfl

/-! ### The guard sets and ends the hold in every cell that is not held in reset -/

/-- Work on one cell after another, each on its own cell: what it makes of a cell, it makes of every cell of the list. -/
theorem State.foldl_each {F : State → CellNo → State} {R : Cell → Cell → Prop} (hself : ∀ s n, R (s.cell n) ((F s n).cell n))
    (hothers : ∀ (s : State) n, s.keepsOthers (F s n) n) {ns : List CellNo} (hns : ns.Nodup) {n : CellNo} (hn : n ∈ ns) (s : State) :
    R (s.cell n) ((ns.foldl F s).cell n) := by
  induction ns generalizing s with
  | nil => cases hn
  | cons a ns ih =>
    obtain ⟨ha, hns⟩ := List.nodup_cons.mp hns
    rw [List.foldl_cons]
    by_cases hna : n = a
    · subst hna
      rw [State.cell_foldl_of_keeps (fun m hm (s : State) => hothers s m n (by rintro rfl; exact ha hm)) (F s n)]
      exact hself s n
    · rw [← hothers s a n hna]
      exact ih hns ((List.mem_cons.mp hn).resolve_left hna) _

theorem mem_allCellNos (n : CellNo) : n ∈ allCellNos := by revert n; decide

theorem Glob.get_deliver_ne {k : Nat} (hl : k ≠ G.EpochLoaded) (hs : k ≠ G.EpochSkipped) (n : CellNo) (g : Glob) (m : Msg) :
    (Glob.deliver n g m).get k = g.get k := by
  cases m with
  | log => exact Glob.get_logEntry ..
  | epochLoaded => exact Glob.get_put_ne hl ..
  | epochSkipped => exact Glob.get_put_ne hs ..
  | dmaAbort => rfl

/-- Of the shared entries a cell's messages reach EpochLoaded and EpochSkipped alone. -/
theorem State.glob_get_close_ne {k : Nat} (hl : k ≠ G.EpochLoaded) (hs : k ≠ G.EpochSkipped) (s : State) (n : CellNo) (w : When)
    (c : Cell) : (s.close n w c).glob.get k = s.glob.get k :=
  List.foldlRecOn (motive := fun g : Glob => g.get k = s.glob.get k) c.out (Glob.deliver n) (b := s.glob.at w.ns) rfl
    fun g hg m _ => (Glob.get_deliver_ne hl hs n g m).trans hg

theorem State.glob_mgmt_close (s : State) (n : CellNo) (w : When) (c : Cell) : (s.close n w c).glob.mgmt = s.glob.mgmt :=
  (Glob.deliver_all_frame n c.out (s.glob.at w.ns)).1

/-- Work on one cell after another keeps of the shared region what each part of it keeps. -/
theorem State.glob_foldl_of_keeps {α : Type} {P : Glob → α} {F : State → CellNo → State} (h : ∀ s n, P (F s n).glob = P s.glob)
    (ns : List CellNo) (s : State) : P (ns.foldl F s).glob = P s.glob :=
  List.foldlRecOn (motive := fun t : State => P t.glob = P s.glob) ns F rfl fun t ht n _ => (h t n).trans ht

theorem State.glob_eachCell_of_keeps {α : Type} {P : Glob → α} (h : ∀ (s : State) n x c, P (s.close n x c).glob = P s.glob)
    (w : When4) (f : Cell → Cell) (s : State) : P (s.eachCell w f).glob = P s.glob := by
  refine State.glob_foldl_of_keeps (fun s n => ?_) allCellNos s
  dsimp only
  split
  · rfl
  · exact h ..

/-- An entry that a change of every cell makes `v` reads `v` afterwards in each cell that is not held in reset. -/
theorem State.get_eachCell {k v : Nat} {f : Cell → Cell} (hf : ∀ c, (f c).get k = v) (w : When4) (s : State) {n : CellNo}
    (hn : s.live n) : ((s.eachCell w f).cell n).get k = v := by
  refine State.foldl_each (R := fun c d => c.held = false → d.get k = v) (fun s n hlive => ?_) (fun s n m hm => ?_)
    (by decide) (mem_allCellNos n) s hn
  · rw [if_neg (by simp [hlive]), State.cell_close_self]
    exact hf _
  · split
    · rfl
    · exact State.cell_close_ne hm s _ _

theorem State.get_holdThermal (w : When4) (s : State) {n : CellNo} (hn : s.live n) :
    ((s.holdThermal w).cell n).get K.ThermalHold = 1 := by
  refine State.get_eachCell (fun c => ?_) w s hn
  rw [Cell.pulse, Cell.get_pulseAt_ne _ _ _ (by decide), Cell.get_put_self]

theorem State.get_freeThermal (w : When4) (s : State) {n : CellNo} (hn : s.live n) :
    ((s.freeThermal w).cell n).get K.ThermalHold = 0 :=
  State.get_eachCell (fun c => Cell.get_put_self c _ 0) w s hn

/-! ### The chiplet temperatures, judged after the guard, leave its hold alone -/

theorem Cell.regs_setWait (c : Cell) (a : Nat) (x : MaintWait) : (c.setWait a x).regs = c.regs := by
  unfold Cell.setWait
  split <;> rfl

theorem Cell.regs_startWait (c : Cell) (a : Nat) : (c.startWait a).regs = c.regs := by
  unfold Cell.startWait
  dsimp only
  split
  · rfl
  · exact Cell.regs_setWait ..

theorem Cell.regs_logNoWindow (c : Cell) (a : Nat) : (c.logNoWindow a).regs = c.regs := by
  unfold Cell.logNoWindow
  split
  · rfl
  · split <;> rfl

/-- An activity that becomes pending sets its pending entry and no other. -/
theorem Cell.get_setMaint_ne {j k : Nat} (h : j ≠ k) (c : Cell) (a : Nat) : (c.setMaint k a).get j = c.get j := by
  unfold Cell.setMaint
  dsimp only
  rw [Cell.get_congr ((Cell.regs_logNoWindow ..).trans (Cell.regs_startWait ..)), Cell.get_put_ne h]
  split
  · rfl
  · exact Cell.get_congr (Cell.regs_setWait ..) j

theorem Cell.get_judgePlacementTemp_ne {j : Nat} (hs : j ≠ K.SkewPending) (ht : j ≠ K.TdcPending) (c : Cell) (temp : Int) :
    (c.judgePlacementTemp temp).get j = c.get j := by
  unfold Cell.judgePlacementTemp
  dsimp only
  split
  · rfl
  · split <;> split <;> simp [Cell.get_setMaint_ne hs, Cell.get_setMaint_ne ht]

theorem State.get_judgeChiplet_ne {j : Nat} (hs : j ≠ K.SkewPending) (ht : j ≠ K.TdcPending) (w : When4) (s : State) (m n : CellNo) :
    ((s.judgeChiplet w m).cell n).get j = (s.cell n).get j := by
  unfold State.judgeChiplet
  dsimp only
  split
  · rfl
  · by_cases h : n = m
    · subst h
      rw [State.cell_close_self]
      exact Cell.get_judgePlacementTemp_ne hs ht _ _
    · rw [State.cell_close_ne h]

theorem State.get_judgeChiplets_ne {j : Nat} (hs : j ≠ K.SkewPending) (ht : j ≠ K.TdcPending) (w : When4) (s : State) (n : CellNo) :
    ((allCellNos.foldl (State.judgeChiplet w) s).cell n).get j = (s.cell n).get j :=
  List.foldlRecOn (motive := fun t => (t.cell n).get j = (s.cell n).get j) _ _ rfl
    fun t h m _ => (State.get_judgeChiplet_ne hs ht w t m n).trans h

theorem State.glob_get_judgeChiplets_ne {k : Nat} (hl : k ≠ G.EpochLoaded) (hs : k ≠ G.EpochSkipped) (w : When4) (s : State) :
    (allCellNos.foldl (State.judgeChiplet w) s).glob.get k = s.glob.get k := by
  refine State.glob_foldl_of_keeps (P := (·.get k)) (fun s n => ?_) allCellNos s
  unfold State.judgeChiplet
  split
  · rfl
  · exact State.glob_get_close_ne hl hs s ..

/-! ### The two judgements of the guard (R449) -/

theorem Glob.get_countHeat (g : Glob) (j : Int) (k : Nat) : (g.countHeat j).get k = g.get k := rfl

theorem State.sens_setGuard (w : When4) (s : State) (j : Int) (point : Nat) :
    (s.setGuard w j point).glob.sens = { s.glob.sens with guardNs := s.glob.nowNs } := by
  unfold State.setGuard State.holdThermal
  rw [Glob.sens, State.glob_eachCell_of_keeps (P := (·.mgmt)) State.glob_mgmt_close]
  simp [Glob.putSensors, Glob.sens]

/-- The second hot sample in a row sets the guard, where the trip is not due. -/
theorem State.judgeHeat_sets (w : When4) (s : State) (ts : List Int) (hhot : 1 ≤ s.glob.sens.hot)
    (hset : s.glob.geti 16 G.ThermGuardSet ≤ hottest ts) (hcrit : hottest ts < s.glob.geti 16 G.ThermCritical)
    (hrel : s.glob.geti 16 G.ThermGuardRelease ≤ hottest ts) (hoff : s.glob.get G.ThermGuardActive = 0) :
    s.judgeHeat w ts =
      ({ s with glob := s.glob.countHeat (hottest ts) } : State).setGuard w (hottest ts) (hottestPoint ts) := by
  have hot : (s.glob.countHeat (hottest ts)).sens.hot = 2 := (if_pos hset).trans (by omega)
  have critical : (s.glob.countHeat (hottest ts)).sens.critical = 0 := if_neg (by omega)
  have cool : (s.glob.countHeat (hottest ts)).sens.cool = 0 := if_neg (by omega)
  have off : (s.glob.countHeat (hottest ts)).thermN = false := by
    rw [Glob.thermN, Glob.flag, Glob.get_countHeat, hoff]; rfl
  simp [State.judgeHeat, State.sens_setGuard, hot, critical, cool, off]

/-- The hundredth cool sample in a row clears it. -/
theorem State.judgeHeat_clears (w : When4) (s : State) (ts : List Int) (hcool : 99 ≤ s.glob.sens.cool)
    (hrel : hottest ts < s.glob.geti 16 G.ThermGuardRelease) (hset : hottest ts < s.glob.geti 16 G.ThermGuardSet)
    (hcrit : hottest ts < s.glob.geti 16 G.ThermCritical) (hon : s.glob.get G.ThermGuardActive = 1) :
    s.judgeHeat w ts = ({ s with glob := s.glob.countHeat (hottest ts) } : State).clearGuard w := by
  have hot : (s.glob.countHeat (hottest ts)).sens.hot = 0 := if_neg (by omega)
  have critical : (s.glob.countHeat (hottest ts)).sens.critical = 0 := if_neg (by omega)
  have cool : (s.glob.countHeat (hottest ts)).sens.cool = 100 := (if_pos hrel).trans (by omega)
  have on : (s.glob.countHeat (hottest ts)).thermN = true := by
    rw [Glob.thermN, Glob.flag, Glob.get_countHeat, hon]; rfl
  simp [State.judgeHeat, hot, critical, cool, on]

/-- With the trip clear, clearing the guard ends the hold and releases no cell. -/
theorem State.clearGuard_untripped (w : When4) (s : State) (h : s.glob.tripped = false) :
    ∃ g, g.get G.ThermGuardActive = 0 ∧ s.clearGuard w = ({ s with glob := g } : State).freeThermal w := by
  refine ⟨(s.glob.put G.ThermGuardActive 0).logEntry 15 0x2002 0
    (leBytes 4 ((s.glob.nowNs - s.glob.sens.guardNs) / 1000000 % 2 ^ 32)), by simp, if_neg ?_⟩
  rw [Glob.tripped, Glob.get_logEntry, Glob.get_put_ne (by decide), ← Glob.tripped, h]
  decide

/-- R449: the sample that sets the guard holds arming in all four cells together, but for those held in reset. -/
theorem sensorSample_holds_all (s : State) (w : When4) (ts : List Int) (vs : List Nat) (hp : s.powered) (hlen : ts.length = 32)
    (hrange : ∀ x ∈ ts, -32768 ≤ x ∧ x < 32768) (hhot : 1 ≤ s.glob.sens.hot)
    (hset : s.glob.geti 16 G.ThermGuardSet ≤ hottest ts) (hcrit : hottest ts < s.glob.geti 16 G.ThermCritical)
    (hrel : s.glob.geti 16 G.ThermGuardRelease ≤ hottest ts) (hoff : s.glob.get G.ThermGuardActive = 0) :
    Completes (.sensorSample w ts vs) s (fun t => ∀ n, (s.cell n).held = false → (t.cell n).get K.ThermalHold = 1) := by
  have same := (s.glob.at w.ns).sameHeat_withReadings hlen vs
  obtain ⟨set, release, critical, active⟩ := same.guardEntries
  refine ⟨_, exec_sensorSample s w ts vs hp hlen hrange, fun n hn => ?_⟩
  rw [State.get_judgeChiplets_ne (by decide) (by decide), State.judgeHeat_sets]
  · exact State.get_holdThermal w _ hn
  · exact same.hot ▸ hhot
  · exact set ▸ hset
  · exact critical ▸ hcrit
  · exact release ▸ hrel
  · exact active.trans hoff

/-- R449: the sample that clears the guard ends the hold in all four cells together, but for those held in reset. -/
theorem sensorSample_frees_all (s : State) (w : When4) (ts : List Int) (vs : List Nat) (hp : s.powered) (hlen : ts.length = 32)
    (hrange : ∀ x ∈ ts, -32768 ≤ x ∧ x < 32768) (hcool : 99 ≤ s.glob.sens.cool)
    (hrel : hottest ts < s.glob.geti 16 G.ThermGuardRelease) (hset : hottest ts < s.glob.geti 16 G.ThermGuardSet)
    (hcrit : hottest ts < s.glob.geti 16 G.ThermCritical) (hon : s.glob.get G.ThermGuardActive = 1)
    (htrip : s.glob.tripped = false) :
    Completes (.sensorSample w ts vs) s (fun t =>
      t.glob.get G.ThermGuardActive = 0 ∧ ∀ n, (s.cell n).held = false → (t.cell n).get K.ThermalHold = 0) := by
  have same := (s.glob.at w.ns).sameHeat_withReadings hlen vs
  obtain ⟨set, release, critical, active⟩ := same.guardEntries
  refine ⟨_, exec_sensorSample s w ts vs hp hlen hrange, ?_⟩
  rw [State.judgeHeat_clears]
  · obtain ⟨g, hg, hclear⟩ := State.clearGuard_untripped w
      { s with glob := ((s.glob.at w.ns).withReadings ts vs).countHeat (hottest ts) } (same.tripped.trans htrip)
    rw [hclear]
    refine ⟨?_, fun n hn => ?_⟩
    · rw [State.glob_get_judgeChiplets_ne (by decide) (by decide), State.freeThermal,
        State.glob_eachCell_of_keeps (P := (·.get G.ThermGuardActive)) (State.glob_get_close_ne (by decide) (by decide)), hg]
    · rw [State.get_judgeChiplets_ne (by decide) (by decide)]
      exact State.get_freeThermal w _ hn
  · exact same.cool ▸ hcool
  · exact release ▸ hrel
  · exact set ▸ hset
  · exact critical ▸ hcrit
  · exact active.trans hon

/-- Settles O58: each command of a cell goes through an operation that writes that cell alone, and a mask's reset or wipe works cell by
cell; the readings of a sensor sample leave the guard's own entries as they were, and what it judges it puts into every live cell. -/
theorem cellsAreIndependent : Obligations.CellsAreIndependent := by
  unfold Obligations.CellsAreIndependent
  exact ⟨fun s t _ _ m hcell hm h => exec_keepsOthers hcell s t h m hm, fun _ _ _ _ _ _ => cellResetRequest_keeps_outside,
    fun _ _ _ _ _ => wipeDone_keeps_outside, sensorSample_holds_all, sensorSample_frees_all⟩

end Sys2Proof.Machine
end

section
/-! Kept responses of HDAP (R441): a repeated request is answered from its kept response, and nothing that a request executes, short of a
device reset, touches what the port keeps. -/

namespace Sys2Proof.Machine

/-! ### What decides on the keeping of a response -/

/-- Whether the device runs, and the responses its Ethernet port keeps. -/
def Glob.hdapView (g : Glob) : Boot × List Kept := (g.mgmt.boot, g.eth.kept)

@[simp] theorem Glob.hdapView_at (g : Glob) (ns : Nat) : (g.at ns).hdapView = g.hdapView := by rfl
@[simp] theorem Glob.hdapView_put (g : Glob) (k v : Nat) : (g.put k v).hdapView = g.hdapView := by rfl
@[simp] theorem Glob.hdapView_inc32 (g : Glob) (k : Nat) : (g.inc32 k).hdapView = g.hdapView := by rfl
@[simp] theorem Glob.hdapView_answer (g : Glob) (p : Port) (code : Nat) : (g.answer p code).hdapView = g.hdapView := by rfl
@[simp] theorem Glob.hdapView_putPtp (g : Glob) (x : Ptp) : (g.putPtp x).hdapView = g.hdapView := by rfl
@[simp] theorem Glob.hdapView_putProf (g : Glob) (x : Profiles) : (g.putProf x).hdapView = g.hdapView := by rfl
@[simp] theorem Glob.hdapView_putLife (g : Glob) (l : Life) : (g.putLife l).hdapView = g.hdapView := by rfl
@[simp] theorem Glob.hdapView_wideBusy (g : Glob) (r : WideRun) : (g.wideBusy r).hdapView = g.hdapView := by rfl

@[simp] theorem Glob.hdapView_failed (g : Glob) (p : Port) (ix sub code : Nat) : (g.failed p ix sub code).hdapView = g.hdapView := by
  simp [Glob.hdapView]

@[simp] theorem Glob.hdapView_logEntry (g : Glob) (src code sev : Nat) (d : List Byte) :
    (g.logEntry src code sev d).hdapView = g.hdapView := by
  simp [Glob.hdapView]

@[simp] theorem Glob.hdapView_updStep (g : Glob) (st err : Nat) : (g.updStep st err).hdapView = g.hdapView := by
  simp [Glob.updStep]

@[simp] theorem Glob.hdapView_profileError (g : Glob) (ix sub code : Nat) : (g.profileError ix sub code).hdapView = g.hdapView := by
  simp [Glob.profileError]

@[simp] theorem Glob.hdapView_showJobs (g : Glob) : g.showJobs.hdapView = g.hdapView := by
  unfold Glob.showJobs
  split <;> rfl

@[simp] theorem Glob.hdapView_beginJob (g : Glob) : g.beginJob.hdapView = g.hdapView := by
  unfold Glob.beginJob
  split <;> rfl

@[simp] theorem Glob.hdapView_queueJob (g : Glob) (j : ProfileJob) : (g.queueJob j).hdapView = g.hdapView := by
  unfold Glob.queueJob
  dsimp only
  split <;> simp

/-- A read of the log notes where it began, and no other entry of the shared region is changed by its read. -/
theorem Glob.hdapView_readDict (g : Glob) (k : Nat) (e : Entry) : (g.readDict k e).2.hdapView = g.hdapView := by
  unfold Glob.readDict Glob.readLog
  split
  · dsimp only
    split <;> rfl
  · split <;> rfl

theorem State.hdapView_readEntry (s : State) (w : When4) (ix sub : Nat) : (s.readEntry w ix sub).2.glob.hdapView = s.glob.hdapView := by
  unfold State.readEntry
  split
  · rfl
  · split
    · rfl
    · split
      · rfl
      · split
        · rfl
        · split
          · rfl
          · exact Glob.hdapView_readDict ..

/-! ### Writes to an entry of a cell -/

@[simp] theorem State.hdapView_close (s : State) (n : CellNo) (w : When) (c : Cell) :
    (s.close n w c).glob.hdapView = s.glob.hdapView := by
  obtain ⟨hmgmt, -, -, heth, -⟩ := Glob.deliver_all_frame n c.out (s.glob.at w.ns)
  exact Prod.ext (congrArg Mgmt.boot hmgmt) (congrArg EthPort.kept heth)

@[simp] theorem State.hdapView_accepted (s : State) (p : Port) : (s.accepted p).glob.hdapView = s.glob.hdapView := rfl

@[simp] theorem State.hdapView_rejected (s : State) (p : Port) (ix sub code : Nat) :
    (s.rejected p ix sub code).glob.hdapView = s.glob.hdapView := Glob.hdapView_failed ..

theorem onCellRecord_hdapView (s : State) (n : CellNo) (w : When) (p : Port) (k : Nat) (f : Glob → Cell → Cell × Nat) :
    ((onCellRecord s n w p k f).state s).glob.hdapView = s.glob.hdapView := by
  unfold onCellRecord
  split
  · rfl
  · simp [Out.state, apply_ite Glob.hdapView]

/-- The outcome is that of a write with an effect on cell `n` alone. -/
def Out.isCellRecord (o : Out) (s : State) (n : CellNo) (x : When) (p : Port) : Prop := ∃ k f, o = onCellRecord s n x p k f

theorem onCellRecord_isCellRecord (s : State) (n : CellNo) (x : When) (p : Port) (k : Nat) (f : Glob → Cell → Cell × Nat) :
    (onCellRecord s n x p k f).isCellRecord s n x p := ⟨k, f, rfl⟩

theorem onCellPort_isCellRecord (s : State) (n : CellNo) (x : When) (p : Port) (k : Nat) (f : Glob → Cell → Except Nat Cell) :
    (onCellPort s n x p k f).isCellRecord s n x p := ⟨k, _, rfl⟩

theorem Out.isCellRecord_ite {o q : Out} {s : State} {n : CellNo} {x : When} {p : Port} {c : Prop} [Decidable c]
    (ho : o.isCellRecord s n x p) (hq : q.isCellRecord s n x p) : (if c then o else q).isCellRecord s n x p := by
  split
  · exact ho
  · exact hq

theorem Out.isCellRecord.hdapView {o : Out} {s : State} {n : CellNo} {x : When} {p : Port} (h : o.isCellRecord s n x p) :
    (o.state s).glob.hdapView = s.glob.hdapView := by
  obtain ⟨k, f, rfl⟩ := h
  exact onCellRecord_hdapView ..

/-- Every command that a BOOL entry of a cell takes is such a write: four of them change the cell where they fail too, the others go
through `onCellPort`. -/
theorem cellCommand_isCellRecord (n : CellNo) (x : When) (p : Port) (k : Nat) (s : State) :
    (cellCommand n x p k s).isCellRecord s n x p := by
  unfold cellCommand
  simp only [execArmRequest, execAccStart, execRasterCommit, execPatternStart]
  repeat' with_reducible refine Out.isCellRecord_ite ?_ ?_
  any_goals with_reducible exact onCellRecord_isCellRecord ..
  all_goals exact onCellPort_isCellRecord ..

theorem State.hdapView_routeCell (s : State) (w : When4) (p : Port) (n : CellNo) (k : Nat) (e : Entry) (data : List Byte) :
    (s.routeCell w p n k e data).glob.hdapView = s.glob.hdapView := by
  unfold State.routeCell State.writeCell
  dsimp only
  split
  · split
    · simp
    · split <;> simp
  · split
    · exact Out.isCellRecord.hdapView (onCellPort_isCellRecord ..)
    · split
      · simp
      · split
        · simp
        · exact (cellCommand_isCellRecord ..).hdapView

/-! ### Writes to an entry of the shared region -/

/-- A write that fails leaves the shared region, and one that succeeds leaves the boot and the kept responses. -/
def Glob.keepsHdapView (g : Glob) : Except Nat Glob → Prop
  | .ok h => h.hdapView = g.hdapView
  | .error _ => True

theorem Glob.keepsHdapView_ite {g : Glob} {c : Prop} [Decidable c] {a b : Except Nat Glob} (ha : g.keepsHdapView a)
    (hb : g.keepsHdapView b) : g.keepsHdapView (if c then a else b) := by
  split
  · exact ha
  · exact hb

theorem Glob.keepsHdapView_map {α : Type} {g : Glob} {f : α → Glob} (h : ∀ a, (f a).hdapView = g.hdapView) (r : Except Nat α) :
    g.keepsHdapView (r.map f) := by
  cases r with
  | error => trivial
  | ok a => exact h a

theorem onGlobPort_hdapView {s : State} {ns : Nat} {p : Port} {k : Nat} {f : Glob → Except Nat Glob}
    (h : (s.glob.at ns).keepsHdapView (f (s.glob.at ns))) :
    ((onGlobPort s ns p k f).state s).glob.hdapView = s.glob.hdapView := by
  cases hs : s.glob.serves p with
  | false => simp [onGlobPort, hs, Out.state]
  | true =>
    cases hr : s.glob.refuses k with
    | true => simp [onGlobPort, hs, hr, Out.state]
    | false =>
      cases hf : f (s.glob.at ns) with
      | error code => rw [onGlobPort_error s ns p k f code hs hr hf]; simp [Out.state]
      | ok g => rw [hf] at h; rw [onGlobPort_ok s ns p k f g hs hr hf]; simpa [Out.state, Glob.keepsHdapView] using h

/-! The clock's entries and the indicator's (R457, R480) -/

@[simp] theorem Glob.hdapView_unsync (g : Glob) : g.unsync.hdapView = g.hdapView := by
  simp [Glob.unsync]

@[simp] theorem Glob.hdapView_noMaster (g : Glob) : g.noMaster.hdapView = g.hdapView := by
  unfold Glob.noMaster
  dsimp only
  split <;> simp

@[simp] theorem Glob.hdapView_ptpEnabled (g : Glob) : g.ptpEnabled.hdapView = g.hdapView := by
  unfold Glob.ptpEnabled
  split
  · split <;> simp
  · simp

@[simp] theorem Glob.hdapView_reselect (g : Glob) : g.reselect.hdapView = g.hdapView := by
  unfold Glob.reselect
  split
  · simp
  · split <;> simp

@[simp] theorem Glob.hdapView_ptpWritten (g : Glob) (k : Nat) : (g.ptpWritten k).hdapView = g.hdapView := by
  unfold Glob.ptpWritten
  repeat' split
  all_goals simp

theorem Glob.keepsHdapView_indCurve (g : Glob) (n : CellNo) (col : Fin 3) (op : CurveWrite) :
    g.keepsHdapView (g.indCurve n col op) := by
  cases op with
  | mode v => exact Glob.keepsHdapView_ite trivial rfl
  | param v => exact Glob.keepsHdapView_ite rfl trivial

theorem Glob.keepsHdapView_indTarget (g : Glob) (n : CellNo) (col : Fin 3) (v : Nat) : g.keepsHdapView (g.indTarget n col v) :=
  Glob.keepsHdapView_ite trivial rfl

theorem Glob.keepsHdapView_storeNum (g : Glob) (k v : Nat) (e : Entry) : g.keepsHdapView (g.storeNum k v e) := by
  unfold Glob.storeNum
  split
  · exact g.keepsHdapView_indCurve ..
  · exact g.keepsHdapView_indCurve ..
  · exact g.keepsHdapView_indTarget ..
  · exact Glob.hdapView_ptpWritten ..

theorem Glob.keepsHdapView_writeDict (g : Glob) (k : Nat) (e : Entry) (data : List Byte) :
    g.keepsHdapView (g.writeDict k e data) :=
  keepsHdapView_ite trivial (keepsHdapView_ite (keepsHdapView_ite trivial rfl)
    (keepsHdapView_ite trivial (g.keepsHdapView_storeNum ..)))

/-! Resets of cells, and what follows from one: the strobe, the life cycle, a profile's activation -/

theorem State.hdapView_resetCells (s : State) (mask : Nat) : (s.resetCells mask).glob.hdapView = s.glob.hdapView := by
  refine State.glob_foldl_of_keeps (P := Glob.hdapView) (fun s n => ?_) allCellNos s
  split
  · unfold State.resetCell
    split <;> rfl
  · rfl

theorem execCellResetRequest_hdapView (ns : Nat) (p : Port) (mask : Nat) (s : State) :
    ((execCellResetRequest ns p mask s).state s).glob.hdapView = s.glob.hdapView := by
  unfold execCellResetRequest
  split
  · rfl
  · split
    · simp [Out.state]
    · exact State.hdapView_resetCells ..

theorem State.hdapView_strobeAll (s : State) (ns : Nat) (t : Strobe4) : (s.strobeAll ns t).glob.hdapView = s.glob.hdapView := by
  refine State.glob_foldl_of_keeps (P := Glob.hdapView) (fun s n => ?_) _ s
  unfold State.strobeCell
  split
  · exact State.hdapView_close ..
  · rfl

theorem execEpochStrobe_hdapView (ns : Nat) (p : Port) (t : Strobe4) (s : State) :
    ((execEpochStrobe ns p t s).state s).glob.hdapView = s.glob.hdapView := by
  unfold execEpochStrobe
  split
  · rfl
  · dsimp only
    split
    · simp [Out.state]
    · split
      · rfl
      · exact State.hdapView_strobeAll ..

theorem State.hdapView_enterLife (s : State) (l : Life) : (s.enterLife l).glob.hdapView = s.glob.hdapView := by
  simp [State.enterLife, State.hdapView_resetCells]

theorem State.hdapView_requestLife (s : State) (ns : Nat) (p : Port) (dest : Nat) :
    (s.requestLife ns p dest).glob.hdapView = s.glob.hdapView := by
  have spent : (if tokenPair (s.glob.at ns).lifeState dest then (s.glob.at ns).renewNonce else s.glob.at ns).hdapView =
      s.glob.hdapView := by split <;> rfl
  unfold State.requestLife
  dsimp only
  split
  · rfl
  · split
    · simp
    · split
      · simpa using spent
      · rw [State.hdapView_enterLife]
        exact spent

theorem State.hdapView_lifeRequest (s : State) (ns : Nat) (p : Port) (v : Nat) :
    (s.lifeRequest ns p v).glob.hdapView = s.glob.hdapView := by
  unfold State.lifeRequest
  split <;> exact State.hdapView_requestLife ..

theorem State.hdapView_noteWrite (s : State) (ix sub code : Nat) : (s.noteWrite ix sub code).glob.hdapView = s.glob.hdapView := by
  unfold State.noteWrite
  dsimp only
  split <;> simp

theorem State.hdapView_onCellNow (s : State) (n : CellNo) (f : Cell → Cell × Nat) :
    (s.onCellNow n f).1.glob.hdapView = s.glob.hdapView := State.hdapView_close ..

theorem State.hdapView_writeStored (s : State) (x : Nat × Nat × List Byte) : (s.writeStored x).glob.hdapView = s.glob.hdapView := by
  unfold State.writeStored
  split
  · dsimp only
    split
    · rfl
    · exact (State.hdapView_noteWrite ..).trans (State.hdapView_onCellNow ..)
  · dsimp only
    split
    · rfl
    next e _ =>
      have kept := s.glob.keepsHdapView_writeDict (256 * x.1 + x.2.1) e x.2.2
      split
      next g h => rw [h] at kept; exact (State.hdapView_noteWrite ..).trans kept
      next => exact State.hdapView_noteWrite ..

theorem State.hdapView_writeStep (s : State) (step : Nat) : (s.writeStep step).glob.hdapView = s.glob.hdapView :=
  List.foldlRecOn (motive := fun t : State => t.glob.hdapView = s.glob.hdapView) _ State.writeStored rfl
    fun t ht x _ => (State.hdapView_writeStored t x).trans ht

theorem State.hdapView_loadImage (s : State) (n : CellNo) (data : List Byte) (ok : LoadPhase) :
    (s.loadImage n data ok).glob.hdapView = s.glob.hdapView :=
  (State.hdapView_noteWrite ..).trans (State.hdapView_onCellNow ..)

theorem State.hdapView_startImages (s : State) (n : CellNo) : (s.startImages n).glob.hdapView = s.glob.hdapView := by
  unfold State.startImages
  dsimp only
  split
  · exact State.hdapView_loadImage ..
  · split
    · exact State.hdapView_loadImage ..
    · rfl

theorem State.hdapView_commitCell (s : State) (n : CellNo) : (s.commitCell n).glob.hdapView = s.glob.hdapView :=
  (State.hdapView_noteWrite ..).trans (State.hdapView_onCellNow ..)

theorem State.hdapView_activateFirst (s : State) (p : Fin 4) : (s.activateFirst p).glob.hdapView = s.glob.hdapView :=
  State.hdapView_writeStep ..

theorem State.hdapView_activateRest (s : State) : s.activateRest.glob.hdapView = s.glob.hdapView := by
  unfold State.activateRest
  split
  · rfl
  · rw [State.glob_foldl_of_keeps State.hdapView_startImages, State.glob_foldl_of_keeps State.hdapView_commitCell,
      State.hdapView_writeStep]

theorem execProfileActivate_hdapView (ns : Nat) (p : Port) (value : Nat) (s : State) :
    ((execProfileActivate ns p value s).state s).glob.hdapView = s.glob.hdapView := by
  unfold execProfileActivate
  dsimp only
  generalize asking : onGlobPort s ns p G.ProfileActivate _ = r
  have asked : (r.state s).glob.hdapView = s.glob.hdapView := by
    rw [← asking]
    refine onGlobPort_hdapView ?_
    refine Glob.keepsHdapView_map (fun _ => ?_) _
    rfl
  split
  next t =>
    split
    · exact asked
    · dsimp only [Out.state] at asked
      split
      · simpa [Out.state, Glob.refuseCorrupt] using asked
      · dsimp only [Out.state]
        rw [State.hdapView_activateRest, State.hdapView_resetCells, State.hdapView_activateFirst, asked]
  next => exact asked

/-! The commands of the update (R462) -/

theorem State.hdapView_control (s : State) (ns : Nat) (p : Port) (v : Nat) : (s.control ns p v).glob.hdapView = s.glob.hdapView := by
  unfold State.control
  split
  case h_5 => simp
  all_goals exact onGlobPort_hdapView (Glob.keepsHdapView_ite trivial (Glob.hdapView_updStep ..))

theorem execProgramData_hdapView (ns : Nat) (p : Port) (data : List Byte) (ok : Bool) (s : State) :
    ((execProgramData ns p data ok s).state s).glob.hdapView = s.glob.hdapView :=
  onGlobPort_hdapView (Glob.keepsHdapView_ite trivial (Glob.keepsHdapView_ite trivial (Glob.keepsHdapView_ite trivial
    (Glob.keepsHdapView_ite (Glob.hdapView_updStep ..) rfl))))

/-! ### A write of a whole value, short of one that resets the device -/

/-- The entries of the shared region that are commands (R13), but for DeviceResetRequest. -/
def sharedCommands : List Nat :=
  [G.ProfileActivate, G.ProfileStore, G.ProfileErase, G.LifeCycleRequest, G.ProgramData, G.ProgramControl, G.WideCommand, G.IntClear,
    G.EpochStrobe, G.CellResetRequest]

/-- A row that can only be written is one command. -/
def Entry.oneCommand (e : Entry) : Bool :=
  e.acc != .wo || (e.nIx == 1 && e.nSub == 1 &&
    (sharedCommands.contains (256 * e.ix + e.sub) || (e.ix == 0x2800 && e.sub == 9 && e.ty == .bool)))

theorem globBlock_oneCommand (b : Nat) : (globBlock b).all Entry.oneCommand = true := by
  unfold globBlock
  split <;> decide

/-- A shared entry that can only be written is a command of the list, or DeviceResetRequest. -/
theorem entryAt_wo {ix sub : Nat} {e : Entry} (hc : cellOfIx ix = none) (he : entryAt ix sub = some e) (hw : e.acc = .wo) :
    256 * ix + sub ∈ sharedCommands ∨ (ix = 0x2800 ∧ sub = 9 ∧ e.ty = .bool) := by
  have rows : rowsOfIx ix = (globBlock (ix / 256)).filter (fun e => e.hasIx ix) := by simp [rowsOfIx, hc]
  unfold entryAt at he
  split at he
  next x hx =>
    cases he
    have hsub := List.find?_some hx
    have hmem := List.mem_of_find?_eq_some hx
    rw [rows, List.mem_filter] at hmem
    have hone := List.all_eq_true.mp (globBlock_oneCommand _) e hmem.1
    have hix := hmem.2
    simp only [Entry.oneCommand, hw, Entry.hasIx, Bool.and_eq_true, Bool.or_eq_true, beq_iff_eq, decide_eq_true_eq,
      List.contains_iff_mem, bne_self_eq_false, Bool.false_eq_true, false_or] at hone hix hsub
    obtain ⟨⟨hnix, hnsub⟩, hone⟩ := hone
    have e1 : e.ix = ix := by omega
    have e2 : e.sub = sub := by omega
    rw [e1, e2] at hone
    simpa [and_assoc] using hone
  next =>
    split at he
    · cases he; cases hw
    · cases he

/-- A write of DeviceResetRequest that starts the command is the one that resets the device (R483). -/
theorem resetsDevice_of_leNat {data : List Byte} (hlen : data.length = 1) (hv : leNat data = 1) : resetsDevice 0x2800 9 data = true := by
  obtain ⟨b, rfl⟩ := List.length_eq_one_iff.mp hlen
  have hb : b = 1 := BitVec.eq_of_toNat_eq (by simpa [leNat] using hv)
  subst hb
  rfl

theorem State.hdapView_ite {s a b : State} {c : Prop} [Decidable c] (ha : c → a.glob.hdapView = s.glob.hdapView)
    (hb : ¬ c → b.glob.hdapView = s.glob.hdapView) : (if c then a else b).glob.hdapView = s.glob.hdapView := by
  split
  · exact ha ‹_›
  · exact hb ‹_›

/-- With the entries of `sharedCommands` passed by, what is left of a command is the reset of the device. -/
theorem State.hdapView_routeGlob (s : State) (w : When4) (p : Port) {ix sub : Nat} {e : Entry} {data : List Byte}
    (hcmd : e.acc = .wo → 256 * ix + sub ∈ sharedCommands ∨ (ix = 0x2800 ∧ sub = 9 ∧ leNat data ≠ 1)) :
    (s.routeGlob w p (256 * ix + sub) e data).glob.hdapView = s.glob.hdapView := by
  have queued (g : Glob) (v : Nat) (job : Fin 4 → ProfileJob) : g.keepsHdapView ((g.profileArg v).map fun i => g.queueJob (job i)) :=
    Glob.keepsHdapView_map (fun _ => Glob.hdapView_queueJob ..) _
  unfold State.routeGlob
  refine hdapView_ite (fun _ => onGlobPort_hdapView (Glob.keepsHdapView_writeDict ..)) fun hwo => ?_
  refine hdapView_ite (fun _ => hdapView_rejected ..) fun hwide => ?_
  refine hdapView_ite (fun _ => execProfileActivate_hdapView ..) fun hactivate => ?_
  refine hdapView_ite (fun _ => onGlobPort_hdapView (queued ..)) fun hstore => ?_
  refine hdapView_ite (fun _ => onGlobPort_hdapView (queued ..)) fun herase => ?_
  refine hdapView_ite (fun _ => hdapView_lifeRequest ..) fun hlife => ?_
  refine hdapView_ite (fun _ => execProgramData_hdapView ..) fun hdata => ?_
  refine hdapView_ite (fun _ => hdapView_control ..) fun hcontrol => ?_
  refine hdapView_ite (fun _ => onGlobPort_hdapView (Glob.hdapView_put ..)) fun hclear => ?_
  refine hdapView_ite (fun _ => execCellResetRequest_hdapView ..) fun hcell => ?_
  refine hdapView_ite (fun _ => hdapView_rejected ..) fun hhigh => ?_
  refine hdapView_ite (fun _ => hdapView_accepted ..) fun hzero => ?_
  refine hdapView_ite (fun _ => execEpochStrobe_hdapView ..) fun hstrobe => ?_
  replace hcmd := hcmd (Decidable.not_not.mp hwo)
  simp only [sharedCommands, List.mem_cons, List.not_mem_nil, or_false] at hcmd
  omega

/-- The entry a write reaches, and the length of a value of fixed size (R424). -/
theorem writeCause_ok {ix sub len : Nat} {e : Entry} (h : writeCause ix sub len = .ok e) :
    entryAt ix sub = some e ∧ (e.ty.isBlock = false → len = e.ty.bytes) := by
  unfold writeCause writeTarget at h
  split at h
  · cases h
  next x hx =>
    have entry : entryAt ix sub = some x := by
      split at hx
      · cases hx
      · split at hx
        · cases hx
        · split at hx
          · cases hx
          · cases hx; assumption
    split at h
    · cases h
    next hlen =>
      split at h
      · cases h
      · cases h
        exact ⟨entry, fun hblock => by simpa [hblock] using hlen⟩

theorem State.hdapView_writeInner (s : State) (w : When4) (p : Port) {ix sub : Nat} {data : List Byte}
    (hreset : Machine.resetsDevice ix sub data = false) : (s.writeInner w p ix sub data).glob.hdapView = s.glob.hdapView := by
  unfold State.writeInner
  dsimp only
  split
  · rfl
  · split
    · simp
    next e he =>
      split
      · exact State.hdapView_routeCell ..
      next hc =>
        refine State.hdapView_routeGlob _ w p fun hwo => ?_
        obtain ⟨hentry, hlen⟩ := writeCause_ok he
        refine (entryAt_wo hc hentry hwo).imp_right fun ⟨hix, hsub, hty⟩ => ⟨hix, hsub, fun hv => ?_⟩
        rw [hty] at hlen
        rw [hix, hsub, resetsDevice_of_leNat (hlen rfl) hv] at hreset
        cases hreset

/-- A wide access that starts leaves what the port keeps, where its reading does. -/
theorem State.hdapView_startWide (s : State) (ns : Nat) (p : Port) {f : State → State}
    (hf : ∀ s : State, (f s).glob.hdapView = s.glob.hdapView) : (s.startWide ns p f).glob.hdapView = s.glob.hdapView := by
  unfold State.startWide
  dsimp only
  split
  · rfl
  · split
    · simp
    · exact hf _

theorem State.hdapView_wideRead (s : State) (w : When4) (p : Port) : (s.wideRead w p).glob.hdapView = s.glob.hdapView :=
  s.hdapView_startWide w.ns p fun s => (Glob.hdapView_wideBusy ..).trans (s.hdapView_readEntry ..)

theorem State.hdapView_wideWrite (s : State) (w : When4) (p : Port) : (s.wideWrite w p).glob.hdapView = s.glob.hdapView :=
  s.hdapView_startWide w.ns p fun _ => Glob.hdapView_wideBusy ..

theorem State.hdapView_writeEntry (s : State) (w : When4) (p : Port) {ix sub : Nat} {data : List Byte}
    (hreset : Machine.resetsDevice ix sub data = false) : (s.writeEntry w p ix sub data).glob.hdapView = s.glob.hdapView := by
  unfold State.writeEntry
  split
  · split
    · exact s.hdapView_wideRead w p
    · exact s.hdapView_wideWrite w p
    · exact s.hdapView_startWide w.ns p fun s => s.hdapView_rejected ..
  · exact s.hdapView_writeInner w p hreset

/-! ### What HDAP makes of a request (R441) -/

/-- A request that matches a kept response sends it once more, is counted, and changes nothing else. -/
theorem State.hdap_repeated {s : State} {ns : Nat} {q : HdapReq} {op : Nat} {k : Kept} (f : State → State × List Byte)
    (hon : s.glob.ethOn = true)
    (hk : s.glob.eth.kept.find? (fun x => x.peer == q.peer && x.seq == q.seq && x.opcode == op) = some k) :
    s.hdap ns q op f =
      { s with glob := { (s.glob.at ns).inc32 G.HdapDuplicates with eth := { s.glob.eth with answer := k.answer } } } := by
  have hon' : (s.glob.at ns).ethOn = true := hon
  simp [State.hdap, hon', hk]

/-- Any other request is executed, and its response becomes the newest of the 16 kept ones, unless it stops the device. -/
theorem State.hdap_new {s : State} {ns : Nat} {q : HdapReq} {op : Nat} {f : State → State × List Byte}
    (hf : ∀ s : State, (f s).1.glob.hdapView = s.glob.hdapView) (hon : s.glob.ethOn = true)
    (hk : s.glob.eth.kept.find? (fun x => x.peer == q.peer && x.seq == q.seq && x.opcode == op) = none) :
    (s.hdap ns q op f).glob.eth.kept = (⟨q.peer, q.seq, op, (s.hdap ns q op f).glob.eth.answer⟩ :: s.glob.eth.kept).take 16 := by
  have hon' : (s.glob.at ns).ethOn = true := hon
  have view := hf { s with glob := (s.glob.at ns).inc32 G.HdapRequests }
  simp only [Glob.hdapView, Prod.mk.injEq] at view
  obtain ⟨hboot, hkept⟩ := view
  have running : s.glob.mgmt.boot = .running := by
    simp only [Glob.ethOn, Glob.serves, Bool.and_eq_true, beq_iff_eq] at hon
    exact hon.1.1.1
  simp [State.hdap, hon', hk, hboot, hkept, running]

/-- The command is an HDAP request: some `f` executes it where no kept response answers it, and with `safe` leaves what the port keeps. -/
def IsHdapRequest (i : Instr) (ns : Nat) (q : HdapReq) (op : Nat) (safe : Prop) : Prop :=
  ∃ f, (∀ s, exec i s = .next (s.hdap ns q op f)) ∧ (safe → ∀ s : State, (f s).1.glob.hdapView = s.glob.hdapView)

theorem IsHdapRequest.repeated {i : Instr} {ns : Nat} {q : HdapReq} {op : Nat} {safe : Prop} {k : Kept}
    (h : IsHdapRequest i ns q op safe) {s : State} (hon : s.glob.ethOn = true)
    (hk : s.glob.eth.kept.find? (fun x => x.peer == q.peer && x.seq == q.seq && x.opcode == op) = some k) :
    Completes i s (fun t =>
      t.glob.get G.HdapDuplicates = wrapAdd 32 (s.glob.get G.HdapDuplicates) 1 ∧
      s.becomes t { s.glob with nowNs := ns, eth := { s.glob.eth with answer := k.answer } } [G.HdapDuplicates]) := by
  obtain ⟨f, hexec, -⟩ := h
  refine ⟨_, hexec s, ?_⟩
  rw [State.hdap_repeated f hon hk]
  refine ⟨Glob.get_put_self .., rfl, fun j hj => ?_⟩
  exact Glob.get_put_ne (by simpa using hj) (s.glob.at ns) _

theorem IsHdapRequest.kept {i : Instr} {ns : Nat} {q : HdapReq} {op : Nat} {safe : Prop} (h : IsHdapRequest i ns q op safe)
    (hsafe : safe) {s : State} (hon : s.glob.ethOn = true)
    (hk : s.glob.eth.kept.find? (fun x => x.peer == q.peer && x.seq == q.seq && x.opcode == op) = none) :
    Completes i s (fun t => t.glob.eth.kept = (⟨q.peer, q.seq, op, t.glob.eth.answer⟩ :: s.glob.eth.kept).take 16) := by
  obtain ⟨f, hexec, hview⟩ := h
  exact ⟨_, hexec s, State.hdap_new (hview hsafe) hon hk⟩

theorem hdapFault_hdapView (q : HdapReq) (op code : Nat) (s : State) : (hdapFault q op code s).1.glob.hdapView = s.glob.hdapView :=
  Glob.hdapView_answer ..

theorem isHdapRequest_read (w : When4) (q : HdapReq) (len : Nat) : IsHdapRequest (.hdapRead w q len) w.ns q 1 True := by
  refine ⟨_, fun _ => rfl, fun _ s => ?_⟩
  dsimp only
  split
  · exact hdapFault_hdapView ..
  · split
    · exact hdapFault_hdapView ..
    · exact State.hdapView_readEntry ..

theorem isHdapRequest_readContinue (w : When4) (q : HdapReq) (len : Nat) :
    IsHdapRequest (.hdapReadContinue w q len) w.ns q 1 True := by
  refine ⟨_, fun _ => rfl, fun _ s => ?_⟩
  split
  · exact hdapFault_hdapView ..
  · split
    · exact hdapFault_hdapView ..
    · split
      · exact hdapFault_hdapView ..
      · exact Glob.hdapView_answer ..

theorem isHdapRequest_write (w : When4) (q : HdapReq) (data : List Byte) :
    IsHdapRequest (.hdapWrite w q data) w.ns q 2 (resetsDevice q.ix q.sub data = false) := by
  refine ⟨_, fun _ => rfl, fun hreset s => ?_⟩
  split
  · exact hdapFault_hdapView ..
  · exact s.hdapView_writeEntry w .eth hreset

/-- The value that the last segment writes is the whole assembly, so a segment for DeviceResetRequest may reset the device. -/
theorem isHdapRequest_writeSegment (w : When4) (q : HdapReq) (last : Bool) (data : List Byte) :
    IsHdapRequest (.hdapWriteSegment w q last data) w.ns q 3 (∀ value, resetsDevice q.ix q.sub value = false) := by
  refine ⟨_, fun _ => rfl, fun hreset s => ?_⟩
  dsimp only
  split
  · exact hdapFault_hdapView ..
  next before _ =>
    split
    · split
      · exact hdapFault_hdapView ..
      · exact hdapFault_hdapView ..
    · split
      · exact State.hdapView_writeEntry (s.mapGlob (fun g => g.putAssembly none)) w .eth (hreset (before ++ data))
      · rfl

theorem isHdapRequest_reserved (ns : Nat) (q : HdapReq) (op : Nat) :
    IsHdapRequest (.hdapBadDatagram ns (.reserved q op)) ns q op True :=
  ⟨_, fun _ => rfl, fun _ _ => hdapFault_hdapView ..⟩

theorem resetsDevice_eq_false {ix sub : Nat} {data : List Byte} (h : ¬ (ix = 0x2800 ∧ sub = 9 ∧ data = [1])) :
    resetsDevice ix sub data = false := by
  rw [Bool.eq_false_iff]
  simpa [resetsDevice, and_assoc] using h

/-- Settles O47: each of the five requests goes through `State.hdap`, which answers a repeated one from its kept response; what executes any
other leaves the boot and the kept responses as they were, since no write short of a device reset reaches them. -/
theorem keptResponses : Obligations.KeptResponses := by
  unfold Obligations.KeptResponses
  refine ⟨fun s w q i op k hon hform hk => ?_, fun s w q i op hon hform hk => ?_⟩
  · rcases hform with ⟨rfl, ⟨len, rfl⟩ | ⟨len, rfl⟩⟩ | ⟨rfl, data, rfl⟩ | ⟨rfl, last, data, rfl⟩ | rfl
    · exact (isHdapRequest_read w q len).repeated hon hk
    · exact (isHdapRequest_readContinue w q len).repeated hon hk
    · exact (isHdapRequest_write w q data).repeated hon hk
    · exact (isHdapRequest_writeSegment w q last data).repeated hon hk
    · exact (isHdapRequest_reserved w.ns q op).repeated hon hk
  · rcases hform with ⟨rfl, ⟨len, rfl⟩ | ⟨len, rfl⟩⟩ | ⟨rfl, data, rfl, hreset⟩ |
      ⟨rfl, ⟨last, data, rfl⟩, hreset⟩ | rfl
    · exact (isHdapRequest_read w q len).kept trivial hon hk
    · exact (isHdapRequest_readContinue w q len).kept trivial hon hk
    · exact (isHdapRequest_write w q data).kept (resetsDevice_eq_false hreset) hon hk
    · exact (isHdapRequest_writeSegment w q last data).kept
        (fun _ => resetsDevice_eq_false fun ⟨hix, hsub, _⟩ => hreset ⟨hix, hsub⟩) hon hk
    · exact (isHdapRequest_reserved w.ns q op).kept trivial hon hk

end Sys2Proof.Machine
end

section
/-! Reading the log (R456): the entries a read returns are the part of the selected view that lies not before LogReadSequence. -/

namespace Sys2Proof.Machine

/-! ### The oldest entry and the entries of a read -/

theorem Glob.logOldest_of_head? {g : Glob} {e : LogEntry} (h : g.logView.head? = some e) : g.logOldest = e.seq := by
  obtain ⟨es, hview⟩ := List.head?_eq_some_iff.mp h
  simp [Glob.logOldest, hview]

/-- The ring and the mirror keep the newest entry first, the view the oldest. -/
theorem Glob.head?_logView (g : Glob) :
    g.logView.head? = (if g.get G.LogView = 1 then g.log.mirror else g.log.ring).getLast? := List.head?_reverse

theorem Glob.logOldest_ring {g : Glob} {e : LogEntry} (h : g.log.ring.getLast? = some e) (hview : g.get G.LogView ≠ 1) :
    g.logOldest = e.seq :=
  Glob.logOldest_of_head? (by rw [Glob.head?_logView, if_neg hview, h])

theorem Glob.logOldest_mirror {g : Glob} {e : LogEntry} (h : g.log.mirror.getLast? = some e) (hview : g.get G.LogView = 1) :
    g.logOldest = e.seq :=
  Glob.logOldest_of_head? (by rw [Glob.head?_logView, if_pos hview, h])

/-- Where the wanted sequence number divides the view, a read begins at the division. -/
theorem Glob.logRead_of_split {g : Glob} {old new : List LogEntry} (hview : g.logView = old ++ new)
    (hold : ∀ e ∈ old, seqOffset g.logOldest e.seq < seqOffset g.logOldest (g.get G.LogReadSequence))
    (hnew : ∀ e ∈ new, seqOffset g.logOldest (g.get G.LogReadSequence) ≤ seqOffset g.logOldest e.seq) :
    g.logRead = new.take 32 := by
  have skipped : old.filter (fun e => seqOffset g.logOldest (g.get G.LogReadSequence) ≤ seqOffset g.logOldest e.seq) = [] :=
    List.filter_eq_nil_iff.mpr fun e he => by simpa using hold e he
  have wanted : new.filter (fun e => seqOffset g.logOldest (g.get G.LogReadSequence) ≤ seqOffset g.logOldest e.seq) = new :=
    List.filter_eq_self.mpr fun e he => by simpa using hnew e he
  simp only [Glob.logRead, hview, List.filter_append, skipped, wanted, List.nil_append]

/-! ### What a read leaves -/

theorem Glob.readLog_of_nil {g : Glob} (h : g.logRead = []) : g.readLog = ([], g) := by simp [Glob.readLog, h]

theorem Glob.readLog_of_cons {g : Glob} {e : LogEntry} {es : List LogEntry} (h : g.logRead = e :: es) :
    g.readLog = ((e :: es).flatMap LogEntry.bytes, g.put G.LogReadFirst e.seq) := by
  simp [Glob.readLog, h]

/-- A read, whatever it returns, changes no entry but LogReadFirst, and nothing beside the entries. -/
theorem Glob.readLog_keeps (g : Glob) :
    g.readLog.2 = { g with regs := g.readLog.2.regs } ∧ ∀ k, k ≠ G.LogReadFirst → g.readLog.2.get k = g.get k := by
  cases h : g.logRead with
  | nil => rw [Glob.readLog_of_nil h]; exact ⟨rfl, fun _ _ => rfl⟩
  | cons e es => rw [Glob.readLog_of_cons h]; exact ⟨rfl, fun _ hk => Glob.get_put_ne hk g e.seq⟩

theorem State.heard_answer (s : State) (g : Glob) (p : Port) (code : Nat) :
    State.heard { s with glob := g.answer p code } p = code := by
  cases p <;> rfl

theorem exec_logRead {s : State} {p : Port} (hw : s.writes p G.LogReadData) (ns : Nat) :
    exec (.logRead ns p) s =
      .next { s with glob := Glob.answer { (s.glob.at ns).readLog.2 with readData := (s.glob.at ns).readLog.1 } p 0 } := by
  obtain ⟨hserves, hrefuses⟩ := hw
  exact onGlobPort_ok s ns p G.LogReadData (fun g => .ok { g.readLog.2 with readData := g.readLog.1 }) _ hserves hrefuses rfl

theorem logRead_completes {s : State} {p : Port} (hw : s.writes p G.LogReadData) {ns first : Nat} {data : List Byte} {g : Glob}
    (hread : (s.glob.at ns).readLog = (data, g)) (hfirst : g.get G.LogReadFirst = first) :
    Completes (.logRead ns p) s (fun t =>
      t.heard p = 0 ∧ t.glob.readData = data ∧ t.glob.get G.LogReadFirst = first ∧
      s.becomes t { ({ s.glob with nowNs := ns } : Glob).answer p 0 with readData := t.glob.readData } [G.LogReadFirst]) := by
  have happens := exec_logRead hw ns
  obtain ⟨hframe, hkeeps⟩ := (s.glob.at ns).readLog_keeps
  rw [hread] at happens hframe hkeeps
  refine ⟨_, happens, State.heard_answer .., rfl, hfirst, ?_, fun k hk => hkeeps k (List.ne_of_not_mem_cons hk)⟩
  rw [hframe]
  rfl

/-- Settles O50: in the selected view, oldest entry first, the wanted sequence number divides the entries passed over from those returned,
and LogReadFirst takes the number of the first of these, or stays where none is returned. -/
theorem logReads : Obligations.LogReads := by
  unfold Obligations.LogReads
  refine ⟨fun s ns p old new hw hview hold hnew => ?_, fun _ _ => Glob.logOldest_ring, fun _ _ => Glob.logOldest_mirror⟩
  have hread : (s.glob.at ns).logRead = new.take 32 := Glob.logRead_of_split (g := s.glob.at ns) hview hold hnew
  cases new with
  | nil => exact logRead_completes hw (Glob.readLog_of_nil hread) rfl
  | cons e es => exact logRead_completes hw (Glob.readLog_of_cons hread) (Glob.get_put_self ..)

end Sys2Proof.Machine
end
